-- ==== Sys2Proof/Word.lean ====
section
/-! DEFINITION. The plain word types of the LX6: what the manual treats as bits. -/

namespace Sys2Proof

/-- One byte of a frame, a record or a register. -/
abbrev Byte := BitVec 8

/-- A 32-bit register word, tag or argument word. -/
abbrev Word := BitVec 32

/-- A cumulative count (POSTED, TAKEN, SEALED, RELEASED, record and seal numbers): it wraps at 2^32 (R111). -/
abbrev Count := BitVec 32

/-- A reading of the aisle clock in milliseconds: it wraps at 2^32 (R170). -/
abbrev Clock := BitVec 32

/-- An address in host memory. -/
abbrev Addr := BitVec 64

end Sys2Proof
end

