-- ==== Sys2Proof/Syntax.lean ====
section
/-! DEFINITION. The commands of the LX6: one constructor for each row of spec/opcode_table.json, with what the event brings.
The records that the consumption commands act on stand in the intake queue, so those commands carry no operand (log 2). -/

namespace Sys2Proof

/-- Which link read a failure concerns (R167). -/
inductive ReadRef where
  /-- The START read: header host line and setup block, issued together (R108). -/
  | startRead
  /-- The header poll (R121). -/
  | headerPoll
  /-- The record fetch (R126). -/
  | recordFetch
  /-- The atlas demand fetch (R100). -/
  | atlasDemand
  /-- The atlas lookahead fetch (R101). -/
  | atlasLookahead
  /-- The read at this place of the list of voided reads still awaited (R120, R106). -/
  | voided (place : Nat)
  deriving DecidableEq, Repr

/-- The commands: the steps of the part, each whole and indivisible (95_what_each_step_holds.md). -/
inductive Instr where
  /-- POWER_ON (R169). -/
  | powerOn
  /-- LINK_RESET: loss of the link or a hot reset (R169). -/
  | linkReset
  /-- SWEEP_DONE: entry 479 is written (R175). -/
  | sweepDone
  /-- ACTION 1 (R108, R165). -/
  | start
  /-- ACTION 2 (R166). -/
  | halt
  /-- ACTION 3 (R166). -/
  | resume
  /-- ACTION 4 (R168). -/
  | clear
  /-- ACTION 5 (R169). -/
  | reset
  /-- ACTION 6 (R122). -/
  | prompt
  /-- An ACTION write with a value outside 1..6 (R164). -/
  | actionOutOfRange (value : Word)
  /-- A write to EXBASE-HI (`hi`) or EXBASE-LO (R163). -/
  | exbaseWrite (hi : Bool) (value : Word)
  /-- A write to NOTICE (R163). -/
  | noticeWrite (value : Word)
  /-- A write to NOTICE-MASK (R161, R163). -/
  | noticeMaskWrite (value : Word)
  /-- A write to FAULT-WHERE (R163, R174). -/
  | faultWhereWrite (value : Word)
  /-- A read of STATE (R164). -/
  | stateRead
  /-- A write to a word or bit with no behaviour of its own (R163). -/
  | registerWriteIgnored (offset : Nat) (value : Word)
  /-- Both START reads complete: the 64-byte host line and the 64-byte setup block (R108, R109). -/
  | startReadArrival (hostLine setupBlock : List Byte)
  /-- A link read completes with an error (R167). -/
  | linkReadError (read : ReadRef)
  /-- No completion within 50 ms of the read's issue (R167). -/
  | linkReadTimeout (read : ReadRef)
  /-- The completion of a voided read (R120, R106). -/
  | voidedReadArrival (place : Nat)
  /-- The poll period in force elapses (R121). -/
  | headerPollIssue
  /-- A header poll arrives with the 64-byte host line (R123, R124). -/
  | headerPollArrival (hostLine : List Byte)
  /-- A record fetch arrives: 32 bytes a record (R127). -/
  | recordFetchArrival (data : List Byte)
  /-- A demand fetch arrives with the 16-byte atlas entry (R100). -/
  | atlasDemandArrival (entry : List Byte)
  /-- A lookahead fetch arrives with the 16-byte atlas entry (R102). -/
  | atlasLookaheadArrival (entry : List Byte)
  /-- The PICK record at the head is offered and, if it can be, consumed (R1, R96, R131). -/
  | pick
  /-- The QUALIFIER record at the head is consumed (R129). -/
  | qualifier
  /-- The CANCEL record at the head (R138). -/
  | cancel
  /-- The AMEND record at the head (R140). -/
  | amend
  /-- The LANE-SETUP record at the head (R11, R143). -/
  | laneSetup
  /-- The ATLAS-DROP record at the head (R104, R144). -/
  | atlasDrop
  /-- The FENCE record at the head (R145). -/
  | fence
  /-- The LIGHT-TEST record at the head (R147). -/
  | lightTest
  /-- The CENSUS record at the head (R148). -/
  | census
  /-- The SKIP record at the head (R149). -/
  | skip
  /-- The record of unknown kind at the head (R149). -/
  | unknownKind
  /-- The exchange on the string ends with these bytes on the line (R70, R74). -/
  | moduleReply (string : Fin 4) (frame : List Byte)
  /-- The exchange on the string ends with no reply (R70, R75). -/
  | exchangeMiss (string : Fin 4)
  /-- The broadcast on the string ends (R70). -/
  | broadcastEnd (string : Fin 4)
  /-- The settling time ends (R77). -/
  | settlingEnd (string : Fin 4)
  /-- The light test's time ends (R84). -/
  | lightTestEnd (string : Fin 4)
  /-- A quiet period elapses (R81). -/
  | quietPeriod (string : Fin 4)
  /-- The dormancy timer reaches 60 s (R81). -/
  | dormancyTimeout (string : Fin 4)
  /-- The attention wire is at this level (R82; log 14). -/
  | attentionWake (string : Fin 4) (low : Bool)
  /-- The feed-fault input is at this level (R91; log 14). -/
  | feedFault (string : Fin 4) (asserted : Bool)
  /-- The abandon timer of a pick entry runs out (R18). -/
  | abandonTimeout (entry : Nat)
  /-- The linger timer of a claim, named by context entry and serial, runs out (R37). -/
  | lingerExpiry (context serial : Nat)
  /-- The pin timer of a context runs out (R55). -/
  | pinTimeout (context : Nat)
  /-- The seal timer runs out (R155). -/
  | sealTimeout
  /-- The oldest item of the report list is written (R154). -/
  | journalWrite
  deriving DecidableEq, Repr

end Sys2Proof
end

