-- ==== Sys2Proof/Machine/Types.lean ====
section
/-! DEFINITION. The plain data of the eight blocks: what State is made of.
Names and values follow the tables of spec/ that each docstring cites. -/

namespace Sys2Proof.Machine

/-! ### Run control -/

/-- The five run states (R164, 10.2). -/
inductive RunState where
  | sweeping | unset | starting | running | halted
  deriving DecidableEq, Repr

/-- The verdict of the last START (R109, Table 10-1). -/
inductive Verdict where
  | unjudged | accepted | sizes | atlas | counters | link
  deriving DecidableEq, Repr

/-- Cause and detail names of Table 6-7. -/
inductive Cause where
  | none | badQty | laneOff | badSlot | duplicateTag | slotUnusable | moduleShared | qualifierOverrun | badQualifier
  | badArgument | laneBusy | colourTaken | notFound | tooLate | overCapacity | stringOff | stringBusy | unknownKind
  | stale | noFace | withdrawn | cold | pinConflict | misses | feedFault | reboot | returned | entry | context
  deriving DecidableEq, Repr

/-- The six kinds of final outcome (Table 1-1). -/
inductive OutcomeKind where
  | full | short | over | cancelled | refused | faulted
  deriving DecidableEq, Repr

/-- The kinds of outcome record (Table 6-6): final outcomes and advisories. -/
inductive RecordKind where
  | final (kind : OutcomeKind)
  | overdue | strayPress | pressOverflow | moduleLost | moduleBack | directiveRefused | fenceReached | censusDone | testDone
  deriving DecidableEq, Repr

/-- The contents of an outcome record (Table 6-6), all but its advisories-lost byte. -/
structure OutcomeRecord where
  kind : RecordKind
  cause : Cause
  lane : Byte
  adjusted : Bool
  urgent : Bool
  quiet : Bool
  suspectTag : Bool
  overdueReported : Bool
  tag : Word
  slot : BitVec 16
  requested : BitVec 16
  confirmed : BitVec 16
  bundleSize : Byte
  bundlePosition : Byte
  intakeSequence : Count
  timeAccepted : Clock
  timeClosed : Clock
  deriving DecidableEq, Repr

/-! ### Atlas -/

/-- The five fields of an atlas entry, as read (R95, R117). -/
structure AtlasFields where
  usable : Bool
  string : Nat
  address : Nat
  limit : Nat
  solo : Bool
  deriving DecidableEq, Repr

/-- The atlas copy of a context or a deferred pick (R105). -/
structure AtlasCopy where
  string : Nat
  address : Nat
  limit : Nat
  solo : Bool
  deriving DecidableEq, Repr

/-- A way of the cache (Table 5-1). `parity` says that the stored parity fits the contents (R171). -/
structure Way where
  parity : Bool
  valid : Bool
  tag : Nat
  fields : AtlasFields
  deriving DecidableEq, Repr

/-- The lookahead entry while valid (Table 5-1). -/
structure Lookahead where
  slot : Nat
  fields : AtlasFields
  deriving DecidableEq, Repr

/-- A link read of a block: idle, under way with its age in ms, or held after failure.
`what` is the slot of an atlas fetch, the number of records of a record fetch, 0 for a header poll. -/
inductive ReadState where
  | idle
  | underWay (what age : Nat)
  | held (what : Nat)
  deriving DecidableEq, Repr

/-- A read voided by an ATLAS-DROP, CLEAR or a reset and still awaited (R167). -/
inductive VoidedRead where
  | start | poll | record | demand | lookahead
  deriving DecidableEq, Repr

/-- The Atlas Cache (05). A set's LRU bit is true when it names way 1. -/
structure Cache where
  ways : List Way
  lru : List Bool
  lookahead : Option Lookahead
  demand : ReadState
  ahead : ReadState
  deriving DecidableEq, Repr

/-! ### Picks -/

/-- The outcome fields of a REPORTING pick (Table 1-1). -/
structure Outcome where
  kind : OutcomeKind
  cause : Cause
  confirmed : Nat
  timeClosed : Clock
  bundleSize : Nat
  bundlePosition : Nat
  adjusted : Bool
  suspectTag : Bool
  deriving DecidableEq, Repr

/-- Where a pick that is not FREE stands. A placed pick is WAITING or SHOWN as its claim is (R5; log 10). -/
inductive Stage where
  | deferred (atlas : AtlasCopy)
  | placed
  | reporting (outcome : Outcome)
  deriving DecidableEq, Repr

/-- The fields of a pick entry that is not FREE (Table 1-1). -/
structure Pick where
  tag : Word
  lane : Nat
  slot : Nat
  requested : Nat
  intakeSequence : Count
  timeAccepted : Clock
  urgent : Bool
  quiet : Bool
  /-- Remaining ms, while the pick runs an abandon timer (R17). -/
  abandon : Option Nat
  overdueReported : Bool
  stage : Stage
  deriving DecidableEq, Repr

/-- A pick-table entry: FREE or a pick, with its parity (R171). -/
structure PickEntry where
  parity : Bool
  pick : Option Pick
  deriving DecidableEq, Repr

/-- The five states of a pick (Table 1-2). -/
inductive PickState where
  | free | deferred | waiting | shown | reporting
  deriving DecidableEq, Repr

/-- A lane (Table 1-4): OPEN with a colour, or OFF with none. -/
structure Lane where
  colour : Option Nat
  linger : Nat
  abandon : Nat
  deriving DecidableEq, Repr

/-- A fence of the fence list (8.6). -/
structure Fence where
  id : Word
  intakeSequence : Count
  timeAccepted : Clock
  deriving DecidableEq, Repr

/-- The Pick Manager (01). Lane l stands at place l - 1 of `lanes`. -/
structure PickManager where
  entries : List PickEntry
  free : Nat
  deferred : List Nat
  lanes : List Lane
  fences : List Fence
  deriving DecidableEq, Repr

/-! ### Slot contexts -/

/-- The blink rates of a face (Table 2-3). -/
inductive Blink where
  | steady | slow | fast
  deriving DecidableEq, Repr

/-- A face (Table 2-3). -/
structure Face where
  index : Nat
  serial : Nat
  colour : Nat
  quantity : Nat
  blink : Blink
  adjust : Bool
  deriving DecidableEq, Repr

/-- A face set (Table 2-3). -/
structure FaceSet where
  generation : Nat
  faces : List Face
  paused : Bool
  pinned : Option Nat
  deriving DecidableEq, Repr

/-- A claim (Table 2-2). Its state is computed: WAITING without a face, PINNED when the context's pin names it (log 10). -/
structure Claim where
  lane : Nat
  urgent : Bool
  serial : Nat
  face : Option Nat
  linger : Option Nat
  lingerExpired : Bool
  bundle : List Nat
  sum : Nat
  deriving DecidableEq, Repr

/-- The three claim states (Table 2-2). -/
inductive ClaimState where
  | waiting | shown | pinned
  deriving DecidableEq, Repr

/-- The pinned claim reference, the adjusted count A and the pin timer (Table 2-1): present together. -/
structure Pin where
  serial : Nat
  count : Nat
  timer : Nat
  deriving DecidableEq, Repr

/-- A slot context (Table 2-1). It is DRAINING while its claim list is empty (R23; log 10). -/
structure Context where
  slot : Nat
  atlas : AtlasCopy
  claims : List Claim
  nextSerial : Nat
  generation : Nat
  desired : FaceSet
  pending : Option FaceSet
  displayed : FaceSet
  pin : Option Pin
  deriving DecidableEq, Repr

/-- A context-table entry: not in use or a context, with its parity (R171). -/
structure ContextEntry where
  parity : Bool
  context : Option Context
  deriving DecidableEq, Repr

/-! ### Setup copy -/

/-- What the setup block gives for one string (R110). -/
structure StringSetup where
  enabled : Bool
  ceiling : Nat
  quietMs : Nat
  dormancy : Bool
  deriving DecidableEq, Repr

/-- The setup copy (R110). Times are in ms but for the pin timeout, in s. -/
structure Setup where
  capacity : Nat
  blocks : Nat
  records : Nat
  atlasSize : Nat
  threshold : Nat
  latch : Bool
  stray : Bool
  sealDelay : Nat
  brisk : Nat
  idle : Nat
  pinTimeout : Nat
  rotation : Nat
  strings : List StringSetup
  deriving DecidableEq, Repr

/-! ### Strings -/

/-- The string modes (Table 4-3). -/
inductive Mode where
  | off | settling | surveying | active | quiet | dormant | test | feedFault
  deriving DecidableEq, Repr

/-- Survey purposes (Table 4-1). -/
inductive Purpose where
  | start | census | test
  deriving DecidableEq, Repr

/-- Presence entries (Table 4-4). -/
inductive Presence where
  | unknown | present | absent | lost
  deriving DecidableEq, Repr

/-- The per-address state of a string controller (Table 4-1). -/
structure ModuleLink where
  presence : Presence
  lastSequence : Option Nat
  misses : Nat
  bootNoted : Bool
  darkeningDue : Bool
  deriving DecidableEq, Repr

/-- The broadcasts (Table 4-2). -/
inductive Broadcast where
  | pause | go | allDark
  | test (seconds : Nat)
  deriving DecidableEq, Repr

/-- The frames that begin an exchange: POLL, FACES with a context's set, dark FACES (R69, R79, R80). -/
inductive ExchangeKind where
  | poll | faces | dark
  deriving DecidableEq, Repr

/-- What occupies a string's line (R70). `left` is the remaining ms; `sweep` marks a survey's or sweep's own exchange. -/
inductive Line where
  | idle
  | exchange (address : Nat) (kind : ExchangeKind) (sweep : Bool) (left : Nat)
  | broadcast (what : Broadcast) (left : Nat)
  deriving DecidableEq, Repr

/-- A survey or an attention sweep in progress (R78, R82): the address it stands at, POLLs spent on it,
whether its next exchange there is a dark FACES, and the modules that answered with the lamp-fault flag clear (R84). -/
structure Sweep where
  address : Nat
  tries : Nat
  dark : Bool
  lampsGood : Nat
  deriving DecidableEq, Repr

/-- The setup-derived items of a string controller (Table 4-1). -/
structure StringItems where
  ceiling : Nat
  quietMs : Nat
  dormancy : Bool
  rotation : Nat
  deriving DecidableEq, Repr

/-- A string controller (Table 4-1) with its two input pins. Address a stands at place a - 1 of `modules`. -/
structure StringCtl where
  mode : Mode
  feed : Bool
  items : Option StringItems
  coldWalk : Nat
  dormancyTimer : Nat
  modeTimer : Option Nat
  purpose : Option Purpose
  modules : List ModuleLink
  line : Line
  due : List Broadcast
  sweep : Option Sweep
  roundPosition : Nat
  turnDue : Bool
  dormancyDue : Bool
  attentionLow : Bool
  feedFaultInput : Bool
  deriving DecidableEq, Repr

/-! ### Intake -/

/-- A task record: the fields of Table 6-5 that some kind uses. -/
structure TaskRecord where
  kind : Byte
  lane : Byte
  qualifier : Byte
  tag : Word
  slot : BitVec 16
  quantity : BitVec 16
  arg1 : Word
  arg2 : Word
  deriving DecidableEq, Repr

/-- The pending qualifier set (R120, R129). -/
structure QualifierSet where
  urgent : Bool
  quiet : Bool
  lane : Option Nat
  badCode : Bool
  count : Nat
  deriving DecidableEq, Repr

/-- The Intake Unit (R120). `onLookahead` says that the head waits on the lookahead fetch (R100). -/
structure Intake where
  queue : List TaskRecord
  fetched : Count
  posted : Count
  taken : Count
  qualifiers : QualifierSet
  poll : ReadState
  promptOwed : Bool
  fetch : ReadState
  lastPoll : Clock
  lastNew : Option Clock
  consumed : Bool
  onLookahead : Bool
  deriving DecidableEq, Repr

/-! ### Journal -/

/-- An item of the report list (R152). -/
inductive Item where
  | pick (entry : Nat)
  | advisory (record : OutcomeRecord)
  deriving DecidableEq, Repr

/-- The Journal Writer (R151). The filled advisory entries are the advisory items of `report` (log 11). -/
structure Journal where
  report : List Item
  reserved : Nat
  lost : Nat
  sealed : Count
  released : Count
  written : Nat
  sealTimer : Option Nat
  deriving DecidableEq, Repr

/-! ### Integrity and run control -/

/-- The tables of the fault capture (R174). -/
inductive FaultTable where
  | none | pick | context | atlas
  deriving DecidableEq, Repr

/-- The fault capture (R174). -/
structure Capture where
  table : FaultTable
  index : Nat
  clock : Clock
  frozen : Bool
  further : Bool
  deriving DecidableEq, Repr

/-- The Table Integrity Unit (11). -/
structure Integrity where
  capture : Capture
  sweepPosition : Nat
  deriving DecidableEq, Repr

/-- The Link Interface and Run Control (10). `startRead` holds the age in ms of a START read under way. -/
structure RunControl where
  run : RunState
  verdict : Verdict
  actionRefused : Bool
  causePower : Bool
  causeLink : Bool
  causeSoft : Bool
  exbaseLo : Word
  exbaseHi : Word
  base : Option Addr
  notice : BitVec 6
  causePost : Bool
  causeRelease : Bool
  mask : BitVec 6
  clock : Clock
  setup : Option Setup
  startRead : Option Nat
  voided : List VoidedRead
  deriving DecidableEq, Repr

/-! ### What leaves the part, and what strikes it -/

/-- What the part puts on its link and its strings (log 12). -/
inductive Output where
  /-- A link read of so many bytes (R108, R112, R100). -/
  | linkRead (address : Addr) (bytes : Nat)
  /-- A link write (R114, R119). -/
  | linkWrite (address : Addr) (data : List Byte)
  /-- The interrupt message (R161). -/
  | message
  /-- A frame on a string, CRC included (R69). -/
  | frame (string : Nat) (bytes : List Byte)
  /-- The word that a register read returned (R163). -/
  | registerRead (offset : Nat) (word : Word)
  deriving DecidableEq, Repr

/-- A change of a table entry since it was written (R171): the entry and the contents it is then read with (log 6). -/
inductive Strike where
  | pick (entry : Nat) (contents : Pick)
  | context (entry : Nat) (contents : Context)
  | way (entry : Nat) (valid : Bool) (tag : Nat) (contents : AtlasFields)
  deriving DecidableEq, Repr

end Sys2Proof.Machine
end

