-- ==== Sys2Proof/Config.lean ====
section
/-! DEFINITION. The free values: constants with no body, so that no proof can see what they are.
Both are applied to a plain counter of State that the tick reads and advances (log 6, log 9). -/

namespace Sys2Proof

/-- FREE VALUE. The table entries struck in a millisecond, with the contents they are then read with (R171; log 6). -/
opaque Config.strikes : Nat → List Machine.Strike

/-- FREE VALUE. How many entries beyond the first the table sweep writes in a millisecond (R175 gives no rate; log 9). -/
opaque Config.sweepRate : Nat → Nat

end Sys2Proof
end

