-- ==== Sys2Proof/Machine/State.lean ====
section
/-! DEFINITION. The state of the LX6 as plain data, and the state right after power-on. -/

namespace Sys2Proof.Machine

/-- Why a step can stop with a fault. No event of the LX6 stops the part, so no meaning raises one. -/
inductive Fault where
  /-- Raised by no meaning: kept so that the type names the one kind of stop a later repair could need. Safe. -/
  | stuck
  deriving DecidableEq, Repr

/-- Why a command is refused. -/
inductive Refusal where
  /-- A command whose meaning is not written: raised by no arm of exec. Safe. -/
  | notModelled (mnemonic : String)
  /-- Raised by the meanings that check their operand: no event of the part carries such an operand
  (Instr.wf; log 25). Safe. -/
  | illFormed
  deriving DecidableEq, Repr

/-- The state of the part, block by block (00, Internal Organization), with the queue of commands and the
model's own two fields. -/
structure State where
  /-- The commands that wait, first in first out. -/
  pending : List Instr
  /-- What the part has put on its link and its strings, oldest first (log 12). -/
  out : List Output
  /-- The argument of the free values, advanced by the tick (log 6, log 9). -/
  freeIndex : Nat
  /-- Link Interface and Run Control. -/
  lrc : RunControl
  /-- Intake Unit. -/
  iu : Intake
  /-- Atlas Cache. -/
  ac : Cache
  /-- Pick Manager. -/
  pm : PickManager
  /-- Slot Manager: the context table. -/
  contexts : List ContextEntry
  /-- String Controllers SC0 to SC3. -/
  strings : List StringCtl
  /-- Journal Writer. -/
  jw : Journal
  /-- Table Integrity Unit. -/
  tiu : Integrity
  deriving DecidableEq, Repr

/-- A task record position or an atlas entry of zeros. -/
def AtlasFields.zero : AtlasFields := { usable := false, string := 0, address := 0, limit := 0, solo := false }

/-- A way that the sweep has not written yet: invalid, its parity not yet correct (R175; log 9). -/
def Way.unswept : Way := { parity := false, valid := false, tag := 0, fields := AtlasFields.zero }

/-- A lane that is OFF (R9). -/
def Lane.off : Lane := { colour := none, linger := 0, abandon := 0 }

/-- The empty qualifier set (R120). -/
def QualifierSet.empty : QualifierSet :=
  { urgent := false, quiet := false, lane := none, badCode := false, count := 0 }

/-- The per-address state after power-on, START and the resets (R68). -/
def ModuleLink.fresh : ModuleLink :=
  { presence := .unknown, lastSequence := none, misses := 0, bootNoted := false, darkeningDue := false }

/-- A string controller after power-on (R68): OFF, feed off, the items of log 27 and the pins of log 14 at rest. -/
def StringCtl.powerOn : StringCtl :=
  { mode := .off, feed := false, items := none, coldWalk := 0, dormancyTimer := 0, modeTimer := none, purpose := none,
    modules := List.replicate 120 ModuleLink.fresh, line := .idle, due := [], sweep := none, roundPosition := 0,
    turnDue := false, dormancyDue := false, attentionLow := false, feedFaultInput := false }

/-- The empty face set of generation 0 (R22, R26). -/
def FaceSet.nothing : FaceSet := { generation := 0, faces := [], paused := false, pinned := none }

/-- The Intake Unit after power-on, CLEAR and the resets; last poll arrival, for which R120 gives no value there, is 0 (R120; log 28). -/
def Intake.empty : Intake :=
  { queue := [], fetched := 0, posted := 0, taken := 0, qualifiers := QualifierSet.empty, poll := .idle,
    promptOwed := false, fetch := .idle, lastPoll := 0, lastNew := none, consumed := false, onLookahead := false }

/-- The Journal Writer after power-on, CLEAR, the resets and START (R151). -/
def Journal.empty : Journal :=
  { report := [], reserved := 0, lost := 0, sealed := 0, released := 0, written := 0, sealTimer := none }

/-- The fault capture, clear and unfrozen (R169, R174). -/
def Capture.empty : Capture := { table := .none, index := 0, clock := 0, frozen := false, further := false }

/-- The pick manager with every entry FREE and of the given parity (R20, R9). -/
def PickManager.empty (parity : Bool) : PickManager :=
  { entries := List.replicate 256 { parity := parity, pick := none }, free := 256, deferred := [],
    lanes := List.replicate 6 Lane.off, fences := [] }

/-- The context table with every entry not in use and of the given parity (R45). -/
def emptyContexts (parity : Bool) : List ContextEntry := List.replicate 96 { parity := parity, context := none }

/-- The cache with every way invalid and of the given parity, every LRU bit naming way 0 (R106). -/
def Cache.empty (parity : Bool) : Cache :=
  { ways := List.replicate 128 { Way.unswept with parity := parity }, lru := List.replicate 64 false, lookahead := none,
    demand := .idle, ahead := .idle }

/-- Run control after power-on (R169). -/
def RunControl.powerOn : RunControl :=
  { run := .sweeping, verdict := .unjudged, actionRefused := false, causePower := true, causeLink := false,
    causeSoft := false, exbaseLo := 0, exbaseHi := 0, base := none, notice := 0, causePost := false,
    causeRelease := false, mask := 0, clock := 0, setup := none, startRead := none, voided := [] }

/-- The machine right after power-on: SWEEPING, the sweep at its first entry, nothing commanded (R169, R175). -/
def State.reset : State :=
  { pending := [], out := [], freeIndex := 0, lrc := RunControl.powerOn, iu := Intake.empty, ac := Cache.empty false,
    pm := PickManager.empty false, contexts := emptyContexts false, strings := List.replicate 4 StringCtl.powerOn,
    jw := Journal.empty, tiu := { capture := Capture.empty, sweepPosition := 0 } }

end Sys2Proof.Machine
end

