-- ==== Sys2Proof/Machine/Ops.lean ====
section
/-! DEFINITION. The named operations over the state: one home for every read and write of a block, a table entry,
a string controller and an address of a string. -/

namespace Sys2Proof.Machine

/-! ### Blocks -/

/-- The part puts one item on its link or a string (log 12). -/
def State.emit (s : State) (o : Output) : State := { s with out := s.out ++ [o] }

/-- Write the registers of run control. -/
def State.setLrc (s : State) (x : RunControl) : State := { s with lrc := x }

/-- Write the Intake Unit. -/
def State.setIu (s : State) (x : Intake) : State := { s with iu := x }

/-- Write the Atlas Cache. -/
def State.setAc (s : State) (x : Cache) : State := { s with ac := x }

/-- Write the Pick Manager. -/
def State.setPm (s : State) (x : PickManager) : State := { s with pm := x }

/-- Write the context table. -/
def State.setContexts (s : State) (x : List ContextEntry) : State := { s with contexts := x }

/-- Write the string controllers. -/
def State.setStrings (s : State) (x : List StringCtl) : State := { s with strings := x }

/-- Write the Journal Writer. -/
def State.setJw (s : State) (x : Journal) : State := { s with jw := x }

/-- Write the Table Integrity Unit. -/
def State.setTiu (s : State) (x : Integrity) : State := { s with tiu := x }

/-- The aisle clock (R170). -/
def State.now (s : State) : Clock := s.lrc.clock

/-- RUNNING or HALTED: a run is held. -/
def State.inRun (s : State) : Bool := s.lrc.run == .running || s.lrc.run == .halted

/-- The paused flag of a face set built now (R38). -/
def State.paused (s : State) : Bool := s.lrc.run == .halted

/-! ### The pick table -/

/-- The pick of an entry, if it is not FREE. -/
def State.pickAt (s : State) (i : Nat) : Option Pick := (s.pm.entries[i]?).bind PickEntry.pick

/-- Whether an entry passes its parity check (R171). -/
def State.pickIntact (s : State) (i : Nat) : Bool := ((s.pm.entries[i]?).map PickEntry.parity).getD true

/-- Write an entry: the owner gives it fresh parity (R171). -/
def State.setPick (s : State) (i : Nat) (p : Option Pick) : State :=
  s.setPm { s.pm with entries := s.pm.entries.set i { parity := true, pick := p } }

/-- The lowest-numbered entry of a list for which a test holds, counting from `n`. -/
def firstFrom {α : Type} (test : α → Bool) : Nat → List α → Option Nat
  | _, [] => none
  | n, x :: xs => if test x then some n else firstFrom test (n + 1) xs

/-- The lowest-numbered FREE entry (R1). -/
def State.lowestFree (s : State) : Option Nat := firstFrom (fun e => e.pick.isNone) 0 s.pm.entries

/-- The lane of a number 1..6 (Table 1-4). -/
def State.lane (s : State) (l : Nat) : Lane := if l == 0 then Lane.off else s.pm.lanes.getD (l - 1) Lane.off

/-! ### The context table -/

/-- The context of an entry, if it is in use. -/
def State.contextAt (s : State) (c : Nat) : Option Context := (s.contexts[c]?).bind ContextEntry.context

/-- Whether a context entry passes its parity check (R171). -/
def State.contextIntact (s : State) (c : Nat) : Bool := ((s.contexts[c]?).map ContextEntry.parity).getD true

/-- Write a context entry: the owner gives it fresh parity (R171). -/
def State.setContext (s : State) (c : Nat) (x : Option Context) : State :=
  s.setContexts (s.contexts.set c { parity := true, context := x })

/-- The lowest-numbered context entry in use whose context passes a test. -/
def State.findContext (s : State) (test : Context → Bool) : Option Nat :=
  firstFrom (fun e => (e.context.map test).getD false) 0 s.contexts

/-- The context of a slot, ALIVE or DRAINING; the lowest-numbered one where damage has left two with one slot (R21, R173; log 49). -/
def State.contextOfSlot (s : State) (slot : Nat) : Option Nat := s.findContext (fun c => c.slot == slot)

/-- Whether a context names a module (R21). -/
def Context.names (c : Context) (string address : Nat) : Bool := c.atlas.string == string && c.atlas.address == address

/-- The context that names a module (R21). A module with one is hot (4.1). -/
def State.contextOfModule (s : State) (string address : Nat) : Option Nat :=
  s.findContext (fun c => c.names string address)

/-- A module is hot while a context names it. -/
def State.hot (s : State) (string address : Nat) : Bool := (s.contextOfModule string address).isSome

/-- Whether any context names a module of the string. -/
def State.anyHot (s : State) (string : Nat) : Bool := (s.findContext (fun c => c.atlas.string == string)).isSome

/-- The lowest-numbered free context entry (R22). -/
def State.lowestFreeContext (s : State) : Option Nat := firstFrom (fun e => e.context.isNone) 0 s.contexts

/-! ### Strings -/

/-- The controller of a string. -/
def State.stringAt (s : State) (n : Nat) : StringCtl := s.strings.getD n StringCtl.powerOn

/-- Write the controller of a string. -/
def State.setString (s : State) (n : Nat) (x : StringCtl) : State := s.setStrings (s.strings.set n x)

/-- The per-address state of an address 1..120 (Table 4-1). -/
def StringCtl.link (x : StringCtl) (a : Nat) : ModuleLink :=
  if a == 0 then ModuleLink.fresh else x.modules.getD (a - 1) ModuleLink.fresh

/-- Write the per-address state of an address 1..120. -/
def StringCtl.setLink (x : StringCtl) (a : Nat) (m : ModuleLink) : StringCtl :=
  if a == 0 then x else { x with modules := x.modules.set (a - 1) m }

/-- The per-address state of a module. -/
def State.link (s : State) (n a : Nat) : ModuleLink := (s.stringAt n).link a

/-- Write the per-address state of a module. -/
def State.setLink (s : State) (n a : Nat) (m : ModuleLink) : State := s.setString n ((s.stringAt n).setLink a m)

/-- The address ceiling of a string, 0 before the first START. -/
def StringCtl.ceiling (x : StringCtl) : Nat := (x.items.map StringItems.ceiling).getD 0

/-- Apply an operation to each of the four strings, string 0 first. -/
def State.eachString (s : State) (f : State → Nat → State) : State := [0, 1, 2, 3].foldl f s

end Sys2Proof.Machine
end

