-- ==== Sys2Proof/Machine/Layout.lean ====
section
/-! DEFINITION. The byte layouts of what the part writes: outcome records, block headers, the part line, string frames
(Tables 4-2, 6-2, 6-6 to 6-9) and the addresses they are written at (R107, R112, R113). -/

namespace Sys2Proof.Machine

/-- The bytes of a number in little-endian order (00, Conventions). -/
def bytesLE : Nat → Nat → List Byte
  | 0, _ => []
  | n + 1, v => BitVec.ofNat 8 v :: bytesLE n (v / 256)

/-- The little-endian number that bytes spell. -/
def readLE : List Byte → Nat
  | [] => 0
  | b :: bs => b.toNat + 256 * readLE bs

/-- The byte at an offset, 0 beyond the end. -/
def byteAt (bs : List Byte) (i : Nat) : Byte := bs.getD i 0

/-- A field of `n` bytes at an offset. -/
def fieldAt (bs : List Byte) (i n : Nat) : Nat := readLE ((bs.drop i).take n)

/-- A bit of a byte. -/
def bitOf (b : Byte) (i : Nat) : Bool := b.toNat / 2 ^ i % 2 == 1

/-- A flag as a number of the given weight. -/
def weight (flag : Bool) (w : Nat) : Nat := if flag then w else 0

/-! ### Codes -/

/-- Table 6-7. -/
def Cause.code : Cause → Nat
  | .none => 0 | .badQty => 1 | .laneOff => 2 | .badSlot => 3 | .duplicateTag => 4 | .slotUnusable => 5
  | .moduleShared => 6 | .qualifierOverrun => 7 | .badQualifier => 8 | .badArgument => 16 | .laneBusy => 17
  | .colourTaken => 18 | .notFound => 19 | .tooLate => 20 | .overCapacity => 21 | .stringOff => 22 | .stringBusy => 23
  | .unknownKind => 24 | .stale => 32 | .noFace => 33 | .withdrawn => 34 | .cold => 35 | .pinConflict => 36
  | .misses => 48 | .feedFault => 49 | .reboot => 50 | .returned => 51 | .entry => 64 | .context => 65

/-- The kind byte of Table 6-6. -/
def RecordKind.code : RecordKind → Nat
  | .final .full => 1 | .final .short => 2 | .final .over => 3 | .final .cancelled => 4 | .final .refused => 5
  | .final .faulted => 6 | .overdue => 0x10 | .strayPress => 0x11 | .pressOverflow => 0x12 | .moduleLost => 0x13
  | .moduleBack => 0x14 | .directiveRefused => 0x15 | .fenceReached => 0x16 | .censusDone => 0x17 | .testDone => 0x18

/-- The flags byte of Table 6-6. -/
def OutcomeRecord.flags (r : OutcomeRecord) : Nat :=
  weight r.adjusted 1 + weight r.urgent 2 + weight r.quiet 4 + weight r.suspectTag 8 + weight r.overdueReported 16

/-- The 32 bytes of an outcome record, with its advisories-lost byte (Table 6-6, R119). -/
def OutcomeRecord.bytes (r : OutcomeRecord) (lost : Nat) : List Byte :=
  bytesLE 1 r.kind.code ++ bytesLE 1 r.cause.code ++ [r.lane] ++ bytesLE 1 r.flags ++ bytesLE 4 r.tag.toNat ++
    bytesLE 2 r.slot.toNat ++ bytesLE 2 r.requested.toNat ++ bytesLE 2 r.confirmed.toNat ++ [r.bundleSize] ++
    [r.bundlePosition] ++ bytesLE 4 r.intakeSequence.toNat ++ bytesLE 4 r.timeAccepted.toNat ++
    bytesLE 4 r.timeClosed.toNat ++ bytesLE 1 lost ++ bytesLE 3 0

/-- The 32 bytes of a block header (Table 6-9). -/
def blockHeader (number : Count) (count lost : Nat) (clock : Clock) : List Byte :=
  bytesLE 4 number.toNat ++ bytesLE 2 count ++ bytesLE 1 lost ++ bytesLE 1 0 ++ bytesLE 4 clock.toNat ++ bytesLE 20 0

/-- The locator of Table 6-8, in the tag field of module and press advisories. -/
def locator (string address sequence button face generation : Nat) : Word :=
  BitVec.ofNat 32 (address % 256 + 256 * (string % 4) +
    65536 * (sequence % 16 + 16 * (button % 4) + 64 * (face % 4)) + 16777216 * (generation % 16))

/-! ### Places in host memory -/

/-- The base taken from the EXBASE words; the low 12 bits are ignored (R107). -/
def exchangeBase (hi lo : Word) : Addr := BitVec.ofNat 64 (hi.toNat * 2 ^ 32 + lo.toNat / 4096 * 4096)

/-- A place at an offset from the base. -/
def Addr.plus (b : Addr) (offset : Nat) : Addr := b + BitVec.ofNat 64 offset

/-- The offset of the journal: the end of the task stream, rounded up to 0x1000 (Table 6-1, R107). -/
def Setup.journalOffset (u : Setup) : Nat := (0x5000 + u.capacity * 32 + 0xFFF) / 0x1000 * 0x1000

/-- The offset of task record k (R112). -/
def Setup.recordOffset (u : Setup) (k : Count) : Nat := 0x5000 + k.toNat % u.capacity * 32

/-- The offset of record i of journal block j, record 0 being its header (R113). -/
def Setup.blockOffset (u : Setup) (j : Count) (i : Nat) : Nat :=
  u.journalOffset + j.toNat % u.blocks * (u.records + 1) * 32 + 32 * i

/-! ### String frames -/

/-- One bit of the CRC-16 register, least significant bit first (log 5): x^16 + x^12 + x^5 + 1 (R69). -/
def crcBit (c : BitVec 16) : BitVec 16 := if c.getLsbD 0 then (c >>> 1) ^^^ 0x8408#16 else c >>> 1

/-- One byte through the CRC-16 register. -/
def crcByte (c : BitVec 16) (b : Byte) : BitVec 16 :=
  crcBit (crcBit (crcBit (crcBit (crcBit (crcBit (crcBit (crcBit (c ^^^ b.setWidth 16))))))))

/-- CRC-16 over the bytes from the address to the last payload byte: from 0xFFFF, no final inversion (R69). -/
def crc16 (bs : List Byte) : BitVec 16 := bs.foldl crcByte 0xFFFF#16

/-- A frame with its CRC-16, low byte first (R69). -/
def frameBytes (body : List Byte) : List Byte := body ++ bytesLE 2 (crc16 body).toNat

/-- The ack byte of POLL and FACES: the module's last accepted sequence, when one is present (R73). -/
def ackByte (last : Option Nat) : Byte :=
  match last with
  | some k => BitVec.ofNat 8 (128 + k % 16)
  | none => 0

/-- A POLL frame. -/
def pollFrame (address : Nat) (last : Option Nat) : List Byte := frameBytes [BitVec.ofNat 8 address, 0x01, ackByte last]

/-- The code of a blink rate (Table 4-2). -/
def Blink.code : Blink → Nat
  | .steady => 0 | .slow => 1 | .fast => 2

/-- The three bytes of a face (Table 4-2). -/
def Face.bytes (f : Face) : List Byte :=
  BitVec.ofNat 8 (f.index % 4 + 4 * (f.colour % 8) + 32 * f.blink.code + weight f.adjust 128) :: bytesLE 2 f.quantity

/-- The second payload byte of a FACES frame (Table 4-2). -/
def FaceSet.headByte (x : FaceSet) : Byte :=
  BitVec.ofNat 8 (x.generation % 16 + weight x.paused 16 + weight x.pinned.isSome 32 + 64 * (x.pinned.getD 0 % 4))

/-- A FACES frame (Table 4-2): the rotation period travels in units of 100 ms. -/
def facesFrame (address : Nat) (last : Option Nat) (x : FaceSet) (rotation : Nat) : List Byte :=
  frameBytes ([BitVec.ofNat 8 address, 0x02, ackByte last, x.headByte, BitVec.ofNat 8 (rotation / 100),
    BitVec.ofNat 8 x.faces.length] ++ (x.faces.map Face.bytes).flatten)

/-- A broadcast frame (Table 4-2). -/
def Broadcast.bytes : Broadcast → List Byte
  | .pause => frameBytes [0, 0x10]
  | .go => frameBytes [0, 0x11]
  | .allDark => frameBytes [0, 0x12]
  | .test k => frameBytes [0, 0x13, BitVec.ofNat 8 k]

end Sys2Proof.Machine
end

