-- ==== Sys2Proof/Machine/Operands.lean ====
section
/-! DEFINITION. The byte layouts of what the part reads: setup block, atlas entry, task record, module reply
(Tables 4-2, 6-3 to 6-5; R109, R110, R117, R118, R70). -/

namespace Sys2Proof.Machine

/-! ### Setup block -/

/-- Bring a value into a range, to the nearer end (R110). -/
def clampTo (lo hi v : Nat) : Nat := if v < lo then lo else if hi < v then hi else v

/-- The START check of the sizes C, N and R (R109, order 1). -/
def sizesAccepted (c n r : Nat) : Bool :=
  [64, 128, 256, 512, 1024, 2048, 4096].contains c && [2, 4, 8, 16, 32, 64].contains n && [8, 16, 32, 64].contains r

/-- The verdict of the START checks on the header host line and the setup block (R109). -/
def startVerdict (hostLine block : List Byte) : Verdict :=
  if !sizesAccepted (fieldAt block 0x00 2) (fieldAt block 0x02 2) (fieldAt block 0x04 2) then .sizes
  else if fieldAt block 0x06 2 == 0 || decide (1024 < fieldAt block 0x06 2) then .atlas
  else if fieldAt hostLine 0 4 != 0 || fieldAt hostLine 4 4 != 0 then .counters
  else .accepted

/-- What the setup block says of string n: enabled when its mask bit is set and its ceiling lies in 1..120 (R110). -/
def stringSetup (block : List Byte) (n : Nat) : StringSetup :=
  let ceiling := (byteAt block (0x18 + n)).toNat
  { enabled := bitOf (byteAt block 0x13) n && decide (1 ≤ ceiling ∧ ceiling ≤ 120)
    ceiling := ceiling
    quietMs := 25 * 2 ^ ((byteAt block 0x17).toNat / 4 ^ n % 4)
    dormancy := bitOf (byteAt block 0x16) n }

/-- The setup copy of an ACCEPTED START: the fields of Table 6-3, brought into their ranges (R110). -/
def setupCopy (block : List Byte) : Setup :=
  let n := fieldAt block 0x02 2
  { capacity := fieldAt block 0x00 2
    blocks := n
    records := fieldAt block 0x04 2
    atlasSize := fieldAt block 0x06 2
    threshold := clampTo 1 n (fieldAt block 0x08 2)
    latch := bitOf (byteAt block 0x0A) 0
    stray := bitOf (byteAt block 0x0B) 0
    sealDelay := clampTo 5 250 (fieldAt block 0x0C 2)
    brisk := clampTo 1 20 (fieldAt block 0x0E 2)
    idle := clampTo 20 500 (fieldAt block 0x10 2)
    pinTimeout := clampTo 3 30 (fieldAt block 0x12 1)
    rotation := clampTo 200 2000 (fieldAt block 0x14 2 / 100 * 100)
    strings := [0, 1, 2, 3].map (stringSetup block) }

/-- What a setup copy gives for a string. -/
def Setup.string (u : Setup) (n : Nat) : StringSetup :=
  u.strings.getD n { enabled := false, ceiling := 0, quietMs := 25, dormancy := false }

/-! ### Atlas entry -/

/-- The fields of a 16-byte atlas entry (Table 6-4, R117). -/
def atlasEntry (bs : List Byte) : AtlasFields :=
  { usable := bitOf (byteAt bs 0) 0
    string := (byteAt bs 1).toNat % 4
    address := (byteAt bs 2).toNat
    limit := (byteAt bs 3).toNat
    solo := bitOf (byteAt bs 0) 1 }

/-- Whether a slot's fields resolve to a module (R95). -/
def AtlasFields.resolves (f : AtlasFields) (u : Setup) : Bool :=
  f.usable && decide (1 ≤ f.address ∧ f.address ≤ 120) && decide (f.limit ≤ 9) && (u.string f.string).enabled &&
    decide (f.address ≤ (u.string f.string).ceiling)

/-- The atlas copy taken from resolved fields (R105). -/
def AtlasFields.copy (f : AtlasFields) : AtlasCopy :=
  { string := f.string, address := f.address, limit := f.limit, solo := f.solo }

/-! ### Task record -/

/-- The fields of a 32-byte task record (Table 6-5). -/
def taskRecord (bs : List Byte) : TaskRecord :=
  { kind := byteAt bs 0
    lane := byteAt bs 1
    qualifier := byteAt bs 2
    tag := BitVec.ofNat 32 (fieldAt bs 0x04 4)
    slot := BitVec.ofNat 16 (fieldAt bs 0x08 2)
    quantity := BitVec.ofNat 16 (fieldAt bs 0x0A 2)
    arg1 := BitVec.ofNat 32 (fieldAt bs 0x0C 4)
    arg2 := BitVec.ofNat 32 (fieldAt bs 0x10 4) }

/-- The records of a fetch, `count` of them, in stream order (R127). -/
def taskRecords : Nat → List Byte → List TaskRecord
  | 0, _ => []
  | k + 1, bs => taskRecord (bs.take 32) :: taskRecords k (bs.drop 32)

/-- The kinds of Table 6-5. -/
inductive TaskKind where
  | skip | pick | qualifier | cancel | amend | laneSetup | atlasDrop | fence | lightTest | census | unknown
  deriving DecidableEq, Repr

/-- The kind that a record's kind byte names (Table 6-5). -/
def TaskRecord.task (r : TaskRecord) : TaskKind :=
  match r.kind.toNat with
  | 0 => .skip | 1 => .pick | 2 => .qualifier | 3 => .cancel | 4 => .amend | 5 => .laneSetup | 6 => .atlasDrop
  | 7 => .fence | 8 => .lightTest | 9 => .census | _ => .unknown

/-- Byte i of argument word 1 (R118). -/
def TaskRecord.argByte (r : TaskRecord) (i : Nat) : Nat := r.arg1.toNat / 256 ^ i % 256

/-! ### Module reply -/

/-- The three buttons (Table 3-1). -/
inductive Button where
  | confirm | minus | plus
  deriving DecidableEq, Repr

/-- A press event (Table 3-1). -/
structure PressEvent where
  sequence : Nat
  button : Button
  face : Nat
  generation : Nat
  deriving DecidableEq, Repr

/-- A valid reply (Table 4-2). -/
structure Reply where
  generation : Nat
  fresh : Bool
  overflow : Bool
  lampFault : Bool
  events : List PressEvent
  deriving DecidableEq, Repr

/-- The code of a button (Table 4-2). -/
def Button.code : Button → Nat
  | .confirm => 0 | .minus => 1 | .plus => 2

/-- The button of a code; 3 is no button (R70). -/
def buttonOf : Nat → Option Button
  | 0 => some .confirm
  | 1 => some .minus
  | 2 => some .plus
  | _ => none

/-- A press event from its two bytes; none with button value 3 or face index 3 (R70). -/
def pressEvent (b0 b1 : Byte) : Option PressEvent :=
  match buttonOf (b0.toNat / 16 % 4) with
  | some button =>
    if b0.toNat / 64 == 3 then none
    else some { sequence := b0.toNat % 16, button := button, face := b0.toNat / 64, generation := b1.toNat % 16 }
  | none => none

/-- The events of a reply, in queue order. -/
def pressEvents : List Byte → Option (List PressEvent)
  | [] => some []
  | [_] => none
  | b0 :: b1 :: rest =>
    match pressEvent b0 b1, pressEvents rest with
    | some e, some es => some (e :: es)
    | _, _ => none

/-- The reply that the bytes on the line spell, when they are a valid reply of the address spoken to (R70). -/
def decodeReply (address : Nat) (frame : List Byte) : Option Reply :=
  let count := (byteAt frame 3).toNat
  let body := frame.take (4 + 2 * count)
  if decide (count ≤ 4) && frame.length == 6 + 2 * count && (byteAt frame 0).toNat == address &&
      (byteAt frame 1).toNat == 0x80 && frame == frameBytes body then
    (pressEvents (body.drop 4)).map fun es =>
      { generation := (byteAt frame 2).toNat % 16
        fresh := bitOf (byteAt frame 2) 4
        overflow := bitOf (byteAt frame 2) 5
        lampFault := bitOf (byteAt frame 2) 6
        events := es }
  else none

end Sys2Proof.Machine
end

