-- ==== Sys2Proof/Machine/Flags.lean ====
section
/-! DEFINITION. The flags of run control: notices with the interrupt message, action-refused and the reset causes,
the fault capture, and the register window as the host reads it (R160 to R164, R174, Table 10-1). -/

namespace Sys2Proof.Machine

/-! ### Notices -/

/-- The six notice flags, in NOTICE order (Table 10-1). -/
inductive Notice where
  | journal | exchange | link | fault | string | setup
  deriving DecidableEq, Repr

/-- The bit of a notice flag in NOTICE and NOTICE-MASK (Table 10-1). -/
def Notice.bit : Notice → BitVec 6
  | .journal => 1 | .exchange => 2 | .link => 4 | .fault => 8 | .string => 16 | .setup => 32

/-- Write the notice flags and the mask. One interrupt message is sent when the set of flags pending and enabled goes
from empty to non-empty (R161). -/
def State.setNotices (s : State) (notice mask : BitVec 6) : State :=
  let t := s.setLrc { s.lrc with notice := notice, mask := mask }
  if s.lrc.notice &&& s.lrc.mask == 0 && notice &&& mask != 0 then t.emit .message else t

/-- A block raises a notice flag (R160). -/
def State.raise (s : State) (n : Notice) : State := s.setNotices (s.lrc.notice ||| n.bit) s.lrc.mask

/-- Raise EXCHANGE with the causes of one header poll (R123, R124, R160). -/
def State.raiseExchange (s : State) (post release : Bool) : State :=
  if post || release then
    (s.setLrc { s.lrc with
      causePost := s.lrc.causePost || post
      causeRelease := s.lrc.causeRelease || release }).raise .exchange
  else s

/-- Clear a notice flag that the part itself judges (R159). -/
def State.lower (s : State) (n : Notice) : State := s.setNotices (s.lrc.notice &&& ~~~n.bit) s.lrc.mask

/-- Whether the journal mode of the setup copy is LEVEL; without a setup copy JOURNAL behaves as in LATCH (R159). -/
def State.journalLevel (s : State) : Bool := (s.lrc.setup.map (fun u => !u.latch)).getD false

/-- The flags that a write to NOTICE clears: those written 1, but JOURNAL not in LEVEL mode (R159, R163). -/
def State.noticeCleared (s : State) (value : Word) : BitVec 6 :=
  let written := value.setWidth 6
  if s.journalLevel then written &&& ~~~Notice.journal.bit else written

/-- A write to NOTICE: each flag so cleared loses its causes (R160, R163). -/
def State.writeNotice (s : State) (value : Word) : State :=
  let gone := s.noticeCleared value
  let keep := gone &&& Notice.exchange.bit == 0
  let t := s.setLrc { s.lrc with
    causePost := s.lrc.causePost && keep
    causeRelease := s.lrc.causeRelease && keep }
  t.setNotices (t.lrc.notice &&& ~~~gone) t.lrc.mask

/-! ### Action-refused and the fault capture -/

/-- An action or an EXBASE write that is not legal (R164, R165). -/
def State.refuseAction (s : State) : State := s.setLrc { s.lrc with actionRefused := true }

/-- A parity error reported to the Table Integrity Unit (R174). -/
def State.reportFault (s : State) (table : FaultTable) (index : Nat) : State :=
  if s.tiu.capture.frozen then
    s.setTiu { s.tiu with capture := { s.tiu.capture with further := true } }
  else
    (s.setTiu { s.tiu with
      capture := { table := table, index := index, clock := s.now, frozen := true, further := false } }).raise .fault

/-! ### The register window as read -/

/-- The run state field of STATE (Table 10-1). -/
def RunState.code : RunState → Nat
  | .sweeping => 0 | .unset => 1 | .starting => 2 | .running => 3 | .halted => 4

/-- The verdict field of STATE (Table 10-1). -/
def Verdict.code : Verdict → Nat
  | .unjudged => 0 | .accepted => 1 | .sizes => 2 | .atlas => 3 | .counters => 4 | .link => 5

/-- The table field of FAULT-WHERE (Table 10-1). -/
def FaultTable.code : FaultTable → Nat
  | .none => 0 | .pick => 1 | .context => 2 | .atlas => 3

/-- The STATE word (Table 10-1). -/
def State.stateWord (s : State) : Word :=
  BitVec.ofNat 32 (s.lrc.run.code + 16 * s.lrc.verdict.code + weight s.lrc.actionRefused (2 ^ 8) +
    weight s.lrc.causePower (2 ^ 12) + weight s.lrc.causeLink (2 ^ 13) + weight s.lrc.causeSoft (2 ^ 14))

/-- The NOTICE word (Table 10-1). -/
def State.noticeWord (s : State) : Word :=
  BitVec.ofNat 32 (s.lrc.notice.toNat + weight s.lrc.causePost (2 ^ 8) + weight s.lrc.causeRelease (2 ^ 9))

/-- The FAULT-WHERE word (Table 10-1). -/
def State.faultWord (s : State) : Word :=
  BitVec.ofNat 32 (s.tiu.capture.table.code + 256 * (s.tiu.capture.index % 256) +
    weight s.tiu.capture.further (2 ^ 16) + weight s.tiu.capture.frozen (2 ^ 17))

/-- What a read of a word of the register window returns (R163): ACTION and bits the table does not name read as 0. -/
def State.readWord (s : State) (offset : Nat) : Word :=
  match offset with
  | 0x00 => s.lrc.exbaseLo
  | 0x04 => s.lrc.exbaseHi
  | 0x0C => s.stateWord
  | 0x10 => s.noticeWord
  | 0x14 => s.lrc.mask.setWidth 32
  | 0x18 => s.faultWord
  | 0x1C => s.tiu.capture.clock
  | _ => 0

end Sys2Proof.Machine
end

