-- ==== Sys2Proof/Machine/Writer.lean ====
section
/-! DEFINITION. The Journal Writer's operations: the advisory queue, the report list, the part line, the seal and the
JOURNAL notice (R114, R115, R151 to R159). -/

namespace Sys2Proof.Machine

/-- Whether an item is an advisory: a filled entry of the advisory queue (R151; log 11). -/
def Item.isAdvisory : Item → Bool
  | .pick _ => false
  | .advisory _ => true

/-- Filled entries of the advisory queue. -/
def Journal.filled (j : Journal) : Nat := (j.report.filter Item.isAdvisory).length

/-- Spare entries of the advisory queue: 16 less the filled and the reserved (R153). -/
def Journal.spare (j : Journal) : Nat := 16 - (j.filled + j.reserved)

/-- An item joins the report list at its end (R152). -/
def State.appendItem (s : State) (x : Item) : State := s.setJw { s.jw with report := s.jw.report ++ [x] }

/-- An advisory that may be dropped is offered: it fills a spare entry, or is dropped and counted (R153). -/
def State.offer (s : State) (r : OutcomeRecord) : State :=
  if 0 < s.jw.spare then s.appendItem (.advisory r)
  else s.setJw { s.jw with lost := min 255 (s.jw.lost + 1) }

/-- A DIRECTIVE-REFUSED fills the spare entry assured before its directive was judged (R136, R153). -/
def State.offerAssured (s : State) (r : OutcomeRecord) : State := s.appendItem (.advisory r)

/-- An accepted FENCE, LIGHT-TEST or CENSUS reserves its entry (R136). -/
def State.reserve (s : State) : State := s.setJw { s.jw with reserved := s.jw.reserved + 1 }

/-- A closing advisory fills the entry reserved for it (R136, R153). -/
def State.offerClosing (s : State) (r : OutcomeRecord) : State :=
  (s.setJw { s.jw with reserved := s.jw.reserved - 1 }).appendItem (.advisory r)

/-- The fields that every advisory shares: confirmed 0, bundle size and position 1 and 1, every flag clear, both times
the aisle clock (R51, R90, R137, R146). -/
def State.advisory (s : State) (kind : RecordKind) (cause : Cause) (slot : Nat) (tag : Word) : OutcomeRecord :=
  { kind := kind, cause := cause, lane := 0, adjusted := false, urgent := false, quiet := false, suspectTag := false,
    overdueReported := false, tag := tag, slot := BitVec.ofNat 16 slot, requested := 0, confirmed := 0, bundleSize := 1,
    bundlePosition := 1, intakeSequence := 0, timeAccepted := s.now, timeClosed := s.now }

/-- A link write into the exchange area of the run (R107). Without a base the part makes no access. -/
def State.linkWrite (s : State) (offset : Nat) (data : List Byte) : State :=
  match s.lrc.base with
  | some b => s.emit (.linkWrite (Addr.plus b offset) data)
  | none => s

/-- A link read from the exchange area of the run (R107). -/
def State.linkRead (s : State) (offset bytes : Nat) : State :=
  match s.lrc.base with
  | some b => s.emit (.linkRead (Addr.plus b offset) bytes)
  | none => s

/-- The 16 bytes of the header part line: TAKEN, SEALED, FREE-ENTRIES, AISLE-CLOCK as they stand (R114, Table 6-2). -/
def State.partLineBytes (s : State) : List Byte :=
  bytesLE 4 s.iu.taken.toNat ++ bytesLE 4 s.jw.sealed.toNat ++ bytesLE 4 s.pm.free ++ bytesLE 4 s.now.toNat

/-- The part-line write (R114). -/
def State.partLine (s : State) : State := s.linkWrite 0x40 s.partLineBytes

/-- Blocks the host has yet to release (R111). -/
def Journal.unreleased (j : Journal) : Nat := (j.sealed - j.released).toNat

/-- JOURNAL is judged (R159): in LEVEL by the count against T at each seal, release and START; in LATCH only set, at a seal. -/
def State.judgeJournal (s : State) (atSeal : Bool) : State :=
  match s.lrc.setup with
  | none => s
  | some u =>
    if u.threshold ≤ s.jw.unreleased then if !u.latch || atSeal then s.raise .journal else s
    else if !u.latch then s.lower .journal else s

/-- The open block is sealed: header, seal timer discarded, SEALED advanced, part line, JOURNAL judged (R155). -/
def State.sealBlock (s : State) : State :=
  match s.lrc.setup with
  | none => s
  | some u =>
    let t := s.linkWrite (u.blockOffset s.jw.sealed 0) (blockHeader s.jw.sealed s.jw.written s.jw.lost s.now)
    let t := t.setJw { t.jw with sealTimer := none, sealed := t.jw.sealed + 1, written := 0 }
    t.partLine.judgeJournal true

/-- On entry to HALTED the open block is sealed when it holds a record (R156). -/
def State.sealOpen (s : State) : State := if s.jw.written == 0 then s else s.sealBlock

/-- Whether a block is free (R154). -/
def State.blockFree (s : State) : Bool :=
  match s.lrc.setup with
  | none => false
  | some u => decide (s.jw.unreleased < u.blocks)

end Sys2Proof.Machine
end

