-- ==== Sys2Proof/Machine/Faces.lean ====
section
/-! DEFINITION. The Slot Manager's work inside one context: claims, the join rule, face selection and the desired face set
with its generation (R27 to R39, R53, R54, R61). Everything here is a function of the context, the lane table and the run
state; the pick table and the other blocks are Picks.lean's. -/

namespace Sys2Proof.Machine

/-- The state of a claim in its context (Table 2-2; log 10). -/
def Context.claimState (c : Context) (k : Claim) : ClaimState :=
  if k.face.isNone then .waiting
  else if (c.pin.map fun p => p.serial == k.serial).getD false then .pinned else .shown

/-- The claim of a serial (R50). -/
def Context.claim (c : Context) (serial : Nat) : Option Claim := c.claims.find? fun k => k.serial == serial

/-- Change the claim of a serial. -/
def Context.setClaim (c : Context) (serial : Nat) (f : Claim → Claim) : Context :=
  { c with claims := c.claims.map fun k => if k.serial == serial then f k else k }

/-- The face of a set at an index (R49). -/
def FaceSet.faceAt (x : FaceSet) (i : Nat) : Option Face := x.faces.find? fun f => f.index == i

/-! ### The desired face set -/

/-- The blink of a claim's face (R36). -/
def Claim.blink (k : Claim) : Blink := if k.lingerExpired then .fast else if k.urgent then .slow else .steady

/-- The colour of a lane in the lane table (R35). -/
def colourOf (lanes : List Lane) (lane : Nat) : Nat :=
  ((lanes[lane - 1]?).bind Lane.colour).getD 0

/-- The face of a claim at an index: S, or the adjusted count with the marker while PINNED (R35). -/
def Context.faceOf (c : Context) (lanes : List Lane) (k : Claim) (i : Nat) : Face :=
  let pinned := c.pin.filter fun p => p.serial == k.serial
  { index := i, serial := k.serial, colour := colourOf lanes k.lane,
    quantity := (pinned.map Pin.count).getD k.sum, blink := k.blink, adjust := pinned.isSome }

/-- One face for each claim that holds an index, in ascending index (R35). -/
def Context.facesNow (c : Context) (lanes : List Lane) : List Face :=
  [0, 1, 2].filterMap fun i => (c.claims.find? fun k => k.face == some i).map fun k => c.faceOf lanes k i

/-- The pinned index: the face index of the PINNED claim (R38). -/
def Context.pinnedIndex (c : Context) : Option Nat :=
  c.pin.bind fun p => (c.claim p.serial).bind Claim.face

/-- The generation after one: 15 is followed by 1, and 0 by 1 (R39). -/
def nextGeneration (g : Nat) : Nat := if 15 ≤ g then 1 else g + 1

/-- Whether a generation is that of the pending or the displayed set (R39). -/
def Context.generationTaken (c : Context) (g : Nat) : Bool :=
  g == c.displayed.generation || (c.pending.map FaceSet.generation) == some g

/-- The first candidate generation that is neither pending nor displayed; at most two are skipped (R39). -/
def Context.freshGeneration (c : Context) : Nat :=
  let g1 := nextGeneration c.generation
  let g2 := nextGeneration g1
  if !c.generationTaken g1 then g1 else if !c.generationTaken g2 then g2 else nextGeneration g2

/-- The desired set is rebuilt; it takes a new generation when its content differs (R39). -/
def Context.rebuild (c : Context) (lanes : List Lane) (paused : Bool) : Context :=
  let faces := c.facesNow lanes
  let pinned := c.pinnedIndex
  if faces == c.desired.faces && paused == c.desired.paused && pinned == c.desired.pinned then c
  else
    let g := c.freshGeneration
    { c with generation := g, desired := { generation := g, faces := faces, paused := paused, pinned := pinned } }

/-- A desired set is due (R40). -/
def Context.due (c : Context) : Bool := c.pending.isNone && c.desired.generation != c.displayed.generation

/-! ### Face selection -/

/-- The face indices of a context (R32). -/
def Context.indices (c : Context) : List Nat := if c.atlas.solo then [0] else [0, 1, 2]

/-- The lowest free face index (R32, R33). -/
def Context.freeIndex (c : Context) : Option Nat :=
  c.indices.find? fun i => c.claims.all fun k => k.face != some i

/-- The first WAITING claim whose lane has no SHOWN or PINNED claim (R33). -/
def Context.nextToShow (c : Context) : Option Claim :=
  c.claims.find? fun k => k.face.isNone && c.claims.all fun j => j.face.isNone || j.lane != k.lane

/-- The linger timer that a claim starts when first shown (R37). -/
def lingerStart (lanes : List Lane) (lane : Nat) : Option Nat :=
  let seconds := ((lanes[lane - 1]?).map Lane.linger).getD 0
  if seconds == 0 then none else some (seconds * 1000)

/-- One pass of selection: a claim receives an index, starts its linger timer and the desired set is rebuilt (R33, R34). -/
def Context.showOne (c : Context) (lanes : List Lane) (paused : Bool) : Context :=
  match c.freeIndex, c.nextToShow with
  | some i, some k =>
    (c.setClaim k.serial fun j => { j with face := some i, linger := lingerStart lanes j.lane }).rebuild lanes paused
  | _, _ => c

/-- Face selection: one run may give faces to up to three claims (R33). -/
def Context.select (c : Context) (lanes : List Lane) (paused : Bool) : Context :=
  ((c.showOne lanes paused).showOne lanes paused).showOne lanes paused

/-! ### Claims -/

/-- Whether a serial is held by a claim or named by a face of the pending or displayed set (R27). -/
def Context.serialTaken (c : Context) (n : Nat) : Bool :=
  (c.claims.any fun k => k.serial == n) || (c.displayed.faces.any fun f => f.serial == n) ||
    ((c.pending.map fun x => x.faces.any fun f => f.serial == n).getD false)

/-- The first serial from `n` on that is not taken, within `fuel` further tries (R27). -/
def Context.serialFrom (c : Context) : Nat → Nat → Nat
  | 0, n => n
  | fuel + 1, n => if c.serialTaken n then c.serialFrom fuel ((n + 1) % 256) else n

/-- The serial a new claim takes: at most 12 are taken (R27). -/
def Context.newSerial (c : Context) : Nat := c.serialFrom 12 (c.nextSerial % 256)

/-- A claim is inserted by urgency: after the last urgent one, or at the end (R27). -/
def insertClaim (claims : List Claim) (k : Claim) : List Claim :=
  if k.urgent then (claims.takeWhile Claim.urgent) ++ k :: claims.dropWhile Claim.urgent else claims ++ [k]

/-- A new claim for a pick (R27), with the face selection that follows. -/
def Context.newClaim (c : Context) (lanes : List Lane) (paused : Bool) (entry : Nat) (p : Pick) : Context :=
  let n := c.newSerial
  let k : Claim :=
    { lane := p.lane, urgent := p.urgent, serial := n, face := none, linger := none, lingerExpired := false,
      bundle := [entry], sum := p.requested }
  ({ c with claims := insertClaim c.claims k, nextSerial := (n + 1) % 256 }).select lanes paused

/-- The last claim of a lane, if the pick may be appended to its bundle (R28, step 1). -/
def Context.joinable (c : Context) (p : Pick) : Option Claim :=
  match (c.claims.filter fun k => k.lane == p.lane).getLast? with
  | some k =>
    if k.urgent == p.urgent && c.claimState k != .pinned && decide (k.bundle.length < 8) &&
        decide (k.sum + p.requested ≤ 999) then some k else none
  | none => none

/-- The join rule: append to the lane's last claim, or open a new claim, or place nothing (R28). -/
def Context.offer (c : Context) (lanes : List Lane) (paused : Bool) (entry : Nat) (p : Pick) : Option Context :=
  match c.joinable p with
  | some k =>
    some ((c.setClaim k.serial fun k => { k with bundle := k.bundle ++ [entry], sum := k.sum + p.requested }).rebuild
      lanes paused)
  | none => if c.claims.length < 6 then some (c.newClaim lanes paused entry p) else none

/-- A claim leaves the list; its pin ends, selection runs and the desired set is rebuilt (R31). -/
def Context.removeClaim (c : Context) (lanes : List Lane) (paused : Bool) (serial : Nat) : Context :=
  let c := { c with
    claims := c.claims.filter fun k => k.serial != serial
    pin := c.pin.filter fun (p : Pin) => p.serial != serial }
  (c.select lanes paused).rebuild lanes paused

/-- The ceiling of the adjusted count: H = min(999, S + L) (R54). -/
def Context.ceilingOf (c : Context) (sum : Nat) : Nat := min 999 (sum + c.atlas.limit)

/-- The claim's bundle and sum change other than by a confirmation: a pin's count is clamped and the set rebuilt (R61, R62). -/
def Context.correct (c : Context) (lanes : List Lane) (paused : Bool) (serial : Nat) (bundle : List Nat) (sum : Nat) : Context :=
  let c := c.setClaim serial fun k => { k with bundle := bundle, sum := sum }
  let c := { c with pin := c.pin.map fun (p : Pin) =>
    if p.serial == serial then { p with count := min p.count (c.ceilingOf sum) } else p }
  c.rebuild lanes paused

/-- A press of MINUS or PLUS applied to A within the ceiling (R54). -/
def adjusted (button : Button) (a ceiling : Nat) : Nat :=
  match button with
  | .minus => a - 1
  | .plus => if a < ceiling then a + 1 else ceiling
  | .confirm => a

/-- An adjust press on a claim: pin it if it is not pinned, apply the press, restart the pin timer, rebuild (R53). -/
def Context.adjust (c : Context) (lanes : List Lane) (paused : Bool) (k : Claim) (button : Button) (timer : Nat) : Context :=
  let a := (c.pin.map Pin.count).getD k.sum
  ({ c with pin := some { serial := k.serial, count := adjusted button a (c.ceilingOf k.sum), timer := timer } }).rebuild
    lanes paused

/-- The pin ends and its claim stays: SHOWN again, the set rebuilt (R26, R43, R55, R56). -/
def Context.endPin (c : Context) (lanes : List Lane) (paused : Bool) : Context := ({ c with pin := none }).rebuild lanes paused

/-- A new context of a slot, before its first claim (R22). -/
def Context.create (slot : Nat) (atlas : AtlasCopy) : Context :=
  { slot := slot, atlas := atlas, claims := [], nextSerial := 0, generation := 0, desired := FaceSet.nothing, pending := none,
    displayed := FaceSet.nothing, pin := none }

/-- A damaged context is emptied: claims, pin and linger timers discarded, the desired set the empty set with a generation
that differs from the pending and displayed ones as read (R173, steps 3 and 4). -/
def Context.emptied (c : Context) (paused : Bool) : Context :=
  let g := c.freshGeneration
  { c with
    claims := []
    pin := none
    generation := g
    desired := { generation := g, faces := [], paused := paused, pinned := none } }

/-- A context is DRAINING while its claim list is empty (R23). -/
def Context.draining (c : Context) : Bool := c.claims.isEmpty

end Sys2Proof.Machine
end

