-- ==== Sys2Proof/Machine/Picks.lean ====
section
/-! DEFINITION. The Pick Manager with the Slot Manager's table: outcomes, freed entries and fences, bundles and claims that
lose a pick, contexts that drain and are freed, the placement pass, the confirmation of a claim, and the damage rules of the
two tables (R4 to R8, R13 to R16, R22 to R25, R29 to R31, R58 to R61, R146, R171 to R173). -/

namespace Sys2Proof.Machine

/-! ### Looking picks up -/

/-- The first claim of a context whose bundle holds an entry. -/
def Context.holding (c : Context) (i : Nat) : Option Claim := c.claims.find? fun k => k.bundle.contains i

/-- The context entry and the claim whose bundle holds a pick entry (R5: the claim refers to the entry). The claims of a context
entry that fails its check are not trusted (R173; log 8). -/
def State.holder (s : State) (i : Nat) : Option (Nat × Claim) :=
  (firstFrom (fun e : ContextEntry => e.parity && (e.context.map fun c => (c.holding i).isSome).getD false) 0
    s.contexts).bind fun ci =>
    ((s.contextAt ci).bind fun c => c.holding i).map fun k => (ci, k)

/-- The state of a pick entry (Table 1-2); a placed pick is WAITING or SHOWN as its claim is (R5; log 10). -/
def State.pickState (s : State) (i : Nat) : PickState :=
  match s.pickAt i with
  | none => .free
  | some p =>
    match p.stage with
    | .deferred _ => .deferred
    | .reporting _ => .reporting
    | .placed => if ((s.holder i).map fun h => h.2.face.isSome).getD false then .shown else .waiting

/-- Whether a pick is DEFERRED, WAITING or SHOWN: not REPORTING (Table 1-2). -/
def Pick.live (p : Pick) : Bool :=
  match p.stage with
  | .reporting _ => false
  | _ => true

/-- The requested quantity of an entry, 0 when FREE. -/
def State.requestedOf (s : State) (i : Nat) : Nat := ((s.pickAt i).map Pick.requested).getD 0

/-- The sum of the requested quantities of a bundle's picks (R29). -/
def State.sumOf (s : State) (bundle : List Nat) : Nat := (bundle.map s.requestedOf).sum

/-- The bundle size and the bundle position of an entry: 1 and 1 when no bundle holds it (R6, R18). -/
def State.placeInBundle (s : State) (i : Nat) : Nat × Nat :=
  match s.holder i with
  | some (_, k) => (k.bundle.length, k.bundle.idxOf i + 1)
  | none => (1, 1)

/-! ### Outcomes and freed entries -/

/-- An entry becomes FREE and the count rises by one (R7, R8). -/
def State.release (s : State) (i : Nat) : State :=
  let t := s.setPick i none
  t.setPm { t.pm with free := t.pm.free + 1 }

/-- The outcome fields of a pick closed now (R6). -/
def State.outcome (s : State) (kind : OutcomeKind) (cause : Cause) (confirmed size position : Nat)
    (adjusted suspect : Bool) : Outcome :=
  { kind := kind, cause := cause, confirmed := confirmed, timeClosed := s.now, bundleSize := size,
    bundlePosition := position, adjusted := adjusted, suspectTag := suspect }

/-- A pick's outcome is decided: it enters REPORTING and joins the report list, or is freed when it is a quiet pick
confirmed FULL (R6, R7). -/
def State.close (s : State) (i : Nat) (o : Outcome) : State :=
  match s.pickAt i with
  | none => s
  | some p =>
    if p.quiet && o.kind == .full then s.release i
    else (s.setPick i (some { p with stage := .reporting o, abandon := none })).appendItem (.pick i)

/-- A reference leaves the deferred list (R15, R16). -/
def State.undefer (s : State) (i : Nat) : State :=
  s.setPm { s.pm with deferred := s.pm.deferred.filter fun j => j != i }

/-! ### Contexts that drain -/

/-- A DRAINING context may be freed: dark with nothing pending, or its module LOST (R24). -/
def State.freeable (s : State) (c : Context) : Bool :=
  c.draining && ((c.displayed.faces.isEmpty && c.pending.isNone) ||
    (s.link c.atlas.string c.atlas.address).presence == .lost)

/-- Free the context if it may be freed (R24). -/
def State.settleContext (s : State) (ci : Nat) : State :=
  match s.contextAt ci with
  | some c => if s.freeable c then s.setContext ci none else s
  | none => s

/-! ### Leaving a bundle -/

/-- A claim without one of its picks: it leaves the list when that was the last, else its sum is corrected (R29, R31, R61). -/
def Context.without (c : Context) (lanes : List Lane) (paused : Bool) (serial : Nat) (rest : List Nat) (sum : Nat) : Context :=
  if rest.isEmpty then c.removeClaim lanes paused serial else c.correct lanes paused serial rest sum

/-- A pick's reference is taken out of the bundle that holds it, and a context left with no claim drains (R29, R31). -/
def State.dropReference (s : State) (i : Nat) : State :=
  match s.holder i with
  | none => s
  | some (ci, k) =>
    match s.contextAt ci with
    | none => s
    | some c =>
      let rest := k.bundle.filter fun j => j != i
      (s.setContext ci (some (c.without s.pm.lanes s.paused k.serial rest (s.sumOf rest)))).settleContext ci

/-- A pick leaves its bundle other than by a confirmation: it is closed and its reference taken out (R29, R31, R61). -/
def State.leaveBundle (s : State) (i : Nat) (kind : OutcomeKind) (cause : Cause) (suspect : Bool) : State :=
  (s.close i (s.outcome kind cause 0 (s.placeInBundle i).1 (s.placeInBundle i).2 false suspect)).dropReference i

/-! ### Damaged picks -/

/-- The places, from `n`, where a test holds. -/
def placesFrom {α : Type} (test : α → Bool) : Nat → List α → List Nat
  | _, [] => []
  | n, x :: xs => if test x then n :: placesFrom test (n + 1) xs else placesFrom test (n + 1) xs

/-- The entries that fail their check, in ascending index (R171). -/
def State.badPicks (s : State) : List Nat := placesFrom (fun e : PickEntry => !e.parity) 0 s.pm.entries

/-- An entry that fails its check while REPORTING: its outcome fields stand, the suspect-tag flag is set, and no abandon timer
is left (R172). -/
def State.markSuspect (s : State) (i : Nat) : State :=
  match s.pickAt i with
  | some p =>
    match p.stage with
    | .reporting o => s.setPick i (some { p with stage := .reporting { o with suspectTag := true }, abandon := none })
    | _ => s
  | none => s

/-- Whether an entry's reference stands in a bundle, and in neither the deferred list nor the report list (R171). -/
def State.bundled (s : State) (i : Nat) : Bool :=
  !s.pm.deferred.contains i && !s.jw.report.contains (.pick i) && (s.holder i).isSome

/-- The damage rule of a pick entry, by the collection that holds its reference, but for the placement pass (R172). -/
def State.damagePick (s : State) (i : Nat) : State :=
  if s.pm.deferred.contains i then (s.undefer i).close i (s.outcome .faulted .entry 0 1 1 false true)
  else if s.jw.report.contains (.pick i) then s.markSuspect i
  else if s.bundled i then s.leaveBundle i .faulted .entry true
  else s.setPick i none

/-! ### Placing -/

/-- The pick is offered to a context under the join rule (R28); a placed pick discards its atlas copy (R15). -/
def State.putInto (s : State) (ci i : Nat) (p : Pick) : Option State :=
  (s.contextAt ci).bind fun c =>
    (c.offer s.pm.lanes s.paused i p).map fun c' =>
      (s.setContext ci (some c')).setPick i (some { p with stage := .placed })

/-- A new context is created for the pick in a free entry, and the pick opens its first claim (R22). -/
def State.createFor (s : State) (ci i : Nat) (p : Pick) (atlas : AtlasCopy) : State :=
  let c := (Context.create p.slot atlas).newClaim s.pm.lanes s.paused i p
  (s.setContext ci (some c)).setPick i (some { p with stage := .placed })

/-- Whether the join rule as it stands would append a deferred pick to a claim whose bundle holds an entry that fails its check: that
entry is FAULTED before the join is judged (R28, step 1; R172). -/
def State.joinsDamaged (s : State) (i : Nat) : Bool :=
  match s.pickAt i with
  | some p =>
    s.pickIntact i &&
      ((((s.contextOfSlot p.slot).bind s.contextAt).bind fun c => c.joinable p).elim false fun k =>
        k.bundle.any fun j => !s.pickIntact j)
  | none => false

/-- The slot of an entry as read. -/
def State.slotOfPick (s : State) (i : Nat) : Option Nat := (s.pickAt i).map Pick.slot

/-- Whether a deferred pick waits for a damaged entry that is still to be handled: its own join, or that of an older deferred pick of
its slot, would read one. So no younger pick takes the room of an older one (R14, R15, R172; log 7). -/
def State.heldUp (s : State) (i : Nat) : Bool :=
  s.joinsDamaged i ||
    (s.pm.deferred.takeWhile fun j => j != i).any fun j => s.slotOfPick j == s.slotOfPick i && s.joinsDamaged j

/-- What the placement pass does with one deferred pick (R15). Left for a later pass: a pick whose own entry fails its check, one that
a damaged entry holds up, and one whose context entry fails its check; each of these is handled in its turn, with a pass of its own
(R171, R172; log 7, log 8). -/
def State.visitDeferred (s : State) (i : Nat) : State :=
  match s.pickAt i with
  | none => s
  | some p =>
    match p.stage with
    | .deferred atlas =>
      if !s.pickIntact i then s
      else match s.contextOfSlot p.slot with
      | some ci =>
        if s.contextIntact ci && !s.heldUp i then
          match s.putInto ci i p with
          | some t => t.undefer i
          | none => s
        else s
      | none =>
        match s.lowestFreeContext with
        | none => s
        | some ci =>
          if s.hot atlas.string atlas.address then
            (s.undefer i).close i (s.outcome .refused .moduleShared 0 1 1 false false)
          else (s.createFor ci i p atlas).undefer i
    | _ => s

/-- The walk of the deferred list, oldest first, each pick on the table as the earlier ones left it. It runs inside the step of its
cause, and so ahead of a consumption of the head PICK that falls together with it (R14; log 52). -/
def State.walkDeferred (s : State) : State := s.pm.deferred.foldl State.visitDeferred s

/-- A damaged entry is handled, with the placement pass of one that leaves a bundle, and then reported (R171, R172). -/
def State.handlePick (s : State) (i : Nat) : State :=
  let t := s.damagePick i
  (if s.bundled i then t.walkDeferred else t).reportFault .pick i

/-- Damaged entries that one read has found, in the order given, which is that of their index (R171). -/
def State.handlePicks (s : State) (found : List Nat) : State := found.foldl State.handlePick s

/-- The picks of a lane's claims. -/
def Context.laneReads (c : Context) (lane : Nat) : List Nat := (c.claims.filter fun k => k.lane == lane).flatMap Claim.bundle

/-- The picks whose entries the pass reads for the join of one deferred pick: those of its lane's claims, in every context of its slot
(R172; log 7). -/
def State.joinReads (s : State) (i : Nat) : List Nat :=
  match s.pickAt i with
  | some p =>
    s.contexts.flatMap fun e => ((e.context.filter fun (c : Context) => c.slot == p.slot).elim [] fun c => c.laneReads p.lane)
  | none => []

/-- Whether a placement pass reads an entry: a deferred one, or one of a claim that an intact deferred pick may join. -/
def State.passReads (s : State) (i : Nat) : Bool :=
  s.pm.deferred.contains i || (s.pm.deferred.filter s.pickIntact).any fun j => (s.joinReads j).contains i

/-- The placement pass: the damaged entries it reads are handled, so that none is joined to before it is FAULTED, and the deferred
list is walked once (R14, R172; log 7). -/
def State.placementPass (s : State) : State := (s.handlePicks (s.badPicks.filter s.passReads)).walkDeferred

/-- The departure of a pick from its bundle with the placement pass that follows (R139). -/
def State.withdraw (s : State) (i : Nat) (kind : OutcomeKind) (cause : Cause) (suspect : Bool) : State :=
  (s.leaveBundle i kind cause suspect).placementPass

/-! ### Reads of the pick table -/

/-- Whether an entry stands in the bundle of one of these picks: the sum of a bundle that a pick leaves is recomputed from the
others (R29). -/
def State.shares (s : State) (found : List Nat) (i : Nat) : Bool :=
  found.any fun j => s.bundled j && ((s.holder j).elim false fun h => h.2.bundle.contains i)

/-- The damaged entries that one read of some entries finds, in ascending index. When one of them stands in a bundle, its departure
reads the others of that bundle, and its placement pass what a pass reads; they belong to the same read (R171, R172, R29; log 7). -/
def State.found (s : State) (reads : Nat → Bool) : List Nat :=
  let bad := s.badPicks.filter reads
  if bad.any s.bundled then s.badPicks.filter fun i => reads i || s.shares bad i || s.passReads i else bad

/-- One read of some entries: those that fail their check are handled and reported in ascending index, each with a placement pass of
its own where it leaves a bundle (R171, R172). -/
def State.readPicks (s : State) (reads : Nat → Bool) : State := s.handlePicks (s.found reads)

/-- The read of one entry (R171). -/
def State.checkPick (s : State) (i : Nat) : State := s.readPicks fun j => j == i

/-- A scan of the pick table (R171). -/
def State.checkPicks (s : State) : State := s.readPicks fun _ => true

/-! ### Fences -/

/-- Whether one intake sequence precedes another, by difference modulo 2^32 (R146; log 23). -/
def precedes (a b : Count) : Bool := decide (0 < (b - a).toNat ∧ (b - a).toNat < 2 ^ 31)

/-- A fence is reached when no entry that is not FREE holds a pick consumed ahead of it (R146). -/
def State.fenceReached (s : State) (f : Fence) : Bool :=
  s.pm.entries.all fun e => (e.pick.map fun p => !precedes p.intakeSequence f.intakeSequence).getD true

/-- The FENCE-REACHED advisory of a fence (R146). -/
def State.fenceRecord (s : State) (f : Fence) : OutcomeRecord :=
  { s.advisory .fenceReached .none 1024 f.id with intakeSequence := f.intakeSequence, timeAccepted := f.timeAccepted }

/-- Take reached fences from the front of the list, in order (R146). -/
def State.takeFences (s : State) : List Fence → State
  | [] => s
  | f :: fs =>
    if s.fenceReached f then
      ((s.setPm { s.pm with fences := fs }).offerClosing (s.fenceRecord f)).takeFences fs
    else s

/-- The fence list is judged: a read of every entry while the list holds a fence (R146, R171). -/
def State.judgeFences (s : State) : State :=
  if s.pm.fences.isEmpty then s else s.checkPicks.takeFences s.pm.fences

/-! ### Damaged contexts -/

/-- Insert by a key, larger keys first. -/
def insertByKey (key : Nat → Nat) (x : Nat) : List Nat → List Nat
  | [] => [x]
  | y :: ys => if key y < key x then x :: y :: ys else y :: insertByKey key x ys

/-- Entries in ascending intake sequence: the oldest is the one furthest behind TAKEN (R173; log 24). -/
def State.bySequence (s : State) (l : List Nat) : List Nat :=
  l.foldr (insertByKey fun i => ((s.pickAt i).map fun p => (s.iu.taken - p.intakeSequence).toNat).getD 0) []

/-- Whether a context entry other than `ci` holds a context that passes a test. -/
def State.otherContext (s : State) (ci : Nat) (test : Context → Bool) : Bool :=
  ((s.setContext ci none).findContext test).isSome

/-- Whether an entry is WAITING or SHOWN (Table 1-2). -/
def State.isPlaced (s : State) (i : Nat) : Bool := ((s.pickAt i).map fun p => p.stage == .placed).getD false

/-- Whether an entry is a pick of the damaged context `ci`: WAITING or SHOWN, and its slot as read the slot of no other context
(R173, step 2). An entry that stands in no other context's bundle is one too, whatever slots are read (log 8). -/
def State.victim (s : State) (ci i : Nat) : Bool :=
  s.isPlaced i &&
    (!s.otherContext ci (fun c => some c.slot == (s.pickAt i).map Pick.slot) ||
      !s.otherContext ci (fun c => (c.holding i).isSome))

/-- The picks of the damaged context, in ascending intake sequence (R173, step 2). -/
def State.victims (s : State) (ci : Nat) : List Nat :=
  s.bySequence ((List.range s.pm.entries.length).filter (s.victim ci))

/-- A pick of a damaged context is FAULTED, marked when its entry also fails its own check, and taken out of any bundle of another
context that holds it (R173, R172, R29). -/
def State.faultVictim (s : State) (i : Nat) : State :=
  (s.close i (s.outcome .faulted .context 0 1 1 false (!s.pickIntact i))).dropReference i

/-- Whether an atlas copy as read names a disabled string, an address out of range, or another context's module (R173, step 1). -/
def State.copyUnusable (s : State) (ci : Nat) (a : AtlasCopy) : Bool :=
  match s.lrc.setup with
  | none => true
  | some u =>
    !(u.string a.string).enabled || a.address == 0 || decide ((u.string a.string).ceiling < a.address) ||
      s.otherContext ci fun c => c.names a.string a.address

/-- The module of a freed context is darkened at its next contact when it became cold with faces lit (R173, step 1). -/
def State.darkenIfCold (s : State) (c : Context) : State :=
  if c.displayed.faces.isEmpty || s.hot c.atlas.string c.atlas.address then s
  else s.setLink c.atlas.string c.atlas.address
    { s.link c.atlas.string c.atlas.address with darkeningDue := true }

/-- Steps 2 to 4 of the damage to a context, or its freeing in place of step 4 (R173). Its claims go first, so that no reference
of theirs is trusted. -/
def State.emptyContext (s : State) (ci : Nat) (c : Context) : State :=
  let t := s.setContext ci (some (c.emptied s.paused))
  let t := (s.victims ci).foldl State.faultVictim t
  if s.copyUnusable ci c.atlas then (t.setContext ci none).darkenIfCold c else t.settleContext ci

/-- Damage to a context entry, its placement pass included; an entry not in use is rewritten free (R173, R171). -/
def State.damageContext (s : State) (ci : Nat) : State :=
  match s.contextAt ci with
  | none => (s.setContext ci none).reportFault .context ci
  | some c => ((s.emptyContext ci c).walkDeferred).reportFault .context ci

/-- The turn of a damaged context entry among those of one read. Until its turn nothing writes to an entry in use; one not in use, in
which a pass has created a context since, was written with fresh parity then and is reported only (R171; log 8). -/
def State.damageInTurn (s : State) (ci : Nat) : State :=
  if s.contextIntact ci then s.reportFault .context ci else s.damageContext ci

/-- The turn of a pick entry that the search of step 2 or the pass of step 5 has found damaged: a pick of the damaged context was
written with fresh parity when it was FAULTED, and is reported only (R171, R172, R173; log 8). -/
def State.damagePickInTurn (s : State) (i : Nat) : State :=
  if s.pickIntact i then s.reportFault .pick i else s.handlePick i

/-- The entries that damage to a context in use reads in the pick table: the WAITING and SHOWN ones for their slots, and those that its
placement pass visits (R173, steps 2 and 5; log 7). -/
def State.damageReads (s : State) (i : Nat) : Bool := s.isPlaced i || s.pm.deferred.contains i

/-- Damaged context entries, each handled whole and reported in ascending index, and then the damaged pick entries that this has read,
in ascending index too: two tables, either may be taken first (R171, R173; log 8). -/
def State.damageContexts (s : State) (bad : List Nat) : State :=
  let t := bad.foldl State.damageInTurn s
  if bad.any fun ci => (s.contextAt ci).isSome then (s.badPicks.filter s.damageReads).foldl State.damagePickInTurn t else t

/-! ### Confirmation -/

/-- The confirmed count is divided in bundle order: each pick is filled before a later one, the last takes the rest (R58). -/
def apportion : Nat → List Nat → List Nat
  | _, [] => []
  | c, [_] => [c]
  | c, r :: rs => min r c :: apportion (c - min r c) rs

/-- The outcome kind of a pick from its confirmed and requested quantity (R59). -/
def outcomeKind (c r : Nat) : OutcomeKind := if c = r then .full else if c < r then .short else .over

/-- The picks of a confirmed bundle are closed in bundle order (R60, steps 1 and 2). -/
def State.closeBundle (s : State) (size : Nat) (adjusted : Bool) : Nat → List Nat → List Nat → State
  | position, i :: is, c :: cs =>
    (s.close i (s.outcome (outcomeKind c (s.requestedOf i)) .none c size position adjusted false)).closeBundle size adjusted
      (position + 1) is cs
  | _, _, _ => s

/-- The claim that a confirmation closes leaves its context (R60, step 3; R31). -/
def State.closeClaim (s : State) (ci serial : Nat) : State :=
  match s.contextAt ci with
  | none => s
  | some c => (s.setContext ci (some (c.removeClaim s.pm.lanes s.paused serial))).settleContext ci

/-- A confirmed count is apportioned over the claim's bundle and the claim closed (R58, R60). A quiet FULL pick freed by it is an
event for the fence list, judged when the whole bundle has been closed, so that its references stand together (R146, R152; log 48). The placement pass
runs in the same step, ahead of any consumption of the head PICK (R14; log 52). -/
def State.confirm (s : State) (ci : Nat) (k : Claim) (count : Nat) (adjusted : Bool) : State :=
  let t := (s.closeBundle k.bundle.length adjusted 1 k.bundle (apportion count (k.bundle.map s.requestedOf))).closeClaim
    ci k.serial
  (if s.pm.free < t.pm.free then t.judgeFences else t).placementPass

end Sys2Proof.Machine
end

