-- ==== Sys2Proof/Machine/Presses.lean ====
section
/-! DEFINITION. The attribution of one press event: matching, stray presses, adjusting and confirming (R46 to R57). -/

namespace Sys2Proof.Machine

/-- The press locator of a press (R51, Table 6-8). -/
def pressLocator (string address : Nat) (e : PressEvent) : Word :=
  locator string address e.sequence e.button.code e.face e.generation

/-- A stray press changes nothing but may offer one STRAY-PRESS advisory, when reporting is enabled (R51). -/
def State.strayPress (s : State) (string address : Nat) (e : PressEvent) (cause : Cause) (slot lane : Nat) : State :=
  match s.lrc.setup with
  | some u =>
    if u.stray then
      s.offer { s.advisory .strayPress cause slot (pressLocator string address e) with lane := BitVec.ofNat 8 lane }
    else s
  | none => s

/-- The face set whose generation a press carries: the displayed set, or the pending set (R48). -/
def Context.matchedSet (c : Context) (generation : Nat) : Option FaceSet :=
  if c.displayed.generation == generation then some c.displayed
  else c.pending.filter fun x => x.generation == generation

/-- What the three steps of matching find (R47 to R50). -/
inductive Match where
  | stray (cause : Cause) (slot : Nat)
  | claim (context : Nat) (claim : Claim) (quantity : Nat)
  deriving DecidableEq, Repr

/-- Match a press against a context: face set, face, claim (R48, R49, R50). -/
def Context.matchPress (c : Context) (ci : Nat) (e : PressEvent) : Match :=
  match c.matchedSet e.generation with
  | none => .stray .stale c.slot
  | some x =>
    match x.faceAt e.face with
    | none => .stray .noFace c.slot
    | some f =>
      match c.claim f.serial with
      | none => .stray .withdrawn c.slot
      | some k => .claim ci k f.quantity

/-- Match a press of a module: its context first (R47). -/
def State.matchPress (s : State) (string address : Nat) (e : PressEvent) : Match :=
  match s.contextOfModule string address with
  | none => .stray .cold 1024
  | some ci =>
    match s.contextAt ci with
    | none => .stray .cold 1024
    | some c => c.matchPress ci e

/-- The pin timeout in ms (R55). -/
def State.pinMs (s : State) : Nat := ((s.lrc.setup.map Setup.pinTimeout).getD 0) * 1000

/-- A MINUS or PLUS on a matched claim: a conflict with another claim's pin, or an adjustment (R52, R53). -/
def State.adjustPress (s : State) (string address : Nat) (e : PressEvent) (ci : Nat) (k : Claim) : State :=
  match s.contextAt ci with
  | none => s
  | some c =>
    if ((c.pin.map fun p => p.serial != k.serial).getD false) then
      s.strayPress string address e .pinConflict c.slot k.lane
    else s.setContext ci (some (c.adjust s.pm.lanes s.paused k e.button s.pinMs))

/-- A CONFIRM on a matched claim: A while PINNED, else the quantity the module showed (R57). -/
def State.confirmPress (s : State) (ci : Nat) (k : Claim) (quantity : Nat) : State :=
  match s.contextAt ci with
  | none => s
  | some c =>
    match c.pin.filter fun p => p.serial == k.serial with
    | some p => s.confirm ci k p.count true
    | none => s.confirm ci k quantity false

/-- The picks that a press would have read: those of the bundle a CONFIRM closes. They are read at once and before the choice
of C: an entry that fails its check leaves the bundle first, a pin's count is clamped to what is left, and a press whose claim is
gone is WITHDRAWN (R61, R171, R172; log 40). -/
def State.checkPressed (s : State) (string address : Nat) (e : PressEvent) : State :=
  match e.button, s.matchPress string address e with
  | .confirm, .claim _ k _ => s.readPicks fun i => k.bundle.contains i
  | _, _ => s

/-- One accepted press event is attributed completely (R46). -/
def State.attributePress (s : State) (string address : Nat) (e : PressEvent) : State :=
  let s := s.checkPressed string address e
  match s.matchPress string address e with
  | .stray cause slot => s.strayPress string address e cause slot 0
  | .claim ci k quantity =>
    match e.button with
    | .confirm => s.confirmPress ci k quantity
    | _ => s.adjustPress string address e ci k

/-- The accepted events of a reply, one at a time in queue order (R46). -/
def State.attributeAll (s : State) (string address : Nat) (es : List PressEvent) : State :=
  es.foldl (fun s e => s.attributePress string address e) s

end Sys2Proof.Machine
end

