-- ==== Sys2Proof/Machine/Strings.lean ====
section
/-! DEFINITION. The String Controllers: modes, surveys, sweeps and rounds, what goes on the line next, the handling of a
reply and of a miss, the feed fault, and the strings' share of START, CLEAR and the resets (R68 to R94). -/

namespace Sys2Proof.Machine

/-! ### Modes -/

/-- The mode of a string. -/
def State.modeOf (s : State) (n : Nat) : Mode := (s.stringAt n).mode

/-- The quiet period of a string in ms. -/
def StringCtl.quietMs (x : StringCtl) : Nat := (x.items.map StringItems.quietMs).getD 0

/-- An exchange in flight is no longer the survey's or sweep's own, when the sweep is abandoned or begun anew (R83, R84, R85). -/
def Line.detach : Line → Line
  | .exchange a k _ left => .exchange a k false left
  | l => l

/-- Whether an exchange is in progress (R70). -/
def Line.inExchange : Line → Bool
  | .exchange _ _ _ _ => true
  | _ => false

/-- A survey or sweep at its first address (R78, R82). -/
def Sweep.first : Sweep := { address := 1, tries := 0, dark := false, lampsGood := 0 }

/-- Entry to QUIET: a quiet period starts with its cold turn, the dormancy timer restarts (R81; log 21). -/
def StringCtl.enterQuiet (x : StringCtl) : StringCtl :=
  { x with
    mode := .quiet, purpose := none, sweep := none, roundPosition := 0, dormancyTimer := 0, modeTimer := some x.quietMs
    turnDue := true, dormancyDue := false }

/-- Entry to QUIET out of DORMANT, opened with an attention sweep (R82). -/
def StringCtl.wake (x : StringCtl) : StringCtl := { x.enterQuiet with turnDue := false, sweep := some Sweep.first }

/-- Entry to DORMANT; a low attention wire takes the string back at once (R81, R82). -/
def StringCtl.enterDormant (x : StringCtl) : StringCtl :=
  if x.attentionLow then x.wake
  else { x with
    mode := .dormant, purpose := none, sweep := none, modeTimer := none, turnDue := false, dormancyDue := false }

/-- Entry to ACTIVE: a new round begins (R83, R78). -/
def StringCtl.enterActive (x : StringCtl) : StringCtl :=
  { x with
    mode := .active, purpose := none, sweep := none, roundPosition := 0, modeTimer := none, turnDue := false
    dormancyDue := false }

/-- Entry to SURVEYING: ALL-DARK falls due, and PAUSE after it while HALTED, and the sweep stands at address 1 (R77, R78). -/
def StringCtl.enterSurvey (x : StringCtl) (purpose : Purpose) (halted : Bool) : StringCtl :=
  { x with
    mode := .surveying, purpose := some purpose, sweep := some Sweep.first, line := x.line.detach
    due := x.due ++ Broadcast.allDark :: (if halted then [Broadcast.pause] else [])
    modeTimer := none, turnDue := false, dormancyDue := false }

/-- Entry to SETTLING with the feed switched on (R76, R77, R85). -/
def StringCtl.enterSettling (x : StringCtl) (purpose : Purpose) : StringCtl :=
  { x with
    mode := .settling, feed := true, purpose := some purpose, sweep := none, line := .idle, due := []
    modeTimer := some 800, turnDue := false, dormancyDue := false }

/-- Entry to TEST: the TEST broadcast falls due, an attention sweep is abandoned (R84). -/
def StringCtl.enterTest (x : StringCtl) (seconds : Nat) : StringCtl :=
  { x with
    mode := .test, purpose := some .test, sweep := none, line := x.line.detach, due := x.due ++ [.test seconds]
    modeTimer := none, turnDue := false, dormancyDue := false }

/-- The mode changes that wait for the end of the exchange in progress: QUIET or DORMANT to ACTIVE when a context appears,
ACTIVE to QUIET when the last is freed, QUIET to DORMANT (R81, R83). They are judged when the line is taken up: a string that has
lost its last context and gained another by then stays ACTIVE in its round, and one in QUIET that has gained a context and lost it by
then stays in QUIET (log 44). -/
def State.settleMode (s : State) (n : Nat) : State :=
  let x := s.stringAt n
  if x.line.inExchange then s
  else match x.mode with
    | .quiet =>
      if s.anyHot n then s.setString n x.enterActive
      else if x.dormancyDue then s.setString n x.enterDormant else s
    | .dormant => if s.anyHot n then s.setString n x.enterActive else s
    | .active => if s.anyHot n then s else s.setString n x.enterQuiet
    | _ => s

/-! ### Advisories -/

/-- The module locator: every event field 0 (R90). -/
def moduleLocator (n a : Nat) : Word := locator n a 0 0 0 0

/-- The slot of a module's context, or 1024 when the module is cold, as it stands now (R90). -/
def State.slotOfModule (s : State) (n a : Nat) : Nat :=
  ((s.contextOfModule n a).bind fun ci => (s.contextAt ci).map Context.slot).getD 1024

/-- An advisory about a module, offered in RUNNING and HALTED only; its slot is read when it is offered (R90; log 18). -/
def State.offerModule (s : State) (n a : Nat) (kind : RecordKind) (cause : Cause) : State :=
  if s.inRun then s.offer (s.advisory kind cause (s.slotOfModule n a) (moduleLocator n a)) else s

/-- A closing advisory about a string, offered in RUNNING and HALTED only. It concerns no module: its slot is 1024, that of a
cold module (R90; log 46). -/
def State.offerString (s : State) (n : Nat) (kind : RecordKind) (cause : Cause) (count : Nat) : State :=
  if s.inRun then
    s.offerClosing { s.advisory kind cause 1024 (moduleLocator n 0) with confirmed := BitVec.ofNat 16 count }
  else s

/-- The addresses whose presence entry is PRESENT (R85). -/
def StringCtl.presentCount (x : StringCtl) : Nat := (x.modules.filter fun m => m.presence == .present).length

/-- The closing advisory of a survey by its purpose (R78, R84, R85). -/
def State.closeSurvey (s : State) (n : Nat) (good : Nat) : State :=
  match (s.stringAt n).purpose with
  | some .census => s.offerString n .censusDone .none (s.stringAt n).presentCount
  | some .test => s.offerString n .testDone .none good
  | _ => s

/-! ### What goes on the line next -/

/-- A broadcast starts: 1 ms on the line (R70). -/
def State.startBroadcast (s : State) (n : Nat) (b : Broadcast) : State :=
  (s.setString n { s.stringAt n with line := .broadcast b 1 }).emit (.frame n b.bytes)

/-- A POLL starts: an exchange of 1 ms (R70, R73). -/
def State.startPoll (s : State) (n a : Nat) (sweep : Bool) : State :=
  (s.setString n { s.stringAt n with line := .exchange a .poll sweep 1 }).emit
    (.frame n (pollFrame a (s.link n a).lastSequence))

/-- The rotation period of a string, sent in every FACES frame. -/
def StringCtl.rotation (x : StringCtl) : Nat := (x.items.map StringItems.rotation).getD 0

/-- A dark FACES starts: generation 0 and no faces, an exchange of 2 ms (4.2, R70). -/
def State.startDark (s : State) (n a : Nat) (sweep : Bool) : State :=
  (s.setString n { s.stringAt n with line := .exchange a .dark sweep 2 }).emit
    (.frame n (facesFrame a (s.link n a).lastSequence FaceSet.nothing (s.stringAt n).rotation))

/-- A FACES starts: the pending set is created as a copy of the desired set (R40, R79). -/
def State.startFaces (s : State) (n a ci : Nat) (c : Context) : State :=
  ((s.setContext ci (some { c with pending := some c.desired })).setString n
    { s.stringAt n with line := .exchange a .faces false 2 }).emit
    (.frame n (facesFrame a (s.link n a).lastSequence c.desired (s.stringAt n).rotation))

/-- A hot module's turn: a dark FACES, a FACES with the due set, or a POLL (R79). -/
def State.hotTurn (s : State) (n a : Nat) : State :=
  let t := s.setString n { s.stringAt n with roundPosition := a }
  let lost := (t.link n a).presence == .lost
  if (t.link n a).darkeningDue && !lost then t.startDark n a false
  else match t.contextOfModule n a with
    | some ci =>
      match t.contextAt ci with
      | some c => if c.due && !lost then t.startFaces n a ci c else t.startPoll n a false
      | none => t.startPoll n a false
    | none => t.startPoll n a false

/-- The next hot address above a position (R79). -/
def State.nextHot (s : State) (n position : Nat) : Option Nat :=
  (s.contexts.filterMap fun e =>
    (e.context.filter fun (c : Context) => c.atlas.string == n && decide (position < c.atlas.address)).map
      fun (c : Context) => c.atlas.address).min?

/-- The addresses from the one after the cold-walk position up to the ceiling, and on from 1 (R80). -/
def coldOrder (ceiling position : Nat) : List Nat :=
  List.range' (position + 1) (ceiling - position) ++ List.range' 1 (min position ceiling)

/-- The next cold address of the walk, if any address is cold (R80). -/
def State.nextCold (s : State) (n : Nat) : Option Nat :=
  (coldOrder (s.stringAt n).ceiling (s.stringAt n).coldWalk).find? fun a => !s.hot n a

/-- A cold turn at an address: a dark FACES when darkening is due, else a POLL (R80). -/
def State.coldTurnAt (s : State) (n a : Nat) : State :=
  let t := s.setString n { s.stringAt n with coldWalk := a }
  if (t.link n a).darkeningDue then t.startDark n a false else t.startPoll n a false

/-- The next turn of an ACTIVE string: the next hot address of the round, else the cold turn, and when every address is hot
the first turn of the next round (R79, R80). -/
def State.roundTurn (s : State) (n : Nat) : State :=
  match s.nextHot n (s.stringAt n).roundPosition with
  | some a => s.hotTurn n a
  | none =>
    let t := s.setString n { s.stringAt n with roundPosition := 0 }
    match t.nextCold n with
    | some a => t.coldTurnAt n a
    | none =>
      match t.nextHot n 0 with
      | some a => t.hotTurn n a
      | none => t

/-- The next exchange of a survey or an attention sweep (R78, R82). -/
def State.sweepTurn (s : State) (n : Nat) (w : Sweep) : State :=
  if w.dark then s.startDark n w.address true else s.startPoll n w.address true

/-- The cold turn of the present quiet period, when it is owed (R81). -/
def State.quietTurn (s : State) (n : Nat) : State :=
  if (s.stringAt n).turnDue then
    let t := s.setString n { s.stringAt n with turnDue := false }
    match t.nextCold n with
    | some a => t.coldTurnAt n a
    | none => t
  else s

/-- The end of a survey: closing advisory, then ACTIVE or QUIET with the cold walk at 0 (R78). -/
def State.endSurvey (s : State) (n : Nat) (w : Sweep) : State :=
  let t := s.closeSurvey n w.lampsGood
  let x := { t.stringAt n with coldWalk := 0 }
  t.setString n (if t.anyHot n then x.enterActive else x.enterQuiet)

/-- A survey or sweep that has passed the ceiling ends; after an attention sweep QUIET goes on with its quiet period, a new one
that opens with its cold turn, and its dormancy timer at 0 (R78, R82; log 43). No other mode holds a sweep. -/
def State.endSweep (s : State) (n : Nat) : State :=
  let x := s.stringAt n
  match x.sweep with
  | some w =>
    if x.ceiling < w.address then
      match x.mode with
      | .surveying => s.endSurvey n w
      | .quiet => s.setString n x.enterQuiet
      | _ => s
    else s
  | none => s

/-- What an idle line carries next, by the mode of its string (Table 4-3). -/
def State.turn (s : State) (n : Nat) : State :=
  let x := s.stringAt n
  match x.mode with
  | .surveying =>
    match x.sweep with
    | some w => s.sweepTurn n w
    | none => s
  | .quiet =>
    match x.sweep with
    | some w => s.sweepTurn n w
    | none => s.quietTurn n
  | .active => s.roundTurn n
  | _ => s

/-- The controller takes up an idle line: the broadcasts due first, in the order they fell due, then the end of a survey or sweep that
has passed the ceiling, and the next turn (R70, R78, R92; log 53). -/
def State.runLine (s : State) (n : Nat) : State :=
  let t := s.settleMode n
  match (t.stringAt n).line with
  | .idle =>
    match (t.stringAt n).due with
    | b :: rest => (t.setString n { t.stringAt n with due := rest }).startBroadcast n b
    | [] => (t.endSweep n).turn n
  | _ => t

/-- Every controller takes up its line: what the four do when a step has changed contexts, modes or lines. -/
def State.kick (s : State) : State := s.eachString State.runLine

/-- The context entries that fail their check, in ascending index (R171). -/
def State.badContexts (s : State) : List Nat := placesFrom (fun e : ContextEntry => !e.parity) 0 s.contexts

/-- A read of the context table: entries that fail their check are handled and reported in ascending index, each with its own
placement pass, and the controllers take up what has changed (R171, R173, R83; log 7, log 8). -/
def State.checkContexts (s : State) : State :=
  if s.badContexts.isEmpty || !s.inRun then s else (s.damageContexts s.badContexts).kick

/-! ### Replies -/

/-- Whether a sequence lies 1 to 4 places after the last accepted one, or there is no last one (R73). -/
def accepts (last : Option Nat) (sequence : Nat) : Bool :=
  match last with
  | none => true
  | some k => decide (1 ≤ (sequence + 16 - k % 16) % 16 ∧ (sequence + 16 - k % 16) % 16 ≤ 4)

/-- The events of a reply judged one after the other: the accepted ones, and the last accepted sequence left (R73).
When the sequence was absent at the reply, every event of it is accepted. -/
def judgeEvents (all : Bool) : Option Nat → List PressEvent → List PressEvent × Option Nat
  | last, [] => ([], last)
  | last, e :: es =>
    if all || accepts last e.sequence then
      let rest := judgeEvents all (some e.sequence) es
      (e :: rest.1, rest.2)
    else judgeEvents all last es

/-- The display report of a reply to the context of its module: a reboot, or the displayed generation (R26, R41, R42). -/
def Context.display (c : Context) (reboot : Bool) (generation : Nat) : Context :=
  if reboot then { c with pending := none, displayed := FaceSet.nothing }
  else match c.pending with
    | some x => if x.generation == generation then { c with pending := none, displayed := x } else { c with pending := none }
    | none => c

/-- The context is freed if it may be, and a placement pass follows its freeing (R24). -/
def State.releaseContext (s : State) (ci : Nat) : State :=
  match s.contextAt ci with
  | some c => if s.freeable c then (s.setContext ci none).placementPass else s
  | none => s

/-- The context's change and what follows from it (R24). -/
def State.reportContext (s : State) (ci : Nat) (c : Context) : State := (s.setContext ci (some c)).releaseContext ci

/-- Step 3 of a reply, for the context of the module (R74). -/
def State.displayReport (s : State) (ci : Nat) (reboot : Bool) (generation : Nat) : State :=
  match s.contextAt ci with
  | some c => s.reportContext ci (c.display reboot generation)
  | none => s

/-- Whether step 4 offers a MODULE-BACK: the module was LOST, or PRESENT with a context and rebooted in place (R86). -/
def moduleBack (was : Presence) (hadContext reboot : Bool) : Bool :=
  was == .lost || (was == .present && reboot && hadContext)

/-- Whether step 6 sets darkening due (R74). -/
def State.darkens (s : State) (n a : Nat) (reboot fresh : Bool) (generation : Nat) : Bool :=
  match s.contextOfModule n a with
  | none => reboot || generation != 0
  | some ci =>
    match s.contextAt ci with
    | some c => !fresh && generation != 0 && c.displayed.generation == 0 && c.pending.isNone
    | none => false

/-- Step 1 of a reply: the boot note, the last accepted sequence, and a dark FACES that has been answered (R73, R80; log 19). -/
def ModuleLink.heard (m : ModuleLink) (fresh dark : Bool) (last : Option Nat) : ModuleLink :=
  { m with lastSequence := last, bootNoted := fresh, darkeningDue := m.darkeningDue && !dark }

/-- A cold reply with press events or the fresh flag restarts the dormancy timer (R81). -/
def State.restartDormancy (s : State) (n a : Nat) (r : Reply) : State :=
  if !s.hot n a && (r.fresh || !r.events.isEmpty) then s.setString n { s.stringAt n with dormancyTimer := 0 } else s

/-- Steps 1 and 2 of a valid reply: sequence and presses (R74). -/
def State.hearPresses (s : State) (n a : Nat) (kind : ExchangeKind) (r : Reply) : State :=
  let m := s.link n a
  let before := if r.fresh && !m.bootNoted then none else m.lastSequence
  let judged := judgeEvents before.isNone before r.events
  let t := (s.restartDormancy n a r).setLink n a (m.heard r.fresh (kind == .dark) judged.2)
  if t.inRun then t.attributeAll n a judged.1 else t

/-- Steps 3 to 6 of a valid reply: display, presence, overflow, darkening (R74). `reboot`: fresh with boot noted found clear.
Whether the module has a context, for R86, is read at step 3; the advisories of steps 4 and 5 read their slot after it (log 18). -/
def State.hearStatus (s : State) (n a : Nat) (reboot : Bool) (r : Reply) : State :=
  let was := (s.link n a).presence
  let t := match s.contextOfModule n a with
    | some ci => s.displayReport ci reboot r.generation
    | none => s
  let t := t.setLink n a { t.link n a with presence := .present, misses := 0 }
  let t := if moduleBack was (s.hot n a) reboot then t.offerModule n a .moduleBack (if reboot then .reboot else .returned) else t
  let t := if r.overflow then t.offerModule n a .pressOverflow .none else t
  if t.darkens n a reboot r.fresh r.generation then t.setLink n a { t.link n a with darkeningDue := true } else t

/-- A valid reply, in the order of R74. -/
def State.handleReply (s : State) (n a : Nat) (kind : ExchangeKind) (r : Reply) : State :=
  let reboot := r.fresh && !(s.link n a).bootNoted
  (s.hearPresses n a kind r).hearStatus n a reboot r

/-- The survey or sweep after a valid reply: a dark FACES at once where darkening is due, set by this reply or before it, else
the next address (R78, R84; log 42). -/
def State.sweepHeard (s : State) (n a : Nat) (kind : ExchangeKind) (r : Reply) : State :=
  let x := s.stringAt n
  match x.sweep with
  | some w =>
    let good := w.lampsGood + (if kind == .poll && !r.lampFault then 1 else 0)
    let w := if (x.link a).darkeningDue then { w with dark := true, lampsGood := good }
      else { address := w.address + 1, tries := 0, dark := false, lampsGood := good }
    s.setString n { x with sweep := some w }
  | none => s

/-! ### Misses -/

/-- The loss of a module as the SM takes it: its pin ends, a DRAINING context is freed, and a placement pass follows what
ended (R26, R87; log 22). -/
def State.reportLost (s : State) (n a : Nat) : State :=
  match s.contextOfModule n a with
  | some ci =>
    match s.contextAt ci with
    | some c =>
      if c.pin.isSome then ((s.setContext ci (some (c.endPin s.pm.lanes s.paused))).settleContext ci).placementPass
      else s.releaseContext ci
    | none => s
  | none => s

/-- A hot module becomes LOST (R87). -/
def State.becomeLost (s : State) (n a : Nat) : State :=
  ((s.setLink n a { s.link n a with presence := .lost, misses := 3 }).reportLost n a).offerModule n a .moduleLost .misses

/-- A FACES ends with no valid reply: the pending set is dropped (R42, R75). -/
def State.dropPending (s : State) (n a : Nat) : State :=
  match s.contextOfModule n a with
  | some ci =>
    match s.contextAt ci with
    | some c => s.reportContext ci { c with pending := none }
    | none => s
  | none => s

/-- A miss on an exchange with a hot module: the count, the pending set, and the loss of a module that was hot at the third miss,
even where dropping the set has freed its context (R75, R87; log 18). -/
def State.missHot (s : State) (n a : Nat) (kind : ExchangeKind) : State :=
  let m := s.link n a
  let t := s.setLink n a { m with misses := min 3 (m.misses + 1) }
  let t := if kind == .faces then t.dropPending n a else t
  if 2 ≤ m.misses && m.presence != .lost then t.becomeLost n a else t

/-- A miss on an exchange with a cold module: its miss count stands, also where a LOST address becomes ABSENT (R75, R88;
log 45). -/
def ModuleLink.missCold (m : ModuleLink) (sweep : Bool) : ModuleLink :=
  match m.presence with
  | .unknown | .present => { m with presence := .absent }
  | .lost => if sweep then { m with presence := .absent } else m
  | .absent => m

/-- A miss (R75). -/
def State.handleMiss (s : State) (n a : Nat) (kind : ExchangeKind) (sweep : Bool) : State :=
  if s.hot n a then s.missHot n a kind else s.setLink n a ((s.link n a).missCold sweep)

/-- The survey or sweep after a miss: a hot module is polled up to three times in all (R78). -/
def State.sweepMissed (s : State) (n a : Nat) (kind : ExchangeKind) : State :=
  let x := s.stringAt n
  match x.sweep with
  | some w =>
    let w := if kind == .poll && s.hot n a && decide (w.tries + 1 < 3) then { w with tries := w.tries + 1 }
      else { w with address := w.address + 1, tries := 0, dark := false }
    s.setString n { x with sweep := some w }
  | none => s

/-! ### The end of an exchange -/

/-- The line falls idle. -/
def State.endLine (s : State) (n : Nat) : State := s.setString n { s.stringAt n with line := .idle }

/-- An exchange ends with a valid reply (R74, R78). -/
def State.exchangeHeard (s : State) (n a : Nat) (kind : ExchangeKind) (sweep : Bool) (r : Reply) : State :=
  let t := (s.endLine n).handleReply n a kind r
  (if sweep then t.sweepHeard n a kind r else t).kick

/-- An exchange ends with no valid reply (R75, R78). -/
def State.exchangeMissed (s : State) (n a : Nat) (kind : ExchangeKind) (sweep : Bool) : State :=
  let t := (s.endLine n).handleMiss n a kind sweep
  (if sweep then t.sweepMissed n a kind else t).kick

/-! ### Feed faults -/

/-- The closing advisory of a light test or census that a feed fault ends (R84, R85, R91). -/
def State.feedCloses (s : State) (n : Nat) : State :=
  match (s.stringAt n).mode, (s.stringAt n).purpose with
  | .test, _ => s.offerString n .testDone .feedFault 0
  | .surveying, some .test => s.offerString n .testDone .feedFault 0
  | .surveying, some .census => s.offerString n .censusDone .feedFault 0
  | .settling, some .census => s.offerString n .censusDone .feedFault 0
  | _, _ => s

/-- The per-address state after a feed fault, from address `a` on, by the contexts that stand after point 1 (R91, points 3
to 5). The miss count of an address without a context stands, also where a LOST one becomes ABSENT (log 45). -/
def State.feedModules (s : State) (n : Nat) : Nat → List ModuleLink → List ModuleLink
  | _, [] => []
  | a, m :: ms =>
    { presence := if s.hot n a then .lost else .absent
      lastSequence := none
      misses := if s.hot n a then 3 else m.misses
      bootNoted := false
      darkeningDue := false } :: s.feedModules n (a + 1) ms

/-- The controller with its feed tripped (R91, points 1 and 2). -/
def StringCtl.trip (x : StringCtl) (modules : List ModuleLink) : StringCtl :=
  { x with
    mode := .feedFault, feed := false, purpose := none, modules := modules, line := .idle, due := [], sweep := none
    roundPosition := 0, modeTimer := none, turnDue := false, dormancyDue := false }

/-- The pending set of a FACES in flight is dropped (R42, R91). -/
def State.dropInFlight (s : State) (n : Nat) : State :=
  match (s.stringAt n).line with
  | .exchange a .faces _ _ => s.dropPending n a
  | _ => s

/-- The loss of one hot address at a feed fault, with the placement pass of what it ends or frees before the next address is
lost (R91, point 3; log 38). -/
def State.feedLoses (s : State) (n a : Nat) : State := (s.reportLost n a).offerModule n a .moduleLost .feedFault

/-- The addresses of a string that have a context, in ascending order (R91, point 3). -/
def State.hotAddresses (s : State) (n : Nat) : List Nat := (List.range' 1 120).filter (s.hot n)

/-- The feed fault is taken, its points in their order: the contexts of point 3 are those that stand once the set in flight has
been dropped, with the freeing and the placement pass that the drop brings (R91, R42, R24; log 38). -/
def State.takeFeedFault (s : State) (n : Nat) : State :=
  let t := (s.dropInFlight n).feedCloses n
  let u := t.setString n ((t.stringAt n).trip (t.feedModules n 1 (t.stringAt n).modules))
  (t.hotAddresses n |>.foldl (fun u a => u.feedLoses n a) u).raise .string

/-- The feed fault is taken on the level of the input, whenever the feed is on; in OFF the feed is only switched off (R76, R91). -/
def State.judgeFeed (s : State) (n : Nat) : State :=
  let x := s.stringAt n
  if x.feedFaultInput && x.feed then
    if x.mode == .off then s.setString n { x with feed := false } else s.takeFeedFault n
  else s

/-! ### START, CLEAR, the resets, HALT and RESUME -/

/-- The setup-derived items of a string (R68). -/
def Setup.items (u : Setup) (n : Nat) : StringItems :=
  { ceiling := (u.string n).ceiling, quietMs := (u.string n).quietMs, dormancy := (u.string n).dormancy
    rotation := u.rotation }

/-- What an ACCEPTED START makes of a controller: brought up or shut down (R68, R76; log 17). -/
def StringCtl.bringUp (x : StringCtl) (u : Setup) (n : Nat) : StringCtl :=
  let y := { x with
    items := some (u.items n), modules := List.replicate 120 ModuleLink.fresh, coldWalk := 0, dormancyTimer := 0
    roundPosition := 0, line := if x.line.inExchange then .idle else x.line }
  if !(u.string n).enabled then
    { y with
      mode := .off, feed := false, purpose := none, line := .idle, due := [], sweep := none, modeTimer := none
      turnDue := false, dormancyDue := false }
  else if !x.feed then y.enterSettling .start
  else y.enterSurvey .start false

/-- The strings at an ACCEPTED START: each is brought up or shut down, and a feed fault already asserted is taken at once
(R76, R91). -/
def State.startString (u : Setup) (s : State) (n : Nat) : State :=
  (s.setString n ((s.stringAt n).bringUp u n)).judgeFeed n

/-- What CLEAR makes of a controller (R93). -/
def StringCtl.clear (x : StringCtl) : StringCtl :=
  match x.mode with
  | .surveying | .quiet | .dormant => { x with due := x.due ++ [.allDark] }
  | .active | .test => { x.enterQuiet with due := x.due ++ [.allDark] }
  | _ => x

/-- Whether a reset sends ALL-DARK on a string (R94). -/
def StringCtl.darkensAtReset (x : StringCtl) : Bool := x.feed && x.mode != .settling

/-- What a link reset or software reset makes of a controller: OFF at once, ALL-DARK started or, behind a broadcast on the
line, due. The setup-derived items and the cold-walk position are not named there, and stand; the dormancy timer, not named either,
becomes 0 (R68, R94; log 16, log 41). -/
def StringCtl.resetOff (x : StringCtl) : StringCtl :=
  { x with
    mode := .off, purpose := none, modules := List.replicate 120 ModuleLink.fresh, dormancyTimer := 0, modeTimer := none
    sweep := none, roundPosition := 0, turnDue := false, dormancyDue := false
    line := if x.line.inExchange then .idle else x.line
    due := if x.darkensAtReset then [.allDark] else [] }

/-- A broadcast that falls due on a string by its mode (R92). -/
def StringCtl.announce (x : StringCtl) (b : Broadcast) : StringCtl :=
  match x.mode with
  | .surveying | .active | .quiet | .dormant => { x with due := x.due ++ [b] }
  | _ => x

/-- Change every controller by a function of itself. -/
def State.mapStrings (s : State) (f : StringCtl → StringCtl) : State := s.setStrings (s.strings.map f)

end Sys2Proof.Machine
end

