-- ==== Sys2Proof/Machine/Atlas.lean ====
section
/-! DEFINITION. The Atlas Cache's operations: checked reads of a set, the head lookup, the two fetches with the candidate
search, and the drop (R96 to R106). -/

namespace Sys2Proof.Machine

/-! ### Ways and sets -/

/-- A way by its number, set x 2 + way (5.3). -/
def State.wayAt (s : State) (i : Nat) : Way := s.ac.ways.getD i Way.unswept

/-- Write a way. -/
def State.setWay (s : State) (i : Nat) (w : Way) : State := s.setAc { s.ac with ways := s.ac.ways.set i w }

/-- The set of a slot (R97). -/
def setOf (slot : Nat) : Nat := slot % 64

/-- The LRU bit of a set: true when it names way 1. -/
def State.lruOf (s : State) (set : Nat) : Bool := s.ac.lru.getD set false

/-- Write the LRU bit of a set. -/
def State.setLru (s : State) (set : Nat) (way1 : Bool) : State := s.setAc { s.ac with lru := s.ac.lru.set set way1 }

/-- The number of the way that the LRU bit of a set names. -/
def State.lruWay (s : State) (set : Nat) : Nat := 2 * set + (if s.lruOf set then 1 else 0)

/-- A way is invalidated, with fresh parity, and the LRU bit names it (R97, R99). -/
def State.invalidateWay (s : State) (i : Nat) : State :=
  (s.setWay i { s.wayAt i with valid := false, parity := true }).setLru (i / 2) (i % 2 == 1)

/-- A checked read of a way (R99). -/
def State.checkWay (s : State) (i : Nat) : State :=
  if (s.wayAt i).parity then s else (s.invalidateWay i).reportFault .atlas i

/-- The checked reads of both ways of a slot's set, in way order (R99). -/
def State.checkSet (s : State) (slot : Nat) : State := (s.checkWay (2 * setOf slot)).checkWay (2 * setOf slot + 1)

/-- Whether a way holds a slot of its set (R97). -/
def State.wayHolds (s : State) (i slot : Nat) : Bool := (s.wayAt i).valid && (s.wayAt i).tag == slot / 64

/-- The way that holds a slot (R97). -/
def State.wayOf (s : State) (slot : Nat) : Option Nat :=
  if s.wayHolds (2 * setOf slot) slot then some (2 * setOf slot)
  else if s.wayHolds (2 * setOf slot + 1) slot then some (2 * setOf slot + 1) else none

/-- Whether the lookahead holds a slot (R97). -/
def State.lookaheadHolds (s : State) (slot : Nat) : Bool := (s.ac.lookahead.map fun x => x.slot == slot).getD false

/-- Fields are installed into the way that the LRU bit names, which then names the other way (R97, R98, R100). -/
def State.install (s : State) (slot : Nat) (fields : AtlasFields) : State :=
  let way1 := s.lruOf (setOf slot)
  (s.setWay (s.lruWay (setOf slot)) { parity := true, valid := true, tag := slot / 64, fields := fields }).setLru
    (setOf slot) (!way1)

/-- A head lookup: a way, the lookahead moved into a way, or a miss (R98). -/
def State.lookup (s : State) (slot : Nat) : State × Option AtlasFields :=
  let t := s.checkSet slot
  match t.wayOf slot with
  | some i => (t.setLru (setOf slot) (i % 2 == 0), some (t.wayAt i).fields)
  | none =>
    match t.ac.lookahead.filter fun (x : Lookahead) => x.slot == slot with
    | some x => ((t.install slot x.fields).setAc { (t.install slot x.fields).ac with lookahead := none }, some x.fields)
    | none => (t, none)

/-! ### Fetches -/

/-- The read of a slot's atlas entry (R95). -/
def State.readEntry (s : State) (slot : Nat) : State := s.linkRead (0x1000 + 16 * slot) 16

/-- A lookahead fetch under way for a slot (R100). -/
def ReadState.reads (r : ReadState) (slot : Nat) : Bool :=
  match r with
  | .underWay what _ => what == slot
  | _ => false

/-- A miss of the head: it waits on the lookahead fetch for its slot, or a demand fetch starts (R100). -/
def State.demand (s : State) (slot : Nat) : State :=
  if s.ac.ahead.reads slot then s.setIu { s.iu with onLookahead := true }
  else (s.setAc { s.ac with demand := .underWay slot 0 }).readEntry slot

/-- Whether the head waits for an atlas fetch, under way or held (R96, R100, R103). -/
def State.headWaits (s : State) : Bool := s.ac.demand != .idle || s.iu.onLookahead

/-- The atlas size A of the run, 0 while no setup copy is held. -/
def State.atlasSize (s : State) : Nat := (s.lrc.setup.map Setup.atlasSize).getD 0

/-- Whether a slot needs its atlas fields: it lies below A and no context holds it (R96). -/
def State.needsFields (s : State) (slot : Nat) : Bool := decide (slot < s.atlasSize) && (s.contextOfSlot slot).isNone

/-- The record at the head of the intake queue. -/
def State.head (s : State) : Option TaskRecord := s.iu.queue.head?

/-- The head lookup of an offer, with the fetch that a miss starts. The fields when they are held (R96, R98, R100). -/
def State.askAtlas (s : State) (slot : Nat) : State × Option AtlasFields :=
  match s.lookup slot with
  | (t, some f) => (t, some f)
  | (t, none) => (t.demand slot, none)

/-- The head is offered again, as far as the Atlas Cache is concerned: a PICK that needs its fields and waits for no fetch is
looked up. Its consumption is the step PICK (R96, R128; log 2). -/
def State.offerHead (s : State) : State :=
  match s.head with
  | some r =>
    if s.inRun && r.task == .pick && !s.headWaits && s.needsFields r.slot.toNat then (s.askAtlas r.slot.toNat).1 else s
  | none => s

/-- A lookahead fetch starts for a slot (R101). -/
def State.startAhead (s : State) (slot : Nat) : State :=
  (s.setAc { s.ac with ahead := .underWay slot 0 }).readEntry slot

/-- The candidate search over the records behind the head, in queue order (R101). -/
def State.seekCandidate (s : State) : List TaskRecord → State
  | [] => s
  | r :: rs =>
    let slot := r.slot.toNat
    if r.task == .pick && s.needsFields slot then
      let t := s.checkSet slot
      if (t.wayOf slot).isSome || t.lookaheadHolds slot || t.ac.demand.reads slot then t.seekCandidate rs
      else t.startAhead slot
    else s.seekCandidate rs

/-- Whether the lookahead entry may be replaced: it is invalid, or no PICK behind the head names its slot (R101). -/
def State.lookaheadSpare (s : State) : Bool :=
  match s.ac.lookahead with
  | none => true
  | some x => s.iu.queue.tail.all fun r => !(r.task == .pick && r.slot.toNat == x.slot)

/-- The AC looks for a lookahead candidate (R101). The ways are probed only when its other conditions hold (log 51). -/
def State.candidateSearch (s : State) : State :=
  if s.lrc.run == .running && s.ac.ahead == .idle && s.lookaheadSpare then s.seekCandidate s.iu.queue.tail else s

/-- A demand fetch arrives: installed, and the head is offered again (R100). The candidate search precedes the consumption of that head
(R101, R128; log 50). -/
def State.demandArrives (s : State) (slot : Nat) (fields : AtlasFields) : State :=
  let t := s.install slot fields
  ((t.setAc { t.ac with demand := .idle }).offerHead).candidateSearch

/-- A lookahead fetch arrives: the lookahead entry is filled, and a head that waits on it is offered again (R102). The candidate search
precedes the consumption of that head (R101, R128; log 50). -/
def State.aheadArrives (s : State) (slot : Nat) (fields : AtlasFields) : State :=
  let t := s.setAc { s.ac with lookahead := some { slot := slot, fields := fields }, ahead := .idle }
  let t := if t.iu.onLookahead then (t.setIu { t.iu with onLookahead := false }).offerHead else t
  t.candidateSearch

/-! ### ATLAS-DROP -/

/-- The slot that a valid way holds (R97). -/
def Way.slotOf (w : Way) (i : Nat) : Nat := w.tag * 64 + i / 2

/-- What a drop does with one way: a checked read, then the way is invalidated when it holds a slot of the range (R99, R104). -/
def State.dropWay (first count : Nat) (s : State) (i : Nat) : State :=
  let t := s.checkWay i
  let w := t.wayAt i
  if w.valid && decide (first ≤ w.slotOf i ∧ w.slotOf i < first + count) then t.invalidateWay i else t

/-- A lookahead fetch under way is voided (R104). -/
def State.voidAhead (s : State) : State :=
  match s.ac.ahead with
  | .underWay _ _ =>
    (s.setAc { s.ac with ahead := .idle }).setLrc { s.lrc with voided := s.lrc.voided ++ [.lookahead] }
  | _ => s

/-- An accepted ATLAS-DROP, but for its candidate search (R104; log 32). -/
def State.dropAtlas (s : State) (first count : Nat) : State :=
  let t := (List.range s.ac.ways.length).foldl (State.dropWay first count) s
  (t.setAc { t.ac with lookahead := none }).voidAhead

end Sys2Proof.Machine
end

