-- ==== Sys2Proof/Machine/Intake.lean ====
section
/-! DEFINITION. The Intake Unit's operations: header polls and their cadence, record fetches, the consumption of the head,
qualifiers, and the acceptance of a PICK (R1, R4, R13, R120 to R135). -/

namespace Sys2Proof.Machine

/-! ### Header polls -/

/-- Time since the last poll arrival in ms (R121). -/
def State.sincePoll (s : State) : Nat := (s.now - s.iu.lastPoll).toNat

/-- Whether the last new records lie within 500 ms of the aisle clock (R121). -/
def State.recentRecords (s : State) : Bool :=
  match s.iu.lastNew with
  | some m => decide ((s.now - m).toNat ≤ 500)
  | none => false

/-- Whether the brisk period is in force (R121). -/
def State.brisk (s : State) : Bool :=
  s.lrc.run == .running && (decide (s.pm.free < 256) || s.recentRecords || !s.blockFree)

/-- The poll period in force in ms (R121). -/
def State.pollPeriod (s : State) : Nat :=
  match s.lrc.setup with
  | some u => if s.brisk then u.brisk else u.idle
  | none => 0

/-- The end of a poll interval in which records were consumed: a part-line write, and the flag clears (R134). -/
def State.endInterval (s : State) : State :=
  if s.iu.consumed then (s.setIu { s.iu with consumed := false }).partLine else s

/-- A header poll is issued: a read of the 64-byte host line (R121, R122). -/
def State.issuePoll (s : State) : State := ((s.setIu { s.iu with poll := .underWay 0 0 }).linkRead 0 64).endInterval

/-- The part's POSTED after a poll that reads `p`, and whether that is a post fault (R123). -/
def Intake.judgePosted (x : Intake) (capacity : Nat) (p : Count) : Count × Bool :=
  if capacity < (p - x.taken).toNat then (x.taken + BitVec.ofNat 32 capacity, true)
  else if (p - x.taken).toNat < (x.fetched - x.taken).toNat then (x.fetched, true) else (p, false)

/-- The part's RELEASED after a poll that reads `q`, and whether that is a release fault (R124). -/
def Journal.judgeReleased (j : Journal) (q : Count) : Count × Bool :=
  if (j.sealed - j.released).toNat < (q - j.released).toNat then (j.sealed, true) else (q, false)

/-! ### Record fetches -/

/-- How many records a fetch reads (R126). -/
def State.fetchCount (s : State) (u : Setup) : Nat :=
  min (8 - s.iu.queue.length)
    (min (s.iu.posted - s.iu.fetched).toNat (u.capacity - s.iu.fetched.toNat % u.capacity))

/-- A record fetch is started when R126 allows one. -/
def State.startRecordFetch (s : State) : State :=
  match s.lrc.setup with
  | none => s
  | some u =>
    if s.lrc.run == .running && s.iu.fetch == .idle && decide (s.iu.queue.length < 8) && s.iu.posted != s.iu.fetched then
      let n := s.fetchCount u
      (s.linkRead (u.recordOffset s.iu.fetched) (32 * n)).setIu
        { s.iu with fetch := .underWay n 0, fetched := s.iu.fetched + BitVec.ofNat 32 n }
    else s

/-- A header poll arrives: POSTED and RELEASED are taken, EXCHANGE is raised with their causes, JOURNAL is judged, the poll ends,
a fetch may start and an owed poll is issued (R122 to R125, R157; log 26). -/
def State.pollArrives (s : State) (hostLine : List Byte) : State :=
  match s.lrc.setup with
  | none => s
  | some u =>
    let posted := s.iu.judgePosted u.capacity (BitVec.ofNat 32 (fieldAt hostLine 0 4))
    let released := s.jw.judgeReleased (BitVec.ofNat 32 (fieldAt hostLine 4 4))
    let advanced := decide ((s.iu.posted - s.iu.taken).toNat < (posted.1 - s.iu.taken).toNat)
    let t := s.setIu { s.iu with
      posted := posted.1
      lastNew := if advanced then some s.now else s.iu.lastNew
      lastPoll := s.now
      poll := .idle
      promptOwed := false }
    let t := t.raiseExchange posted.2 released.2
    let t := (t.setJw { t.jw with released := released.1 }).judgeJournal false
    let t := t.startRecordFetch
    if s.iu.promptOwed then t.issuePoll else t

/-- Whether the consumption of the head waits for nothing: a PICK that waits for no atlas fetch and has a FREE entry, a QUALIFIER
with a record behind it, a directive with a spare advisory entry and, for a FENCE, room in the fence list (R1, R128, R129, R136,
R145). -/
def State.headReady (s : State) : Bool :=
  match s.head with
  | none => false
  | some r =>
    match r.task with
    | .pick => !s.headWaits && s.lowestFree.isSome
    | .qualifier => decide (2 ≤ s.iu.queue.length)
    | .fence => decide (0 < s.jw.spare) && decide (s.pm.fences.length < 4)
    | _ => decide (0 < s.jw.spare)

/-- A record fetch of `n` records arrives: appended in stream order, and what the arrival sets off. A head that can be consumed
now is consumed by the arrival's own event, ahead of the next fetch (07, worked sequence, step 2): that fetch then starts with its
consumption, else at once (R126, R127, R128; log 47). One candidate search follows the append of all its records, and precedes that
consumption (R101, R127; log 50). -/
def State.fetchArrives (s : State) (n : Nat) (data : List Byte) : State :=
  let t := s.setIu { s.iu with queue := s.iu.queue ++ taskRecords n data, fetch := .idle }
  let t := if s.iu.queue.isEmpty then t.offerHead else t
  (if t.headReady then t else t.startRecordFetch).candidateSearch

/-! ### Consumption -/

/-- The head is consumed: TAKEN advances, and the part line is written when the queue becomes empty (R134). -/
def State.consumeHead (s : State) : State :=
  let t := s.setIu { s.iu with queue := s.iu.queue.tail, taken := s.iu.taken + 1, consumed := true }
  if t.iu.queue.isEmpty then t.partLine else t

/-- What a consumption sets off: a record fetch, the offer of the next head, a candidate search (R126, R128, R101). -/
def State.afterHead (s : State) : State := s.startRecordFetch.offerHead.candidateSearch

/-- The consumption of the head with all that follows it, the strings' lines included. -/
def State.consumed (s : State) : State := s.consumeHead.afterHead.kick

/-- Whether the head is a record of a kind, in a run state that offers it (R128, R135). -/
def State.headIs (s : State) (k : TaskKind) : Bool := s.inRun && ((s.head.map fun r => r.task == k).getD false)

/-! ### Qualifiers -/

/-- A QUALIFIER is gathered into the pending set (R129). -/
def QualifierSet.gather (q : QualifierSet) (r : TaskRecord) : QualifierSet :=
  let q := { q with count := min 5 (q.count + 1) }
  match r.qualifier.toNat with
  | 1 => { q with urgent := true }
  | 2 => { q with quiet := true }
  | 3 => { q with lane := some r.lane.toNat }
  | _ => { q with badCode := true }

/-- Whether a lane number lies in 1..6. -/
def laneInRange (l : Nat) : Bool := decide (1 ≤ l ∧ l ≤ 6)

/-- The first qualifier check that fails: overrun, then a bad qualifier (R130). -/
def QualifierSet.fault (q : QualifierSet) : Option Cause :=
  if q.count == 5 then some .qualifierOverrun
  else if q.badCode || (q.lane.map fun l => !laneInRange l).getD false then some .badQualifier else none

/-- The lane of a PICK after any override (R130). -/
def QualifierSet.laneOf (q : QualifierSet) (r : TaskRecord) : Nat := q.lane.getD r.lane.toNat

/-! ### The acceptance of a PICK -/

/-- Whether an entry that is not FREE holds a tag (R3). -/
def State.tagHeld (s : State) (tag : Word) : Bool :=
  s.pm.entries.any fun e => (e.pick.map fun p => p.tag == tag).getD false

/-- Checks 5 and 6, for a slot with no context, on the fields the AC handed over (R131). -/
def State.judgeFields (s : State) (fields : Option AtlasFields) : Option Cause :=
  match fields, s.lrc.setup with
  | some f, some u =>
    if !f.resolves u then some .slotUnusable
    else if s.hot f.string f.address then some .moduleShared else none
  | _, _ => some .slotUnusable

/-- The acceptance checks in order: the cause of the first that fails (R131). -/
def State.acceptance (s : State) (r : TaskRecord) (lane : Nat) (fields : Option AtlasFields) : Option Cause :=
  if r.quantity.toNat == 0 || decide (999 < r.quantity.toNat) then some .badQty
  else if !laneInRange lane || (s.lane lane).colour.isNone then some .laneOff
  else if s.atlasSize ≤ r.slot.toNat then some .badSlot
  else if s.tagHeld r.tag then some .duplicateTag
  else if (s.contextOfSlot r.slot.toNat).isSome then none
  else s.judgeFields fields

/-- The pick as R1 fills its entry. -/
def State.newPick (s : State) (r : TaskRecord) (lane : Nat) : Pick :=
  { tag := r.tag
    lane := if laneInRange lane then lane else 0
    slot := r.slot.toNat
    requested := if r.quantity.toNat ≤ 999 then r.quantity.toNat else 0
    intakeSequence := s.iu.taken
    timeAccepted := s.now
    urgent := s.iu.qualifiers.urgent
    quiet := s.iu.qualifiers.quiet
    abandon := none
    overdueReported := false
    stage := .placed }

/-- The abandon timer that an accepted pick starts, in ms (R17). -/
def Lane.abandonStart (l : Lane) : Option Nat := if l.abandon == 0 then none else some (l.abandon * 60000)

/-- A pick is deferred, at the end of the list (R13). -/
def State.defer (s : State) (i : Nat) (p : Pick) (atlas : AtlasCopy) : State :=
  let t := s.setPick i (some { p with stage := .deferred atlas })
  t.setPm { t.pm with deferred := t.pm.deferred ++ [i] }

/-- An accepted pick is placed or deferred (R4, R13, R22). -/
def State.place (s : State) (i : Nat) (p : Pick) (fields : Option AtlasFields) : State :=
  match s.contextOfSlot p.slot with
  | some ci =>
    match s.putInto ci i p with
    | some t => t
    | none => s.defer i p (((s.contextAt ci).map Context.atlas).getD (AtlasFields.zero.copy))
  | none =>
    match s.lowestFreeContext with
    | some ci => s.createFor ci i p (fields.getD AtlasFields.zero).copy
    | none => s.defer i p (fields.getD AtlasFields.zero).copy

/-- The consumption of a PICK into entry `i`: filled, judged, and refused, placed or deferred (R1, R4, R130, R131, R132). -/
def State.takePick (s : State) (i : Nat) (r : TaskRecord) (fields : Option AtlasFields) : State :=
  let q := s.iu.qualifiers
  let lane := q.laneOf r
  let p := s.newPick r lane
  let t := s.setPick i (some p)
  let t := t.setPm { t.pm with free := t.pm.free - 1 }
  let t := t.setIu { t.iu with qualifiers := QualifierSet.empty }
  match q.fault.or (s.acceptance r lane fields) with
  | some cause => t.close i (s.outcome .refused cause 0 1 1 false false)
  | none => t.place i { p with abandon := (s.lane lane).abandonStart } fields

/-- The PICK at the head with its fields held or not needed: consumed into the lowest-numbered FREE entry, or left waiting while
none is FREE (R1). -/
def State.offerPick (s : State) (r : TaskRecord) (fields : Option AtlasFields) : State :=
  match s.lowestFree with
  | some i => (s.takePick i r fields).consumed
  | none => s

/-! ### Directives -/

/-- The DIRECTIVE-REFUSED advisory of a record (R137). -/
def State.refusal (s : State) (r : TaskRecord) (cause : Cause) : OutcomeRecord :=
  { s.advisory .directiveRefused cause 0 r.tag with
    lane := r.lane
    slot := r.slot
    requested := r.quantity
    intakeSequence := s.iu.taken }

/-- A directive is refused: its advisory fills the assured entry (R136, R137). -/
def State.refuse (s : State) (r : TaskRecord) (cause : Cause) : State := s.offerAssured (s.refusal r cause)

/-- A directive at the head is judged and consumed when a spare advisory entry is assured and its own room is there. One that has to
wait lets the record fetch start that an arrival has left to its consumption (R126, R136; log 47). -/
def State.directive (s : State) (k : TaskKind) (room : Bool) (act : State → TaskRecord → State) : State :=
  match s.head with
  | some r =>
    if s.headIs k then if decide (0 < s.jw.spare) && room then (act s r).consumed else s.startRecordFetch
    else s
  | none => s

/-- Whether an entry holds an accepted pick with a tag: one whose outcome is not REFUSED (R3). -/
def Pick.accepted (p : Pick) : Bool :=
  match p.stage with
  | .reporting o => o.kind != .refused
  | _ => true

/-- What a CANCEL or AMEND finds under its tag (R3, R138, R140). -/
inductive Found where
  | notFound
  | reporting
  | live (entry : Nat) (pick : Pick)
  deriving DecidableEq, Repr

/-- The entry of the accepted pick with a tag: the lowest-numbered one, where damage to a tag has left two (R3; log 37). -/
def State.acceptedWith (s : State) (tag : Word) : Option Nat :=
  firstFrom (fun e : PickEntry => (e.pick.map fun p => p.tag == tag && p.accepted).getD false) 0 s.pm.entries

/-- Find a pick by its tag (R3). -/
def State.findTag (s : State) (tag : Word) : Found :=
  match s.acceptedWith tag with
  | some i =>
    match s.pickAt i with
    | some p =>
      match p.stage with
      | .reporting _ => .reporting
      | _ => .live i p
    | none => .notFound
  | none => if s.tagHeld tag then .reporting else .notFound

/-- What a CANCEL does (R138, R139, R16). -/
def State.cancel (s : State) (r : TaskRecord) : State :=
  match s.findTag r.tag with
  | .notFound => s.refuse r .notFound
  | .reporting => s.refuse r .tooLate
  | .live i p =>
    match p.stage with
    | .deferred _ => (s.undefer i).close i (s.outcome .cancelled .none 0 1 1 false false)
    | _ => s.withdraw i .cancelled .none false

/-- The sum of a bundle with one pick's quantity replaced (R140, check 4). -/
def State.sumWith (s : State) (bundle : List Nat) (i quantity : Nat) : Nat :=
  (bundle.map fun j => if j == i then quantity else s.requestedOf j).sum

/-- An accepted AMEND of a pick in a bundle: the sum is recomputed in place, and a lowered quantity sets off a placement pass
(R30, R62, R141). -/
def State.amendPlaced (s : State) (i : Nat) (p : Pick) (ci : Nat) (k : Claim) (quantity : Nat) : State :=
  let t := s.setPick i (some { p with requested := quantity })
  let t := match t.contextAt ci with
    | some c =>
      t.setContext ci (some (c.correct t.pm.lanes t.paused k.serial k.bundle (t.sumOf k.bundle)))
    | none => t
  if quantity < p.requested then t.placementPass else t

/-- What an AMEND does (R140, R141). -/
def State.amend (s : State) (r : TaskRecord) : State :=
  let quantity := r.quantity.toNat
  if quantity == 0 || decide (999 < quantity) then s.refuse r .badArgument
  else match s.findTag r.tag with
    | .notFound => s.refuse r .notFound
    | .reporting => s.refuse r .tooLate
    | .live i p =>
      match s.holder i with
      | none => s.setPick i (some { p with requested := quantity })
      | some (ci, k) =>
        if 999 < s.sumWith k.bundle i quantity then s.refuse r .overCapacity
        else s.amendPlaced i p ci k quantity

/-- Whether a lane has a pick DEFERRED, WAITING or SHOWN (R11). -/
def State.laneBusy (s : State) (l : Nat) : Bool :=
  s.pm.entries.any fun e =>
    (e.pick.map fun p => p.lane == l && p.live).getD false

/-- Whether another OPEN lane has a colour (R11). -/
def State.colourTaken (s : State) (l colour : Nat) : Bool :=
  [1, 2, 3, 4, 5, 6].any fun m => m != l && (s.lane m).colour == some colour

/-- The first check of a LANE-SETUP that fails (R11, R143). -/
def State.laneFault (s : State) (r : TaskRecord) : Option Cause :=
  let l := r.lane.toNat
  let opens := r.argByte 0 == 1
  if !laneInRange l || decide (1 < r.argByte 0) || (opens && !decide (1 ≤ r.argByte 1 ∧ r.argByte 1 ≤ 7)) ||
      decide (120 < r.argByte 2) || decide (60 < r.argByte 3) then some .badArgument
  else if s.laneBusy l && !(opens && (s.lane l).colour == some (r.argByte 1)) then some .laneBusy
  else if opens && s.colourTaken l (r.argByte 1) then some .colourTaken else none

/-- What a LANE-SETUP does (R11, R143). -/
def State.setupLane (s : State) (r : TaskRecord) : State :=
  match s.laneFault r with
  | some cause => s.refuse r cause
  | none =>
    s.setPm { s.pm with
      lanes := s.pm.lanes.set (r.lane.toNat - 1)
        { colour := if r.argByte 0 == 1 then some (r.argByte 1) else none, linger := r.argByte 2, abandon := r.argByte 3 } }

/-- What an ATLAS-DROP does; its candidate search is that of the consumption (R104, R144). -/
def State.atlasDrop (s : State) (r : TaskRecord) : State :=
  if 1024 ≤ r.slot.toNat || r.quantity.toNat == 0 || decide (1024 < r.quantity.toNat) then s.refuse r .badArgument
  else s.dropAtlas r.slot.toNat r.quantity.toNat

/-- What a FENCE does (R145, R146). -/
def State.addFence (s : State) (r : TaskRecord) : State :=
  let t := s.reserve
  (t.setPm { t.pm with
    fences := t.pm.fences ++ [{ id := r.arg1, intakeSequence := s.iu.taken, timeAccepted := s.now }] }).judgeFences

/-- Whether the setup copy enables a string (R110). -/
def State.enabled (s : State) (n : Nat) : Bool := (s.lrc.setup.map fun u => (u.string n).enabled).getD false

/-- Whether a string may take a light test: QUIET or DORMANT with no context (R147). -/
def State.idleString (s : State) (n : Nat) : Bool :=
  (s.modeOf n == .quiet || s.modeOf n == .dormant) && !s.anyHot n

/-- What a LIGHT-TEST does (R84, R147). -/
def State.lightTest (s : State) (r : TaskRecord) : State :=
  let n := r.argByte 0
  let seconds := r.argByte 1
  if 3 < n || seconds == 0 || decide (60 < seconds) then s.refuse r .badArgument
  else if !s.enabled n then s.refuse r .stringOff
  else if !s.idleString n then s.refuse r .stringBusy
  else s.reserve.setString n ((s.stringAt n).enterTest seconds)

/-- What a CENSUS does (R85, R91, R148). -/
def State.census (s : State) (r : TaskRecord) : State :=
  let n := r.argByte 0
  if 3 < n then s.refuse r .badArgument
  else if !s.enabled n then s.refuse r .stringOff
  else if s.modeOf n == .feedFault && !s.anyHot n then
    (s.reserve.setString n ((s.stringAt n).enterSettling .census)).judgeFeed n
  else if !s.idleString n then s.refuse r .stringBusy
  else s.reserve.setString n ((s.stringAt n).enterSurvey .census s.paused)

end Sys2Proof.Machine
end

