-- ==== Sys2Proof/Machine/RunStates.lean ====
section
/-! DEFINITION. The run states' operations: START and its checks, the entry to HALTED, RESUME, CLEAR, the three resets, failed
link reads, and the table sweep (R43, R44, R76, R106 to R110, R120, R150, R151, R156, R165 to R170, R175). -/

namespace Sys2Proof.Machine

/-! ### START -/

/-- START taken in UNSET: STARTING, B taken, and the two reads of the START read issued (R107, R108). -/
def State.issueStart (s : State) : State :=
  let t := s.setLrc { s.lrc with
    run := .starting
    base := some (exchangeBase s.lrc.exbaseHi s.lrc.exbaseLo)
    startRead := some 0 }
  (t.linkRead 0 64).linkRead 0x100 64

/-- A START that fails: its verdict, UNSET, SETUP raised, nothing kept (R108, R109; log 31). -/
def State.failStart (s : State) (v : Verdict) : State :=
  (s.setLrc { s.lrc with run := .unset, verdict := v, base := none, startRead := none }).raise .setup

/-- The blocks at an ACCEPTED START: aisle clock 0, counts and journal at 0, lanes OFF, cache invalid (R9, R106, R111, R120,
R151, R170). -/
def State.startBlocks (s : State) (u : Setup) : State :=
  let t := s.setLrc { s.lrc with run := .running, verdict := .accepted, clock := 0, setup := some u, startRead := none }
  let t := ((t.setIu Intake.empty).setAc (Cache.empty true)).setJw Journal.empty
  t.setPm { t.pm with lanes := List.replicate 6 Lane.off }

/-- An ACCEPTED START: the part line, JOURNAL judged, and then the strings brought up or shut down, where a feed fault taken at once
raises STRING (R76, R91, R109, R114, R159; log 26). -/
def State.acceptStart (s : State) (u : Setup) : State :=
  (((s.startBlocks u).partLine.judgeJournal false).eachString (State.startString u)).kick

/-! ### HALTED and RUNNING -/

/-- A context on entry to HALTED or RUNNING: on entry to HALTED its pin ends; the desired set is rebuilt (R43, R44). -/
def Context.turnRun (c : Context) (lanes : List Lane) (halted : Bool) : Context :=
  if halted then c.endPin lanes true else c.rebuild lanes false

/-- Every context's desired set is rebuilt for the run state entered (R43, R44). -/
def State.rebuildAll (s : State) : State :=
  s.setContexts (s.contexts.map fun e =>
    match e.context with
    | some c => { parity := true, context := some (c.turnRun s.pm.lanes s.paused) }
    | none => e)

/-- Whether any context holds a pin. -/
def State.anyPin (s : State) : Bool :=
  s.contexts.any fun e => (e.context.map fun (c : Context) => c.pin.isSome).getD false

/-- The entry to HALTED, by the HALT action or by a link fault: pins end and paused sets are built, a placement pass follows the
pins that ended, PAUSE falls due, the open block is sealed, and the lines are taken up, in this order (R14, R43, R92, R156, R166;
log 22, log 26). -/
def State.enterHalted (s : State) : State :=
  let pinned := s.anyPin
  let t := (s.setLrc { s.lrc with run := .halted }).rebuildAll
  let t := if pinned then t.placementPass else t
  ((t.mapStrings fun x => x.announce .pause).sealOpen).kick

/-- A held header poll is issued at RESUME (R125, R135). -/
def State.resumePoll (s : State) : State :=
  match s.iu.poll with
  | .held _ => s.issuePoll
  | _ => s

/-- A held record fetch is released and a fetch started at RESUME (R127, R135). -/
def State.resumeFetch (s : State) : State :=
  let t := match s.iu.fetch with
    | .held _ => s.setIu { s.iu with fetch := .idle }
    | _ => s
  t.startRecordFetch

/-- The Atlas Cache at RESUME: the holds end, a head that waited on a failed fetch is offered again, and a candidate is looked
for (R101, R103). -/
def State.resumeAtlas (s : State) : State :=
  let demandHeld := match s.ac.demand with | .held _ => true | _ => false
  let aheadHeld := match s.ac.ahead with | .held _ => true | _ => false
  let t := if demandHeld then s.setAc { s.ac with demand := .idle } else s
  let t := if aheadHeld then
      (t.setAc { t.ac with ahead := .idle }).setIu { t.iu with onLookahead := false } else t
  let t := if demandHeld || (aheadHeld && s.iu.onLookahead) then t.offerHead else t
  t.candidateSearch

/-- RESUME (R44, R92, R135, R166; log 26). -/
def State.enterRunning (s : State) : State :=
  let t := (s.setLrc { s.lrc with run := .running }).rebuildAll
  (t.resumePoll.resumeFetch.resumeAtlas.mapStrings fun x => x.announce .go).kick

/-! ### CLEAR and the resets -/

/-- A read under way, as one still awaited once voided (R167). -/
def ReadState.voidedAs (r : ReadState) (v : VoidedRead) : List VoidedRead :=
  match r with
  | .underWay _ _ => [v]
  | _ => []

/-- The reads under way, all of which CLEAR and the resets void (R106, R120, R168, R169). -/
def State.readsUnderWay (s : State) : List VoidedRead :=
  (if s.lrc.startRead.isSome then [.start] else []) ++ s.iu.poll.voidedAs .poll ++ s.iu.fetch.voidedAs .record ++
    s.ac.demand.voidedAs .demand ++ s.ac.ahead.voidedAs .lookahead

/-- The work of the run is discarded: intake, cache, pick table, lanes, fences, contexts, journal. Every entry is written anew,
with the parity given: correct at CLEAR, which runs no sweep, for the entries that were not in use too (R20, R45, R106, R120, R151,
R171; log 39). -/
def State.discardRun (s : State) (parity : Bool) : State :=
  ((((s.setIu Intake.empty).setAc (Cache.empty parity)).setPm (PickManager.empty parity)).setContexts
    (emptyContexts parity)).setJw Journal.empty

/-- CLEAR: UNSET, reads voided, setup copy and base discarded, ALL-DARK on the strings (R93, R168). -/
def State.clearRun (s : State) : State :=
  let t := s.setLrc { s.lrc with
    run := .unset
    base := none
    setup := none
    startRead := none
    voided := s.lrc.voided ++ s.readsUnderWay }
  ((t.discardRun true).mapStrings StringCtl.clear).kick

/-- The LRC's own words after a link reset or a software reset (R169). -/
def State.resetWords (s : State) (link soft : Bool) : RunControl :=
  { RunControl.powerOn with
    causePower := s.lrc.causePower
    causeLink := s.lrc.causeLink || link
    causeSoft := s.lrc.causeSoft || soft
    voided := s.lrc.voided ++ s.readsUnderWay }

/-- The fault capture clear and the sweep at its start (R169, R175). -/
def Integrity.atReset : Integrity := { capture := Capture.empty, sweepPosition := 0 }

/-- A link reset or a software reset (R94, R169). -/
def State.resetAll (s : State) (link soft : Bool) : State :=
  let t := ((s.setLrc (s.resetWords link soft)).discardRun false).setTiu Integrity.atReset
  (t.mapStrings StringCtl.resetOff).kick

/-- The controllers after power-on: as State.reset has them, with the input pins at the levels they stand at (R68; log 29). -/
def StringCtl.powered (x : StringCtl) : StringCtl :=
  { StringCtl.powerOn with attentionLow := x.attentionLow, feedFaultInput := x.feedFaultInput }

/-- Power-on: State.reset, but for the model's own fields and the levels of the input pins (R169; log 29). -/
def State.power (s : State) : State :=
  { State.reset with
    pending := s.pending, out := s.out, freeIndex := s.freeIndex, strings := s.strings.map StringCtl.powered }

/-! ### Link faults -/

/-- LINK is raised, and a RUNNING part enters HALTED (R167). -/
def State.linkFault (s : State) : State :=
  let t := s.raise .link
  if t.lrc.run == .running then t.enterHalted else t

/-- The age in ms of a read under way. -/
def ReadState.age (r : ReadState) : Option Nat :=
  match r with
  | .underWay _ age => some age
  | _ => none

/-- The age of the read that a failure concerns, when it is under way. The age of a voided read is not kept: its failure does
nothing (R167). -/
def State.ageOf (s : State) (r : ReadRef) : Option Nat :=
  match r with
  | .startRead => s.lrc.startRead
  | .headerPoll => s.iu.poll.age
  | .recordFetch => s.iu.fetch.age
  | .atlasDemand => s.ac.demand.age
  | .atlasLookahead => s.ac.ahead.age
  | .voided _ => none

/-- A read under way becomes held (R103, R125, R127). -/
def ReadState.hold (r : ReadState) : ReadState :=
  match r with
  | .underWay what _ => .held what
  | x => x

/-- The count of records that a fetch under way was to bring. -/
def ReadState.what (r : ReadState) : Nat :=
  match r with
  | .underWay n _ => n
  | .held n => n
  | .idle => 0

/-- A header poll fails: held, and prompt owed is cleared (R122, R125). -/
def State.holdPoll (s : State) : State := s.setIu { s.iu with poll := s.iu.poll.hold, promptOwed := false }

/-- A record fetch fails: held, and the fetched count is set back (R127). -/
def State.holdFetch (s : State) : State :=
  s.setIu { s.iu with fetch := s.iu.fetch.hold, fetched := s.iu.fetched - BitVec.ofNat 32 s.iu.fetch.what }

/-- A demand fetch fails: held, and the head goes on waiting (R103). -/
def State.holdDemand (s : State) : State := s.setAc { s.ac with demand := s.ac.demand.hold }

/-- A lookahead fetch fails: held (R103). -/
def State.holdAhead (s : State) : State := s.setAc { s.ac with ahead := s.ac.ahead.hold }

/-- A read under way fails (R167). -/
def State.readFails (s : State) (r : ReadRef) : State :=
  match r with
  | .startRead => s.failStart .link
  | .headerPoll => s.holdPoll.linkFault
  | .recordFetch => s.holdFetch.linkFault
  | .atlasDemand => s.holdDemand.linkFault
  | .atlasLookahead => s.holdAhead.linkFault
  | .voided _ => s

/-- A voided read is no longer awaited: its data or its error is discarded (R120, R106, R167). -/
def State.forget (s : State) (place : Nat) : State := s.setLrc { s.lrc with voided := s.lrc.voided.eraseIdx place }

/-! ### The table sweep -/

/-- The sweep's entries, counted through pick table, context table and ways, 256 and 96 and 128 (R175). -/
def sweepLength : Nat := 480

/-- Change the entries of a list at the places `lo` to `hi` - 1, counting from `n`. -/
def mapBetween {α : Type} (lo hi : Nat) (f : α → α) : Nat → List α → List α
  | _, [] => []
  | n, x :: xs => (if lo ≤ n ∧ n < hi then f x else x) :: mapBetween lo hi f (n + 1) xs

/-- The sweep writes the entries from `lo` to `hi` - 1, each empty with correct parity (R175). -/
def State.sweep (s : State) (lo hi : Nat) : State :=
  let t := s.setPm { s.pm with
    entries := mapBetween lo hi (fun _ => { parity := true, pick := none }) 0 s.pm.entries }
  let t := t.setContexts (mapBetween lo hi (fun _ => { parity := true, context := none }) 256 t.contexts)
  t.setAc { t.ac with
    ways := mapBetween lo hi (fun _ => { Way.unswept with parity := true }) 352 t.ac.ways
    lru := t.ac.lru.map fun _ => false }

end Sys2Proof.Machine
end

