-- ==== Sys2Proof/WellFormed.lean ====
section
/-! DEFINITION. Which commands an event can carry: the operand checks.
A command that fails its check is refused as ill formed by its meaning (log 25). -/

namespace Sys2Proof

/-- An ACTION value that names one of the six actions (Table 10-1). -/
def isAction (value : Word) : Bool := decide (1 ≤ value.toNat ∧ value.toNat ≤ 6)

/-- A write that R163 ignores: STATE, FAULT-WHEN, or NOTICE with none of its six flags written 1. -/
def ignoredWrite (offset : Nat) (value : Word) : Bool :=
  offset == 0x0C || offset == 0x1C || (offset == 0x10 && value.toNat % 64 == 0)

/-- The operand checks of the commands. -/
def Instr.wf : Instr → Bool
  | .actionOutOfRange v => !isAction v
  | .registerWriteIgnored o v => ignoredWrite o v
  | .startReadArrival h b => h.length == 64 && b.length == 64
  | .headerPollArrival h => h.length == 64
  | .recordFetchArrival d => d.length % 32 == 0 && decide (32 ≤ d.length ∧ d.length ≤ 256)
  | .atlasDemandArrival e => e.length == 16
  | .atlasLookaheadArrival e => e.length == 16
  | .abandonTimeout e => decide (e < 256)
  | .lingerExpiry c n => decide (c < 96 ∧ n < 256)
  | .pinTimeout c => decide (c < 96)
  | .powerOn | .linkReset | .sweepDone | .start | .halt | .resume | .clear | .reset | .prompt => true
  | .exbaseWrite _ _ | .noticeWrite _ | .noticeMaskWrite _ | .faultWhereWrite _ | .stateRead => true
  | .linkReadError _ | .linkReadTimeout _ | .voidedReadArrival _ | .headerPollIssue => true
  | .pick | .qualifier | .cancel | .amend | .laneSetup | .atlasDrop | .fence => true
  | .lightTest | .census | .skip | .unknownKind => true
  | .moduleReply _ _ | .exchangeMiss _ | .broadcastEnd _ | .settlingEnd _ | .lightTestEnd _ => true
  | .quietPeriod _ | .dormancyTimeout _ | .attentionWake _ _ | .feedFault _ _ => true
  | .sealTimeout | .journalWrite => true

end Sys2Proof
end

