-- ==== Sys2Proof/Machine/Control.lean ====
section
/-! DEFINITION. The meanings of power, the resets, the sweep's end and the six actions (R108, R122, R165, R166, R168, R169,
R175). -/

namespace Sys2Proof.Machine

/-- What a command answers. -/
abbrev Result := Host.Outcome State Fault Refusal

/-- A command that acts when its event can arise and else changes nothing (log 1). -/
def attempt (arises : Bool) (s t : State) : Result := .next (if arises then t else s)

/-- An action: taken when it is legal in the run state of the moment, else action-refused is set (R165). -/
def action (legal : Bool) (s t : State) : Result := .next (if legal then t else s.refuseAction)

/-- A command whose operand no event can carry is refused (log 25). -/
def wellFormed (i : Instr) (r : Result) : Result := if i.wf then r else .refused .illFormed

/-- POWER_ON (R169). -/
def execPowerOn (s : State) : Result := .next s.power

/-- LINK_RESET (R169). -/
def execLinkReset (s : State) : Result := .next (s.resetAll true false)

/-- SWEEP_DONE: entry 479 is written and the run state becomes UNSET (R175). -/
def execSweepDone (s : State) : Result :=
  attempt (s.lrc.run == .sweeping && s.tiu.sweepPosition == 479) s
    ((s.sweep 479 sweepLength).setLrc { s.lrc with run := .unset })

/-- ACTION START (R108, R165). -/
def execStart (s : State) : Result := action (s.lrc.run == .unset) s s.issueStart

/-- ACTION HALT (R165, R166). -/
def execHalt (s : State) : Result := action (s.lrc.run == .running) s s.checkContexts.enterHalted

/-- ACTION RESUME (R165, R166). -/
def execResume (s : State) : Result := action (s.lrc.run == .halted) s s.checkContexts.enterRunning

/-- ACTION CLEAR (R165, R168). -/
def execClear (s : State) : Result := action (s.lrc.run == .halted) s s.clearRun

/-- ACTION RESET: legal in every run state (R165, R169). -/
def execReset (s : State) : Result := .next (s.resetAll false true)

/-- What PROMPT does with the header poll (R122). -/
def State.prompt (s : State) : State :=
  match s.iu.poll with
  | .idle => s.issuePoll
  | .underWay _ _ => s.setIu { s.iu with promptOwed := true }
  | .held _ => s

/-- ACTION PROMPT (R122, R165). -/
def execPrompt (s : State) : Result := action s.inRun s s.prompt

end Sys2Proof.Machine
end

