-- ==== Sys2Proof/Machine/Registers.lean ====
section
/-! DEFINITION. The meanings of the register accesses that are no action (R161, R163, R164, R174). -/

namespace Sys2Proof.Machine

/-- ACTION_OUT_OF_RANGE: action-refused is set (R164). -/
def execActionOutOfRange (value : Word) (s : State) : Result :=
  wellFormed (.actionOutOfRange value) (.next s.refuseAction)

/-- The EXBASE words after a write taken in UNSET (R163). -/
def State.setBase (s : State) (hi : Bool) (value : Word) : State :=
  if hi then s.setLrc { s.lrc with exbaseHi := value } else s.setLrc { s.lrc with exbaseLo := value &&& 0xFFFFF000#32 }

/-- EXBASE_WRITE: taken in UNSET, and otherwise action-refused is set (R163). -/
def execExbaseWrite (hi : Bool) (value : Word) (s : State) : Result :=
  action (s.lrc.run == .unset) s (s.setBase hi value)

/-- NOTICE_WRITE (R159, R160, R163). -/
def execNoticeWrite (value : Word) (s : State) : Result := .next (s.writeNotice value)

/-- NOTICE_MASK_WRITE: bits 5..0, in any run state (R161, R163). -/
def execNoticeMaskWrite (value : Word) (s : State) : Result :=
  .next (s.setNotices s.lrc.notice (value.setWidth 6))

/-- FAULT_WHERE_WRITE: whatever the value, the capture is cleared and unfrozen (R163, R174). -/
def execFaultWhereWrite (_value : Word) (s : State) : Result :=
  .next (s.setTiu { s.tiu with capture := Capture.empty })

/-- The flags that a read of STATE clears (R164). -/
def State.clearStateFlags (s : State) : State :=
  s.setLrc { s.lrc with actionRefused := false, causePower := false, causeLink := false, causeSoft := false }

/-- STATE_READ: the word is returned, and then its flags are cleared (R164). -/
def execStateRead (s : State) : Result := .next (s.emit (.registerRead 0x0C s.stateWord)).clearStateFlags

/-- REGISTER_WRITE_IGNORED (R163). -/
def execRegisterWriteIgnored (offset : Nat) (value : Word) (s : State) : Result :=
  wellFormed (.registerWriteIgnored offset value) (.next s)

end Sys2Proof.Machine
end

