-- ==== Sys2Proof/Machine/Reads.lean ====
section
/-! DEFINITION. The meanings of the completions and failures of link reads, and of the poll cadence (R100, R102, R109, R120,
R121, R123, R127, R167). -/

namespace Sys2Proof.Machine

/-- The START checks applied to what the two reads returned (R109). -/
def State.judgeStart (s : State) (hostLine setupBlock : List Byte) : State :=
  match startVerdict hostLine setupBlock with
  | .accepted => s.acceptStart (setupCopy setupBlock)
  | v => s.failStart v

/-- START_READ_ARRIVAL (R108, R109). -/
def execStartReadArrival (hostLine setupBlock : List Byte) (s : State) : Result :=
  wellFormed (.startReadArrival hostLine setupBlock)
    (attempt (s.lrc.run == .starting && s.lrc.startRead.isSome) s (s.judgeStart hostLine setupBlock))

/-- A read that fails at a given least age (R167). -/
def State.failAt (s : State) (r : ReadRef) (least : Nat) : State :=
  match s.ageOf r with
  | some age => if least ≤ age then s.checkContexts.readFails r else s
  | none => s

/-- LINK_READ_ERROR: a voided read that fails is no longer awaited and raises nothing (R167). -/
def execLinkReadError (r : ReadRef) (s : State) : Result :=
  match r with
  | .voided place => .next (s.forget place)
  | r => .next (s.failAt r 0)

/-- LINK_READ_TIMEOUT: no completion within 50 ms; nothing for a voided read (R167). -/
def execLinkReadTimeout (r : ReadRef) (s : State) : Result := .next (s.failAt r 50)

/-- The data of a voided read is discarded; the arrival of an atlas fetch is an event of the candidate search (R101, R102, R120). -/
def State.discardVoided (s : State) (place : Nat) : State :=
  match s.lrc.voided[place]? with
  | some .demand | some .lookahead => (s.checkContexts.forget place).candidateSearch
  | some _ => s.forget place
  | none => s

/-- VOIDED_READ_ARRIVAL (R120, R106). -/
def execVoidedReadArrival (place : Nat) (s : State) : Result := .next (s.discardVoided place)

/-- HEADER_POLL_ISSUE (R121). -/
def execHeaderPollIssue (s : State) : Result :=
  attempt (s.inRun && s.iu.poll == .idle && decide (s.pollPeriod ≤ s.sincePoll)) s s.issuePoll

/-- HEADER_POLL_ARRIVAL (R123, R124, R125). -/
def execHeaderPollArrival (hostLine : List Byte) (s : State) : Result :=
  wellFormed (.headerPollArrival hostLine) (attempt (s.inRun && s.iu.poll.age.isSome) s (s.pollArrives hostLine))

/-- RECORD_FETCH_ARRIVAL: the read returns 32 bytes for each record it was issued for (R126, R127). -/
def execRecordFetchArrival (data : List Byte) (s : State) : Result :=
  wellFormed (.recordFetchArrival data)
    (attempt (s.inRun && s.iu.fetch.age.isSome && data.length == 32 * s.iu.fetch.what) s
      (s.checkContexts.fetchArrives s.iu.fetch.what data))

/-- ATLAS_DEMAND_ARRIVAL (R100). -/
def execAtlasDemandArrival (entry : List Byte) (s : State) : Result :=
  wellFormed (.atlasDemandArrival entry)
    (attempt (s.inRun && s.ac.demand.age.isSome) s (s.checkContexts.demandArrives s.ac.demand.what (atlasEntry entry)))

/-- ATLAS_LOOKAHEAD_ARRIVAL (R102). -/
def execAtlasLookaheadArrival (entry : List Byte) (s : State) : Result :=
  wellFormed (.atlasLookaheadArrival entry)
    (attempt (s.inRun && s.ac.ahead.age.isSome) s (s.checkContexts.aheadArrives s.ac.ahead.what (atlasEntry entry)))

end Sys2Proof.Machine
end

