-- ==== Sys2Proof/Machine/Tasks.lean ====
section
/-! DEFINITION. The meanings of the consumption commands: PICK, QUALIFIER and the directives. The record is the one at the head
of the intake queue; a record that cannot be consumed waits, and nothing changes (R1, R128, R129, R136; log 1, log 2). -/

namespace Sys2Proof.Machine

/-- The tables are read and checked: contexts, then pick entries (R171; log 7). -/
def State.checkTables (s : State) : State := s.checkContexts.checkPicks

/-- The PICK at the head is offered: its fields are asked for when they are needed, and it is consumed when it has them and an
entry is FREE (R1, R96, R131). -/
def State.takeHeadPick (s : State) (r : TaskRecord) : State :=
  if s.needsFields r.slot.toNat then
    match s.askAtlas r.slot.toNat with
    | (t, some f) => t.offerPick r (some f)
    | (t, none) => t.startRecordFetch
  else s.offerPick r none

/-- The PICK at the head, if one stands there and waits for no atlas fetch (R96, R128). -/
def State.headPick (s : State) : State :=
  match s.head with
  | some r => if s.headIs .pick && !s.headWaits then (s.checkTables.takeHeadPick r).kick else s
  | none => s

/-- PICK (R1, R130, R131, R132). -/
def execPick (s : State) : Result := .next s.headPick

/-- The QUALIFIER at the head, consumed while a record stands behind it (R129). -/
def State.headQualifier (s : State) : State :=
  match s.iu.queue with
  | r :: _ :: _ =>
    if s.headIs .qualifier then
      (s.checkContexts.setIu { s.checkContexts.iu with qualifiers := s.iu.qualifiers.gather r }).consumed
    else s
  | _ => s

/-- QUALIFIER (R129). -/
def execQualifier (s : State) : Result := .next s.headQualifier

/-- CANCEL (R138, R139). -/
def execCancel (s : State) : Result :=
  .next (s.directive .cancel true fun s r => s.checkTables.cancel r)

/-- AMEND (R140, R141). -/
def execAmend (s : State) : Result :=
  .next (s.directive .amend true fun s r => s.checkTables.amend r)

/-- LANE_SETUP (R11, R143). -/
def execLaneSetup (s : State) : Result :=
  .next (s.directive .laneSetup true fun s r => s.checkTables.setupLane r)

/-- ATLAS_DROP (R104, R144). -/
def execAtlasDrop (s : State) : Result :=
  .next (s.directive .atlasDrop true fun s r => s.checkContexts.atlasDrop r)

/-- FENCE: it waits while the fence list holds 4 fences (R136, R145). -/
def execFence (s : State) : Result :=
  .next (s.directive .fence (decide (s.pm.fences.length < 4)) fun s r => s.checkContexts.addFence r)

/-- LIGHT_TEST (R84, R147). -/
def execLightTest (s : State) : Result :=
  .next (s.directive .lightTest true fun s r => s.checkContexts.lightTest r)

/-- CENSUS (R85, R148). -/
def execCensus (s : State) : Result :=
  .next (s.directive .census true fun s r => s.checkContexts.census r)

/-- SKIP: consumed with no effect of its own (R149). -/
def execSkip (s : State) : Result := .next (s.directive .skip true fun s _ => s.checkContexts)

/-- UNKNOWN_KIND: refused UNKNOWN-KIND (R149). -/
def execUnknownKind (s : State) : Result :=
  .next (s.directive .unknown true fun s r => s.checkContexts.refuse r .unknownKind)

end Sys2Proof.Machine
end

