-- ==== Sys2Proof/Machine/StringEvents.lean ====
section
/-! DEFINITION. The meanings of the string events: the end of what is on the line, the timers of the modes, the attention wire
and the feed-fault input (R70, R74, R75, R77, R81, R82, R84, R91). -/

namespace Sys2Proof.Machine

/-- An entry that becomes FREE offers the head again when it waited for one (R8, R96; log 34). -/
def State.reoffer (s : State) (freeBefore : Nat) : State :=
  if freeBefore == 0 && decide (0 < s.pm.free) then s.checkContexts.offerHead.kick else s

/-- The exchange that ends on a string now: its 1 or 2 ms have elapsed (R70). -/
def StringCtl.ending (x : StringCtl) : Option (Nat × ExchangeKind × Bool) :=
  match x.line with
  | .exchange a kind sweep 0 => some (a, kind, sweep)
  | _ => none

/-- The exchange ends with these bytes on the line: a valid reply, or a miss (R70, R74, R75; log 15). -/
def State.moduleReply (s : State) (n : Nat) (frame : List Byte) : State :=
  match (s.stringAt n).ending with
  | some (a, kind, sweep) =>
    match decodeReply a frame with
    | some r => (s.checkContexts.exchangeHeard n a kind sweep r).reoffer s.pm.free
    | none => s.checkContexts.exchangeMissed n a kind sweep
  | none => s

/-- MODULE_REPLY (R74). -/
def execModuleReply (string : Fin 4) (frame : List Byte) (s : State) : Result := .next (s.moduleReply string frame)

/-- The exchange ends with no reply (R75). -/
def State.exchangeMiss (s : State) (n : Nat) : State :=
  match (s.stringAt n).ending with
  | some (a, kind, sweep) => s.checkContexts.exchangeMissed n a kind sweep
  | none => s

/-- EXCHANGE_MISS (R75). -/
def execExchangeMiss (string : Fin 4) (s : State) : Result := .next (s.exchangeMiss string)

/-- A controller at the end of a broadcast: from the end of TEST the mode timer counts its seconds (R70, R84). -/
def StringCtl.endBroadcast (x : StringCtl) (b : Broadcast) : StringCtl :=
  match b with
  | .test k => { x with line := .idle, modeTimer := if x.mode == .test then some (k * 1000) else x.modeTimer }
  | _ => { x with line := .idle }

/-- The broadcast on the line ends (R70). -/
def State.broadcastEnd (s : State) (n : Nat) : State :=
  match (s.stringAt n).line with
  | .broadcast b 0 => (s.checkContexts.setString n ((s.checkContexts.stringAt n).endBroadcast b)).kick
  | _ => s

/-- BROADCAST_END (R70). -/
def execBroadcastEnd (string : Fin 4) (s : State) : Result := .next (s.broadcastEnd string)

/-- Whether a string's mode timer has run out in a mode. -/
def State.timedOut (s : State) (n : Nat) (m : Mode) : Bool :=
  s.modeOf n == m && (s.stringAt n).modeTimer == some 0

/-- The end of a time in a mode, which changes the string's controller. -/
def State.stringEvent (s : State) (n : Nat) (f : StringCtl → StringCtl) : State :=
  (s.checkContexts.setString n (f (s.checkContexts.stringAt n))).kick

/-- SETTLING_END: ALL-DARK and the survey, with purpose START or CENSUS (R77). -/
def execSettlingEnd (string : Fin 4) (s : State) : Result :=
  attempt (s.timedOut string .settling) s
    (s.stringEvent string fun x => x.enterSurvey (x.purpose.getD .start) s.paused)

/-- LIGHT_TEST_END: ALL-DARK and the survey with purpose TEST (R84). -/
def execLightTestEnd (string : Fin 4) (s : State) : Result :=
  attempt (s.timedOut string .test) s (s.stringEvent string fun x => x.enterSurvey .test s.paused)

/-- A quiet period elapses: the next one starts, with its cold turn (R81). -/
def StringCtl.nextPeriod (x : StringCtl) : StringCtl :=
  { x with modeTimer := some x.quietMs, turnDue := x.sweep.isNone }

/-- QUIET_PERIOD (R81). -/
def execQuietPeriod (string : Fin 4) (s : State) : Result :=
  attempt (s.timedOut string .quiet) s (s.stringEvent string StringCtl.nextPeriod)

/-- Whether the dormancy timer of a permitted QUIET string has reached 60 s (R81). -/
def StringCtl.dormancyReached (x : StringCtl) : Bool :=
  x.mode == .quiet && (x.items.map StringItems.dormancy).getD false && decide (60000 ≤ x.dormancyTimer)

/-- DORMANCY_TIMEOUT: DORMANT at the end of the exchange in progress (R81). -/
def execDormancyTimeout (string : Fin 4) (s : State) : Result :=
  attempt (s.stringAt string).dormancyReached s (s.stringEvent string fun x => { x with dormancyDue := true })

/-- The attention wire at a level; low, it wakes a DORMANT string (R82). -/
def StringCtl.attend (x : StringCtl) (low : Bool) : StringCtl :=
  let y := { x with attentionLow := low }
  if low && y.mode == .dormant then y.wake else y

/-- ATTENTION_WAKE (R82; log 14). -/
def execAttentionWake (string : Fin 4) (low : Bool) (s : State) : Result :=
  .next (s.stringEvent string fun x => x.attend low)

/-- The feed-fault input at a level, taken while the feed is on (R76, R91). -/
def State.feedInput (s : State) (n : Nat) (asserted : Bool) : State :=
  let t := s.checkContexts
  ((t.setString n { t.stringAt n with feedFaultInput := asserted }).judgeFeed n).kick

/-- FEED_FAULT (R91; log 14). -/
def execFeedFault (string : Fin 4) (asserted : Bool) (s : State) : Result := .next (s.feedInput string asserted)

end Sys2Proof.Machine
end

