-- ==== Sys2Proof/Machine/Timers.lean ====
section
/-! DEFINITION. The meanings of the timers that run out and of the journal's write (R18, R37, R55, R154, R155). -/

namespace Sys2Proof.Machine

/-! ### Abandon, linger and pin timers -/

/-- The OVERDUE advisory of a pick (R18). -/
def State.overdueRecord (s : State) (i : Nat) (p : Pick) : OutcomeRecord :=
  { s.advisory .overdue .none p.slot p.tag with
    lane := BitVec.ofNat 8 p.lane
    urgent := p.urgent
    quiet := p.quiet
    overdueReported := true
    requested := BitVec.ofNat 16 p.requested
    bundleSize := BitVec.ofNat 8 (s.placeInBundle i).1
    bundlePosition := BitVec.ofNat 8 (s.placeInBundle i).2
    intakeSequence := p.intakeSequence
    timeAccepted := p.timeAccepted }

/-- Whether a pick goes overdue: its abandon timer has run out, it is not REPORTING, and no OVERDUE has been offered for it
(R17, R18). -/
def Pick.goesOverdue (p : Pick) : Bool := p.abandon == some 0 && p.live && !p.overdueReported

/-- Whether an entry's abandon timer has run out. -/
def State.abandonDue (s : State) (i : Nat) : Bool := ((s.pickAt i).map Pick.goesOverdue).getD false

/-- A pick goes overdue (R18). -/
def State.goOverdue (s : State) (i : Nat) : State :=
  match s.pickAt i with
  | some p =>
    if p.goesOverdue then
      (s.setPick i (some { p with abandon := none, overdueReported := true })).offer (s.overdueRecord i p)
    else s
  | none => s

/-- ABANDON_TIMEOUT: the timers count, and run out, in RUNNING (R17, R18). -/
def execAbandonTimeout (entry : Nat) (s : State) : Result :=
  wellFormed (.abandonTimeout entry)
    (attempt (s.lrc.run == .running && s.abandonDue entry) s (((s.checkContexts.checkPick entry).goOverdue entry).kick))

/-- Whether the linger timer of a claim has run out (R37). -/
def State.lingerDue (s : State) (ci serial : Nat) : Bool :=
  (((s.contextAt ci).bind fun c => c.claim serial).map fun k => k.linger == some 0).getD false

/-- The linger timer of a claim runs out: its face blinks FAST (R36, R37). -/
def State.expireLinger (s : State) (ci serial : Nat) : State :=
  match s.contextAt ci with
  | some c =>
    s.setContext ci (some ((c.setClaim serial fun k =>
      if k.linger == some 0 then { k with linger := none, lingerExpired := true } else k).rebuild s.pm.lanes s.paused))
  | none => s

/-- LINGER_EXPIRY (R37). -/
def execLingerExpiry (context serial : Nat) (s : State) : Result :=
  wellFormed (.lingerExpiry context serial)
    (attempt (s.lrc.run == .running && s.lingerDue context serial) s
      ((s.checkContexts.expireLinger context serial).kick))

/-- Whether the pin timer of a context has run out (R55). -/
def State.pinDue (s : State) (ci : Nat) : Bool :=
  (((s.contextAt ci).bind Context.pin).map fun p => p.timer == 0).getD false

/-- The pin timer of a context runs out: the claim is SHOWN again and a placement pass runs (R55, R14). -/
def State.expirePin (s : State) (ci : Nat) : State :=
  match s.contextAt ci with
  | some c => if c.pin.isSome then (s.setContext ci (some (c.endPin s.pm.lanes s.paused))).placementPass else s
  | none => s

/-- PIN_TIMEOUT (R55). -/
def execPinTimeout (context : Nat) (s : State) : Result :=
  wellFormed (.pinTimeout context)
    (attempt (s.lrc.run == .running && s.pinDue context) s ((s.checkContexts.expirePin context).kick))

/-! ### The journal -/

/-- SEAL_TIMEOUT: the open block is sealed (R155). -/
def execSealTimeout (s : State) : Result := attempt (s.inRun && s.jw.sealTimer == some 0) s s.sealBlock

/-- The final outcome record of a pick, its fields as R6 left them (Table 6-6, R119). -/
def Pick.record (p : Pick) (o : Outcome) : OutcomeRecord :=
  { kind := .final o.kind
    cause := o.cause
    lane := BitVec.ofNat 8 p.lane
    adjusted := o.adjusted
    urgent := p.urgent
    quiet := p.quiet
    suspectTag := o.suspectTag
    overdueReported := p.overdueReported
    tag := p.tag
    slot := BitVec.ofNat 16 p.slot
    requested := BitVec.ofNat 16 p.requested
    confirmed := BitVec.ofNat 16 o.confirmed
    bundleSize := BitVec.ofNat 8 o.bundleSize
    bundlePosition := BitVec.ofNat 8 o.bundlePosition
    intakeSequence := p.intakeSequence
    timeAccepted := p.timeAccepted
    timeClosed := o.timeClosed }

/-- The final record of a REPORTING entry. -/
def State.finalRecord (s : State) (i : Nat) : Option OutcomeRecord :=
  match s.pickAt i with
  | some p =>
    match p.stage with
    | .reporting o => some (p.record o)
    | _ => none
  | none => none

/-- One outcome record is written into the open block: the item leaves the report list, and the first record starts the seal
timer (R154). -/
def State.writeRecord (s : State) (u : Setup) (data : List Byte) : State :=
  let t := s.linkWrite (u.blockOffset s.jw.sealed (s.jw.written + 1)) data
  t.setJw { t.jw with
    report := t.jw.report.tail
    written := t.jw.written + 1
    sealTimer := if t.jw.written == 0 then some u.sealDelay else t.jw.sealTimer }

/-- The closing conditions: the block is full, or the record written is a FENCE-REACHED (R154, R155). -/
def State.closeBlock (s : State) (u : Setup) (fence : Bool) : State :=
  if s.jw.written == u.records || fence then s.sealBlock else s

/-- The fence list is examined after the Journal Writer's write: while it holds a fence, both tables are read (R146, R171). -/
def State.examineFences (s : State) : State := if s.pm.fences.isEmpty then s else s.checkContexts.judgeFences.kick

/-- A final record is written, its entry freed, the fence list examined, and a full block sealed last (R8, R146, R154, R172;
log 26). -/
def State.writePick (s : State) (u : Setup) (i : Nat) : State :=
  let t := s.checkPick i
  match t.finalRecord i with
  | some r => ((((t.writeRecord u (r.bytes 0)).release i).examineFences).reoffer s.pm.free).closeBlock u false
  | none => s

/-- An advisory is written with the lost count, which returns to 0 (R154). -/
def State.writeAdvisory (s : State) (u : Setup) (r : OutcomeRecord) : State :=
  let t := s.writeRecord u (r.bytes s.jw.lost)
  (t.setJw { t.jw with lost := 0 }).closeBlock u (r.kind == .fenceReached)

/-- The oldest item of the report list is written when a block is free (R154). -/
def State.writeOldest (s : State) : State :=
  match s.lrc.setup, s.jw.report with
  | some u, .pick i :: _ => s.writePick u i
  | some u, .advisory r :: _ => s.writeAdvisory u r
  | _, _ => s

/-- JOURNAL_WRITE (R154). -/
def execJournalWrite (s : State) : Result := attempt (s.inRun && s.blockFree && !s.jw.report.isEmpty) s s.writeOldest

end Sys2Proof.Machine
end

