-- ==== Sys2Proof/Machine/Dispatch.lean ====
section
/-! DEFINITION. What every command does: one arm a constructor, each one call of its meaning. -/

namespace Sys2Proof.Machine

/-- A command's effect on everything but the queue. -/
def exec (i : Instr) (s : State) : Host.Outcome State Fault Refusal :=
  match i with
  | .powerOn => Sys2Proof.Machine.execPowerOn s
  | .linkReset => Sys2Proof.Machine.execLinkReset s
  | .sweepDone => Sys2Proof.Machine.execSweepDone s
  | .start => Sys2Proof.Machine.execStart s
  | .halt => Sys2Proof.Machine.execHalt s
  | .resume => Sys2Proof.Machine.execResume s
  | .clear => Sys2Proof.Machine.execClear s
  | .reset => Sys2Proof.Machine.execReset s
  | .prompt => Sys2Proof.Machine.execPrompt s
  | .actionOutOfRange value => Sys2Proof.Machine.execActionOutOfRange value s
  | .exbaseWrite hi value => Sys2Proof.Machine.execExbaseWrite hi value s
  | .noticeWrite value => Sys2Proof.Machine.execNoticeWrite value s
  | .noticeMaskWrite value => Sys2Proof.Machine.execNoticeMaskWrite value s
  | .faultWhereWrite value => Sys2Proof.Machine.execFaultWhereWrite value s
  | .stateRead => Sys2Proof.Machine.execStateRead s
  | .registerWriteIgnored offset value => Sys2Proof.Machine.execRegisterWriteIgnored offset value s
  | .startReadArrival hostLine setupBlock => Sys2Proof.Machine.execStartReadArrival hostLine setupBlock s
  | .linkReadError read => Sys2Proof.Machine.execLinkReadError read s
  | .linkReadTimeout read => Sys2Proof.Machine.execLinkReadTimeout read s
  | .voidedReadArrival place => Sys2Proof.Machine.execVoidedReadArrival place s
  | .headerPollIssue => Sys2Proof.Machine.execHeaderPollIssue s
  | .headerPollArrival hostLine => Sys2Proof.Machine.execHeaderPollArrival hostLine s
  | .recordFetchArrival data => Sys2Proof.Machine.execRecordFetchArrival data s
  | .atlasDemandArrival entry => Sys2Proof.Machine.execAtlasDemandArrival entry s
  | .atlasLookaheadArrival entry => Sys2Proof.Machine.execAtlasLookaheadArrival entry s
  | .pick => Sys2Proof.Machine.execPick s
  | .qualifier => Sys2Proof.Machine.execQualifier s
  | .cancel => Sys2Proof.Machine.execCancel s
  | .amend => Sys2Proof.Machine.execAmend s
  | .laneSetup => Sys2Proof.Machine.execLaneSetup s
  | .atlasDrop => Sys2Proof.Machine.execAtlasDrop s
  | .fence => Sys2Proof.Machine.execFence s
  | .lightTest => Sys2Proof.Machine.execLightTest s
  | .census => Sys2Proof.Machine.execCensus s
  | .skip => Sys2Proof.Machine.execSkip s
  | .unknownKind => Sys2Proof.Machine.execUnknownKind s
  | .moduleReply string frame => Sys2Proof.Machine.execModuleReply string frame s
  | .exchangeMiss string => Sys2Proof.Machine.execExchangeMiss string s
  | .broadcastEnd string => Sys2Proof.Machine.execBroadcastEnd string s
  | .settlingEnd string => Sys2Proof.Machine.execSettlingEnd string s
  | .lightTestEnd string => Sys2Proof.Machine.execLightTestEnd string s
  | .quietPeriod string => Sys2Proof.Machine.execQuietPeriod string s
  | .dormancyTimeout string => Sys2Proof.Machine.execDormancyTimeout string s
  | .attentionWake string low => Sys2Proof.Machine.execAttentionWake string low s
  | .feedFault string asserted => Sys2Proof.Machine.execFeedFault string asserted s
  | .abandonTimeout entry => Sys2Proof.Machine.execAbandonTimeout entry s
  | .lingerExpiry context serial => Sys2Proof.Machine.execLingerExpiry context serial s
  | .pinTimeout context => Sys2Proof.Machine.execPinTimeout context s
  | .sealTimeout => Sys2Proof.Machine.execSealTimeout s
  | .journalWrite => Sys2Proof.Machine.execJournalWrite s

end Sys2Proof.Machine
end

