-- ==== Sys2Proof/Machine/Tick.lean ====
section
/-! DEFINITION. One millisecond of the part: the aisle clock, the timers, the ages of reads, the lines, the table sweep, and
the entries struck in it (R17, R37, R55, R68, R70, R155, R167, R170, R171, R175; log 3, log 6, log 9). -/

namespace Sys2Proof.Machine

/-! ### Timers -/

/-- A remaining time one millisecond later. -/
def countDown (t : Option Nat) : Option Nat := t.map fun n => n - 1

/-- A read under way one millisecond later; its age stays at 50, the time of its failure (R167). -/
def ReadState.grow (r : ReadState) : ReadState :=
  match r with
  | .underWay what age => .underWay what (min 50 (age + 1))
  | x => x

/-- A pick's abandon timer counts (R17). The parity of the entry is not touched: counting is no write of the owner (log 6). -/
def PickEntry.count (e : PickEntry) : PickEntry :=
  { e with pick := e.pick.map fun (p : Pick) => { p with abandon := countDown p.abandon } }

/-- A claim's linger timer counts (R37). -/
def Claim.count (k : Claim) : Claim := { k with linger := countDown k.linger }

/-- A context's linger timers and its pin timer count (R37, R55). -/
def Context.count (c : Context) : Context :=
  { c with
    claims := c.claims.map Claim.count
    pin := c.pin.map fun (p : Pin) => { p with timer := p.timer - 1 } }

/-- A context entry in a millisecond of RUNNING. -/
def ContextEntry.count (e : ContextEntry) : ContextEntry := { e with context := e.context.map Context.count }

/-- The abandon, linger and pin timers count in RUNNING only (R17, R37, R55, R170). -/
def State.countRun (s : State) : State :=
  if s.lrc.run == .running then
    (s.setPm { s.pm with entries := s.pm.entries.map PickEntry.count }).setContexts (s.contexts.map ContextEntry.count)
  else s

/-- The aisle clock and the seal timer count in RUNNING and in HALTED (R155, R170). -/
def State.countClock (s : State) : State :=
  if s.inRun then
    (s.setLrc { s.lrc with clock := s.lrc.clock + 1 }).setJw { s.jw with sealTimer := countDown s.jw.sealTimer }
  else s

/-- The reads under way grow older (R167). -/
def State.countReads (s : State) : State :=
  let t := s.setLrc { s.lrc with startRead := s.lrc.startRead.map fun n => min 50 (n + 1) }
  let t := t.setIu { t.iu with poll := t.iu.poll.grow, fetch := t.iu.fetch.grow }
  t.setAc { t.ac with demand := t.ac.demand.grow, ahead := t.ac.ahead.grow }

/-- What is on the line one millisecond later (R70). -/
def Line.count (l : Line) : Line :=
  match l with
  | .idle => .idle
  | .exchange a k sweep left => .exchange a k sweep (left - 1)
  | .broadcast b left => .broadcast b (left - 1)

/-- A controller's own millisecond, in every run state: the line, the mode timer, the time spent in QUIET (R68). -/
def StringCtl.count (x : StringCtl) : StringCtl :=
  { x with
    line := x.line.count
    modeTimer := countDown x.modeTimer
    dormancyTimer := if x.mode == .quiet then min 60000 (x.dormancyTimer + 1) else x.dormancyTimer }

/-! ### The table sweep -/

/-- The sweep writes on in SWEEPING: at least one entry in a millisecond, and as many more as a free value says, up to the last entry,
which SWEEP_DONE writes (R175; log 9). -/
def State.sweepOn (s : State) : State :=
  if s.lrc.run == .sweeping then
    let p := min 479 (s.tiu.sweepPosition + 1 + Config.sweepRate s.freeIndex)
    (s.sweep s.tiu.sweepPosition p).setTiu { s.tiu with sweepPosition := p }
  else s

/-! ### Strikes -/

/-- Atlas fields as their widths hold them (Table 6-4). -/
def AtlasFields.fit (f : AtlasFields) : AtlasFields :=
  { f with string := f.string % 4, address := f.address % 256, limit := f.limit % 256 }

/-- An atlas copy as its widths hold it. -/
def AtlasCopy.fit (a : AtlasCopy) : AtlasCopy :=
  { a with string := a.string % 4, address := a.address % 256, limit := a.limit % 256 }

/-- Outcome fields as their widths hold them (Table 6-6). -/
def Outcome.fit (o : Outcome) : Outcome :=
  { o with
    confirmed := o.confirmed % 65536, bundleSize := o.bundleSize % 256, bundlePosition := o.bundlePosition % 256 }

/-- A struck pick: the fields are those struck, as their widths hold them; where it stands is known outside the entry (R171). -/
def Pick.struck (old new : Pick) : Pick :=
  { new with
    lane := new.lane % 8
    slot := new.slot % 65536
    requested := new.requested % 1024
    abandon := new.abandon.map fun (n : Nat) => n % 2 ^ 22
    stage := match old.stage, new.stage with
      | .deferred _, .deferred a => .deferred a.fit
      | .reporting _, .reporting o => .reporting o.fit
      | x, _ => x }

/-- A face as its widths hold it (Table 4-2). -/
def Face.fit (f : Face) : Face :=
  { f with index := f.index % 4, serial := f.serial % 256, colour := f.colour % 8, quantity := f.quantity % 1024 }

/-- A face set as its widths hold it. -/
def FaceSet.fit (x : FaceSet) : FaceSet :=
  { x with
    generation := x.generation % 16, faces := (x.faces.take 3).map Face.fit
    pinned := x.pinned.map fun (n : Nat) => n % 4 }

/-- A claim as its widths hold it. -/
def Claim.fit (k : Claim) : Claim :=
  { k with
    lane := k.lane % 8, serial := k.serial % 256, face := k.face.map fun (n : Nat) => n % 4
    linger := k.linger.map fun (n : Nat) => n % 2 ^ 17, bundle := (k.bundle.take 8).map fun i => i % 256
    sum := k.sum % 1024 }

/-- A context as its widths hold it. -/
def Context.fit (c : Context) : Context :=
  { slot := c.slot % 1024
    atlas := c.atlas.fit
    claims := (c.claims.take 6).map Claim.fit
    nextSerial := c.nextSerial % 256
    generation := c.generation % 16
    desired := c.desired.fit
    pending := c.pending.map FaceSet.fit
    displayed := c.displayed.fit
    pin := c.pin.map fun (p : Pin) => { serial := p.serial % 256, count := p.count % 1024, timer := p.timer % 2 ^ 15 } }

/-- A struck pick entry no longer passes its check; an entry that is FREE is known to be so outside the entry (R171, R172). -/
def PickEntry.strike (e : PickEntry) (p : Pick) : PickEntry :=
  { parity := false, pick := e.pick.map fun (old : Pick) => old.struck p }

/-- A struck context entry no longer passes its check; which entries are in use is known outside them (R171, R173). -/
def ContextEntry.strike (e : ContextEntry) (c : Context) : ContextEntry :=
  { parity := false, context := e.context.map fun _ => c.fit }

/-- An entry is struck (R171; log 6). -/
def State.strike (s : State) (x : Strike) : State :=
  match x with
  | .pick i p => s.setPm { s.pm with entries := s.pm.entries.modify i fun e => e.strike p }
  | .context i c => s.setContexts (s.contexts.modify i fun e => e.strike c)
  | .way i valid tag f =>
    s.setAc { s.ac with
      ways := s.ac.ways.modify i fun _ => { parity := false, valid := valid, tag := tag % 16, fields := f.fit } }

/-- The entries struck in this millisecond, a free value (log 6). -/
def State.strikes (s : State) : State := (Config.strikes s.freeIndex).foldl State.strike s

/-! ### The tick -/

/-- One millisecond (log 3). -/
def State.tick (s : State) : State :=
  let t := s.countRun.countClock.countReads
  let t := (t.mapStrings StringCtl.count).sweepOn.strikes
  { t with freeIndex := s.freeIndex + 1 }

end Sys2Proof.Machine
end

