-- ==== Sys2Proof/Safety.lean ====
section
/-! DEFINITION. The safety predicates of the model: what every reachable state satisfies, and what the statements assume. -/

namespace Sys2Proof.Machine

/-- A decidable test of every place of a list against every later one. -/
def pairwiseOk {α : Type} (ok : α → α → Bool) : List α → Bool
  | [] => true
  | x :: xs => xs.all (ok x) && pairwiseOk ok xs

/-- The tables have their sizes: 256 pick entries, 96 contexts, 64 sets of 2 ways, 6 lanes, 4 strings of 120 addresses
(01 Table 1-1, 02 Table 2-1, 05 5.3, R9, 04 Table 4-1). -/
def State.Shape (s : State) : Prop :=
  s.pm.entries.length = 256 ∧ s.contexts.length = 96 ∧ s.ac.ways.length = 128 ∧ s.ac.lru.length = 64 ∧
    s.pm.lanes.length = 6 ∧ s.strings.length = 4 ∧ ∀ x ∈ s.strings, x.modules.length = 120

/-- The journal's counts: SEALED - RELEASED lies in 0..N, the open block holds fewer than R records, and some only while a block is
free, and the seal timer is present while it holds some; all is at 0 while no setup copy is held (R124, R151, R155, R157). -/
def State.JournalLaw (s : State) : Prop :=
  (s.jw.sealTimer.isSome = true ↔ 0 < s.jw.written) ∧
    match s.lrc.setup with
    | none => s.jw.sealed = 0 ∧ s.jw.released = 0 ∧ s.jw.written = 0
    | some u =>
      1 ≤ u.blocks ∧ u.blocks ≤ 64 ∧ s.jw.unreleased ≤ u.blocks ∧ s.jw.written < u.records ∧
        (0 < s.jw.written → s.jw.unreleased < u.blocks)

/-- The records of a fetch under way. -/
def ReadState.inFlight (r : ReadState) : Nat :=
  match r with
  | .underWay n _ => n
  | _ => 0

/-- The intake's counts: the fetched count is TAKEN plus the queue length plus the records of a fetch under way, at most 8 records
are fetched ahead, TAKEN does not pass POSTED and POSTED - TAKEN does not exceed C (R120, R123, R126). -/
def State.IntakeLaw (s : State) : Prop :=
  s.iu.fetched = s.iu.taken + BitVec.ofNat 32 (s.iu.queue.length + s.iu.fetch.inFlight) ∧
    s.iu.queue.length + s.iu.fetch.inFlight ≤ 8 ∧
    match s.lrc.setup with
    | none => s.iu.queue = [] ∧ s.iu.fetch.inFlight = 0 ∧ s.iu.posted = s.iu.taken
    | some u =>
      1 ≤ u.capacity ∧ u.capacity ≤ 4096 ∧ (s.iu.posted - s.iu.taken).toNat ≤ u.capacity ∧
        s.iu.queue.length + s.iu.fetch.inFlight ≤ (s.iu.posted - s.iu.taken).toNat

/-- There are six lanes, and the colours of OPEN lanes differ (R9). -/
def State.LaneLaw (s : State) : Prop :=
  s.pm.lanes.length = 6 ∧
    pairwiseOk (fun (x y : Lane) => x.colour.isNone || x.colour != y.colour) s.pm.lanes = true

/-- The lost count saturates at 255 (R153). -/
def State.LostLaw (s : State) : Prop := s.jw.lost ≤ 255

/-- No table entry fails its parity check (R171). -/
def State.Intact (s : State) : Prop :=
  (∀ e ∈ s.pm.entries, e.parity = true) ∧ (∀ e ∈ s.contexts, e.parity = true) ∧ ∀ w ∈ s.ac.ways, w.parity = true

/-- No two contexts name the same module or the same slot (R21, R22). -/
def State.ModuleLaw (s : State) : Prop :=
  pairwiseOk (fun (x y : Context) => x.slot != y.slot && !(x.atlas.string == y.atlas.string && x.atlas.address == y.atlas.address))
    (s.contexts.filterMap ContextEntry.context) = true

/-- The generation law of one context: pending and displayed generations never coincide; a desired generation coincides with the
displayed one, or with the pending one, only when it is that very set; and only the first desired set, which is empty, has
generation 0 (R39). -/
def Context.GenerationLaw (c : Context) : Prop :=
  (∀ x, c.pending = some x → x.generation ≠ c.displayed.generation) ∧
    (c.desired.generation = c.displayed.generation → c.desired = c.displayed) ∧
    (∀ x, c.pending = some x → c.desired.generation = x.generation → c.desired = x) ∧
    (c.desired.generation = 0 → c.desired = FaceSet.nothing)

/-- Every context keeps the generation law. -/
def State.GenerationLaw (s : State) : Prop :=
  ∀ e ∈ s.contexts, ∀ c, e.context = some c → c.GenerationLaw

/-- The law of one context's claims: at most 6, their serials and their face indices distinct, each index below 3, and at most 3
faces in each face set (R27, R29, R32). -/
def Context.ClaimLaw (c : Context) : Prop :=
  c.claims.length ≤ 6 ∧ (c.claims.map Claim.serial).Nodup ∧ (c.claims.filterMap Claim.face).Nodup ∧
    (∀ k ∈ c.claims, ∀ x, k.face = some x → x < 3) ∧ c.desired.faces.length ≤ 3 ∧ c.displayed.faces.length ≤ 3 ∧
    ∀ x, c.pending = some x → x.faces.length ≤ 3

/-- The picks on the report list. -/
def State.reportedPicks (s : State) : List Nat :=
  s.jw.report.filterMap fun x =>
    match x with
    | .pick i => some i
    | .advisory _ => none

/-- The picks of the bundles of every context. -/
def State.bundledPicks (s : State) : List Nat :=
  s.contexts.flatMap fun e => (e.context.map fun (c : Context) => c.claims.flatMap Claim.bundle).getD []

/-- The pick table's law: the reference of each entry that is not FREE stands in exactly one collection, once, that of its state; the
FREE count is that of the FREE entries; outside a run the table, the contexts and the report list are empty; and every context
keeps the law of its claims (R2, R5, R6, R20, R29). -/
def State.PickLaw (s : State) : Prop :=
  (s.pm.deferred ++ s.reportedPicks ++ s.bundledPicks).Nodup ∧
    (∀ i, (i ∈ s.pm.deferred ↔ ∃ p atlas, s.pickAt i = some p ∧ p.stage = .deferred atlas) ∧
      (i ∈ s.reportedPicks ↔ ∃ p o, s.pickAt i = some p ∧ p.stage = .reporting o) ∧
      (i ∈ s.bundledPicks ↔ ∃ p, s.pickAt i = some p ∧ p.stage = .placed)) ∧
    s.pm.entries.length = 256 ∧ s.pm.free = (s.pm.entries.filter fun e => e.pick.isNone).length ∧
    (s.inRun = false →
      (∀ e ∈ s.pm.entries, e.pick = none) ∧ (∀ e ∈ s.contexts, e.context = none) ∧ s.jw.report = []) ∧
    ∀ e ∈ s.contexts, ∀ c, e.context = some c → c.ClaimLaw

/-! ### Premises of the statements -/

/-- A record of a kind stands at the head of the intake queue in a run state that offers it (R128). -/
def State.HeadIs (s : State) (r : TaskRecord) (k : TaskKind) : Prop :=
  s.inRun = true ∧ s.head = some r ∧ r.task = k

/-- One record was consumed: the queue lost its head, TAKEN advanced by one, consumed-in-interval is set (R134). -/
def State.Took (s t : State) : Prop :=
  t.iu.queue = s.iu.queue.tail ∧ t.iu.taken = s.iu.taken + 1 ∧ t.iu.consumed = true

/-- The closing advisory of a string: TEST-DONE or CENSUS-DONE (R84, R85). -/
def Item.closesString : Item → Bool
  | .pick _ => false
  | .advisory r => r.kind == .testDone || r.kind == .censusDone

/-- These items joined the report list, and behind them nothing but the closing advisories of strings that took up their
lines (R152). -/
def State.Reported (s t : State) (items : List Item) : Prop :=
  ∃ more, t.jw.report = s.jw.report ++ items ++ more ∧ ∀ x ∈ more, x.closesString = true

/-- These items joined the report list, and behind them nothing but picks that a placement pass refused and the closing advisories
of strings (R15, R152). -/
def State.ReportedFirst (s t : State) (items : List Item) : Prop :=
  ∃ more, t.jw.report = s.jw.report ++ items ++ more ∧ ∀ x ∈ more, x.closesString = true ∨ ∃ i, x = .pick i

/-- These broadcasts fell due on a string, behind those due before: while the line carries something they wait, and on an idle line
the first of all that are due starts at once (R70, R92). -/
def StringCtl.Sends (x y : StringCtl) (bs : List Broadcast) : Prop :=
  (x.line ≠ .idle → y.line = x.line ∧ y.due = x.due ++ bs) ∧
    (x.line = .idle → ∀ b rest, x.due ++ bs = b :: rest → y.line = .broadcast b 1 ∧ y.due = rest)

/-- One advisory entry was reserved; the closing advisories of strings that took up their lines, and nothing else, joined the report
list, each into an entry reserved for it (R136, R152, R153). -/
def State.Reserved (s t : State) : Prop :=
  ∃ more, t.jw.report = s.jw.report ++ more ∧ (∀ x ∈ more, x.closesString = true) ∧
    t.jw.reserved = s.jw.reserved + 1 - more.length

/-- The advisory records on the report list, oldest first (R151). -/
def State.advisories (s : State) : List OutcomeRecord :=
  s.jw.report.filterMap fun x =>
    match x with
    | .pick _ => none
    | .advisory r => some r

/-- A line that has nothing to carry stays so (R70). -/
def StringCtl.StaysIdle (x y : StringCtl) : Prop := x.line = .idle → x.due = [] → y.line = .idle ∧ y.due = []

/-- A controller whose exchange has been abandoned (R76, R94). -/
def StringCtl.abandoned (x : StringCtl) : StringCtl := { x with line := if x.line.inExchange then .idle else x.line }

/-- The next hot address above a position (R79). -/
def State.NextHot (s : State) (n position a : Nat) : Prop :=
  position < a ∧ s.hot n a = true ∧ ∀ b, position < b → b < a → s.hot n b = false

/-- The next cold address of the walk: counting upward from the cold-walk position through 1 to the ceiling, and from the ceiling
on to 1, past hot addresses (R80). -/
def State.NextCold (s : State) (n a : Nat) : Prop :=
  let position := (s.stringAt n).coldWalk
  let top := (s.stringAt n).ceiling
  1 ≤ a ∧ a ≤ top ∧ s.hot n a = false ∧
    ((position < a ∧ ∀ b, position < b → b < a → s.hot n b = true) ∨
      (a ≤ position ∧ (∀ b, position < b → b ≤ top → s.hot n b = true) ∧ ∀ b, 1 ≤ b → b < a → s.hot n b = true))

/-- Where the acceptance of a pick leaves it: joined to a claim of its slot's context, in a context created for it, or deferred with
the context's atlas copy or with the fields' (R13, R22, R28). Line work may have set the context's pending set since. -/
def State.PickPlaced (s t : State) (i : Nat) (p : Pick) (fields : Option AtlasFields) : Prop :=
  let q := { p with stage := .placed }
  let placed : Prop := p.stage = .placed ∧ t.pm.deferred = s.pm.deferred
  let deferred (atlas : AtlasCopy) : Prop := p.stage = .deferred atlas ∧ t.pm.deferred = s.pm.deferred ++ [i]
  match s.contextOfSlot p.slot with
  | some ci => ∀ c, s.contextAt ci = some c →
    match c.offer s.pm.lanes s.paused i q with
    | some d => placed ∧ ∃ x, t.contextAt ci = some { d with pending := x }
    | none => deferred c.atlas ∧ ∃ x, t.contextAt ci = some { c with pending := x }
  | none => ∃ f, fields = some f ∧
    let copy : AtlasCopy := { string := f.string, address := f.address, limit := f.limit, solo := f.solo }
    match s.lowestFreeContext with
    | some ci => placed ∧
      ∃ x, t.contextAt ci = some { (Context.create p.slot copy).newClaim s.pm.lanes s.paused i q with pending := x }
    | none => deferred copy

/-- The consumption of a PICK into an entry: what the entry holds of the record, the qualifiers and the moment, and how it leaves
FREE: REFUSED with the cause of the first check that fails, or accepted with its lane's abandon timer and placed or deferred. -/
def State.PickTaken (s t : State) (i : Nat) (r : TaskRecord) (fields : Option AtlasFields) : Prop :=
  let lane := s.iu.qualifiers.laneOf r
  s.Took t ∧ t.iu.qualifiers = QualifierSet.empty ∧ t.pm.free = s.pm.free - 1 ∧
    ∃ p, t.pickAt i = some p ∧ p.tag = r.tag ∧ p.slot = r.slot.toNat ∧ p.intakeSequence = s.iu.taken ∧
      p.timeAccepted = s.lrc.clock ∧ p.urgent = s.iu.qualifiers.urgent ∧ p.quiet = s.iu.qualifiers.quiet ∧
      p.overdueReported = false ∧ p.requested = (if r.quantity.toNat ≤ 999 then r.quantity.toNat else 0) ∧
      p.lane = (if 1 ≤ lane ∧ lane ≤ 6 then lane else 0) ∧
      match s.iu.qualifiers.fault.or (s.acceptance r lane fields) with
      | some cause =>
        p.abandon = none ∧ s.Reported t [.pick i] ∧
          p.stage = .reporting { kind := .refused, cause := cause, confirmed := 0, timeClosed := s.lrc.clock,
                                 bundleSize := 1, bundlePosition := 1, adjusted := false, suspectTag := false }
      | none =>
        p.abandon = (if (s.lane lane).abandon = 0 then none else some ((s.lane lane).abandon * 60000)) ∧
          s.PickPlaced t i p fields

end Sys2Proof.Machine
end

