-- ==== Sys2Proof/Certificates/Slice0/Obligations.lean ====
section
/-! DEFINITION. The statements for the provers. Every statement is about exec, step or a shared operation that the meanings
call; hypotheses are on the state and the operands alone. -/

open Sys2Proof Sys2Proof.Machine

/-! ### The queue and the step -/

/-- The step runs the front command on the state with the queue's rest. -/
def Obligations.StepTakesTheFrontCommand : Prop :=
  ∀ (c : Instr) (rest : List Instr) (s : State), s.pending = c :: rest → step s = exec c { s with pending := rest }

/-- The model's choice (log 3): with no command waiting, one millisecond passes. The aisle clock and the seal timer count in
RUNNING and HALTED only, the abandon, linger and pin timers in RUNNING only, the line, the mode timer and a QUIET string's
dormancy timer in every run state, and the reads under way grow older up to 50 ms (R17, R37, R55, R68, R70, R155, R167, R170);
neither reports, records nor notices change. In SWEEPING the table sweep writes on, one entry and as many more as a free value
says (log 9), and stops short of the last entry, where it stands within 479 such steps: each entry from the old position up to the
new one becomes empty with good parity and every other stands (R175); outside SWEEPING the position stands. Last, the entries that
the free value names are struck (log 6). -/
def Obligations.IdleStepIsOneMillisecond : Prop :=
  ∀ s : State, s.pending = [] →
    let running := s.lrc.run = .running
    let less (t : Option Nat) : Option Nat := t.map fun n => n - 1
    let older (r : ReadState) : ReadState := match r with
      | .underWay what age => .underWay what (min 50 (age + 1))
      | r => r
    ∃ u t : State, step s = .next t ∧
      t = { (Config.strikes s.freeIndex).foldl State.strike u with freeIndex := s.freeIndex + 1 } ∧
      (t.pending = [] ∧ t.out = s.out ∧ t.jw = u.jw ∧ t.iu = u.iu ∧ t.lrc = u.lrc ∧ t.strings = u.strings ∧
        t.tiu = u.tiu ∧ t.pm.free = s.pm.free ∧ t.pm.lanes = s.pm.lanes ∧
        t.pm.deferred = s.pm.deferred ∧ t.pm.fences = s.pm.fences) ∧
      u.lrc = { s.lrc with
        clock := if s.inRun then s.lrc.clock + 1 else s.lrc.clock
        startRead := s.lrc.startRead.map fun n => min 50 (n + 1) } ∧
      u.iu = { s.iu with poll := older s.iu.poll, fetch := older s.iu.fetch } ∧
      u.ac.demand = older s.ac.demand ∧ u.ac.ahead = older s.ac.ahead ∧ u.ac.lookahead = s.ac.lookahead ∧
      u.jw = { s.jw with sealTimer := if s.inRun then less s.jw.sealTimer else s.jw.sealTimer } ∧
      (∀ n, u.stringAt n = { s.stringAt n with
        line := match (s.stringAt n).line with
          | .idle => .idle
          | .exchange a k w left => .exchange a k w (left - 1)
          | .broadcast b left => .broadcast b (left - 1)
        modeTimer := less (s.stringAt n).modeTimer
        dormancyTimer := if (s.stringAt n).mode = .quiet then min 60000 ((s.stringAt n).dormancyTimer + 1)
          else (s.stringAt n).dormancyTimer }) ∧
      (s.lrc.run = .sweeping →
        let p := s.tiu.sweepPosition
        let q := min 479 (p + 1 + Config.sweepRate s.freeIndex)
        u.tiu = { s.tiu with sweepPosition := q } ∧ (∀ b ∈ u.ac.lru, b = false) ∧
          u.pm.entries.length = s.pm.entries.length ∧ u.contexts.length = s.contexts.length ∧
          u.ac.ways.length = s.ac.ways.length ∧ u.ac.lru.length = s.ac.lru.length ∧
          (∀ i < s.pm.entries.length, u.pm.entries[i]? =
            if p ≤ i ∧ i < q then some { parity := true, pick := none } else s.pm.entries[i]?) ∧
          (∀ i < s.contexts.length, u.contexts[i]? =
            if p ≤ 256 + i ∧ 256 + i < q then some { parity := true, context := none } else s.contexts[i]?) ∧
          ∀ i < s.ac.ways.length, u.ac.ways[i]? =
            if p ≤ 352 + i ∧ 352 + i < q then some { parity := true, valid := false, tag := 0, fields := AtlasFields.zero }
            else s.ac.ways[i]?) ∧
      (s.lrc.run ≠ .sweeping → u.tiu = s.tiu ∧ u.ac.ways = s.ac.ways ∧ u.ac.lru = s.ac.lru ∧
        (∀ i, u.pickIntact i = s.pickIntact i ∧ u.contextIntact i = s.contextIntact i) ∧
        (∀ i, u.pickAt i = (s.pickAt i).map fun (p : Pick) =>
          { p with abandon := if running then less p.abandon else p.abandon }) ∧
        ∀ ci, u.contextAt ci = (s.contextAt ci).map fun (c : Context) => { c with
          claims := c.claims.map fun (k : Claim) => { k with linger := if running then less k.linger else k.linger }
          pin := c.pin.map fun (p : Pin) => { p with timer := if running then p.timer - 1 else p.timer } })

/-- A command whose operand an event can carry answers a next state, and its effect touches neither the queue of commands nor the
free values' counter; any other command is refused as ill formed (the model's choice, log 25); no command faults. -/
def Obligations.EveryWellFormedCommandAnswersANextState : Prop :=
  ∀ (c : Instr) (s : State),
    (c.wf = true → ∃ t, exec c s = .next t ∧ t.pending = s.pending ∧ t.freeIndex = s.freeIndex) ∧
      (c.wf = false → exec c s = .refused .illFormed)

/-- The machine right after power-on, for the items whose value the spec states; and the laws that the steps keep hold there. -/
def Obligations.ResetHoldsThePowerOnValues : Prop :=
  let s := State.reset
  s.Shape ∧ s.LaneLaw ∧ s.LostLaw ∧ s.JournalLaw ∧ s.IntakeLaw ∧ s.GenerationLaw ∧ s.ModuleLaw ∧ s.PickLaw ∧
    s.pending = [] ∧ s.lrc.run = .sweeping ∧ s.lrc.verdict = .unjudged ∧ s.lrc.actionRefused = false ∧
    (s.lrc.causePower, s.lrc.causeLink, s.lrc.causeSoft) = (true, false, false) ∧ s.lrc.exbaseLo = 0 ∧
    s.lrc.exbaseHi = 0 ∧ s.lrc.base = none ∧ s.lrc.notice = 0 ∧ s.lrc.mask = 0 ∧ s.lrc.clock = 0 ∧ s.lrc.setup = none ∧
    s.tiu.capture = Capture.empty ∧ s.tiu.sweepPosition = 0 ∧
    s.iu.queue = [] ∧ s.iu.fetched = 0 ∧ s.iu.posted = 0 ∧ s.iu.taken = 0 ∧ s.iu.qualifiers = QualifierSet.empty ∧
    s.iu.poll = .idle ∧ s.iu.fetch = .idle ∧ s.iu.consumed = false ∧ s.iu.promptOwed = false ∧
    s.pm.free = 256 ∧ (∀ e ∈ s.pm.entries, e.pick = none) ∧ s.pm.deferred = [] ∧ s.pm.fences = [] ∧
    (∀ l ∈ s.pm.lanes, l = Lane.off) ∧ (∀ e ∈ s.contexts, e.context = none) ∧
    (∀ w ∈ s.ac.ways, w.valid = false) ∧ (∀ b ∈ s.ac.lru, b = false) ∧ s.ac.lookahead = none ∧ s.ac.demand = .idle ∧
    s.ac.ahead = .idle ∧ s.jw.report = [] ∧ s.jw.spare = 16 ∧ s.jw.lost = 0 ∧ s.jw.sealed = 0 ∧ s.jw.released = 0 ∧
    s.jw.sealTimer = none ∧
    ∀ x ∈ s.strings, x.mode = .off ∧ x.feed = false ∧ x.items = none ∧ x.coldWalk = 0 ∧
      ∀ m ∈ x.modules, m = ModuleLink.fresh

/-! ### Actions -/

/-- An action, or an EXBASE write, in a run state where it is not legal, and an ACTION value outside 1..6, set the action-refused
flag and change nothing else. -/
def Obligations.IllegalActionsOnlySetActionRefused : Prop :=
  ∀ (s : State) (hi : Bool) (v : Word),
    let refused : State := { s with lrc := { s.lrc with actionRefused := true } }
    (s.lrc.run ≠ .unset → exec .start s = .next refused) ∧ (s.lrc.run ≠ .running → exec .halt s = .next refused) ∧
      (s.lrc.run ≠ .halted → exec .resume s = .next refused) ∧ (s.lrc.run ≠ .halted → exec .clear s = .next refused) ∧
      (s.lrc.run ≠ .running → s.lrc.run ≠ .halted → exec .prompt s = .next refused) ∧
      (s.lrc.run ≠ .unset → exec (.exbaseWrite hi v) s = .next refused) ∧
      ((v.toNat = 0 ∨ 6 < v.toNat) → exec (.actionOutOfRange v) s = .next refused)

/-- START in UNSET: STARTING, the base taken from the EXBASE words on a 4 KiB boundary, and the two reads of the START read
issued; nothing else changes. -/
def Obligations.StartTakesTheBaseAndIssuesItsReads : Prop :=
  (∀ hi lo : Word, (exchangeBase hi lo).toNat = (hi.toNat * 2 ^ 32 + lo.toNat) / 4096 * 4096) ∧
    ∀ s : State, s.lrc.run = .unset →
      let b := exchangeBase s.lrc.exbaseHi s.lrc.exbaseLo
      exec .start s = .next { s with
        lrc := { s.lrc with run := .starting, base := some b, startRead := some 0 }
        out := s.out ++ [.linkRead b 64, .linkRead (b + 0x100#64) 64] }

/-- The START checks, in order; a failed START records its verdict, returns to UNSET and raises SETUP, and no other block changes;
an ACCEPTED one keeps the setup copy, empties intake, cache and journal, turns the lanes OFF, writes the part line and runs; with
no context in use, as in every START that a run reaches, its report list is empty, no advisory entry is reserved and none counted
lost, so that 16 are spare. JOURNAL is judged there: clear in LEVEL, as it was in LATCH. The verdict is NONE after each reset and
CLEAR leaves it. That a failed START drops the base is the model's choice (log 31). -/
def Obligations.StartChecksDecideTheStart : Prop :=
  ∀ (s : State) (h b : List Byte), s.lrc.run = .starting → s.lrc.startRead.isSome = true → h.length = 64 → b.length = 64 →
    let c := fieldAt b 0 2
    let n := fieldAt b 2 2
    let r := fieldAt b 4 2
    let a := fieldAt b 6 2
    let sizes := c ∈ [64, 128, 256, 512, 1024, 2048, 4096] ∧ n ∈ [2, 4, 8, 16, 32, 64] ∧ r ∈ [8, 16, 32, 64]
    let atlas := a ≠ 0 ∧ a ≤ 1024
    let counters := fieldAt h 0 4 = 0 ∧ fieldAt h 4 4 = 0
    let failed (v : Verdict) : Prop :=
      ∃ t, exec (.startReadArrival h b) s = .next t ∧ t.lrc = { s.lrc with
          run := .unset, verdict := v, base := none, startRead := none, notice := s.lrc.notice ||| Notice.setup.bit } ∧
        t.iu = s.iu ∧ t.ac = s.ac ∧ t.pm = s.pm ∧ t.contexts = s.contexts ∧ t.strings = s.strings ∧ t.jw = s.jw ∧
        t.tiu = s.tiu
    (¬sizes → failed .sizes) ∧ (sizes → ¬atlas → failed .atlas) ∧ (sizes → atlas → ¬counters → failed .counters) ∧
      (sizes → atlas → counters →
        ∃ t more, exec (.startReadArrival h b) s = .next t ∧ t.lrc.run = .running ∧ t.lrc.verdict = .accepted ∧
          t.lrc.setup = some (setupCopy b) ∧ t.lrc.clock = 0 ∧ t.lrc.startRead = none ∧ t.lrc.mask = s.lrc.mask ∧
          t.iu = Intake.empty ∧ t.ac = Cache.empty true ∧ t.pm.lanes = List.replicate 6 Lane.off ∧
          t.pm.free = s.pm.free ∧ t.jw.sealed = 0 ∧ t.jw.released = 0 ∧ t.jw.written = 0 ∧ t.jw.sealTimer = none ∧
          ((∀ e ∈ s.contexts, e.context = none) →
            t.jw.report = [] ∧ t.jw.reserved = 0 ∧ t.jw.lost = 0 ∧ t.jw.spare = 16) ∧
          t.lrc.notice.getLsbD 0 = ((setupCopy b).latch && s.lrc.notice.getLsbD 0) ∧
          ∀ base, s.lrc.base = some base →
            t.out = s.out ++ .linkWrite (base + 0x40#64)
              (bytesLE 4 0 ++ bytesLE 4 0 ++ bytesLE 4 s.pm.free ++ bytesLE 4 0) :: more) ∧
      (∀ u t, exec .powerOn u = .next t → t.lrc.verdict = .unjudged) ∧
      (∀ u t, exec .reset u = .next t → t.lrc.verdict = .unjudged) ∧
      (∀ u t, exec .linkReset u = .next t → t.lrc.verdict = .unjudged) ∧
      (∀ u t, exec .clear u = .next t → t.lrc.verdict = u.lrc.verdict)

/-- What an ACCEPTED START keeps and brings up. The setup copy: an in-range value kept, an out-of-range one brought to the nearer
end, the rotation period rounded down to a multiple of 100 first; the quiet code read as 25, 50, 100 or 200 ms; a string enabled
exactly when its mask bit is set and its ceiling lies in 1..120. The strings: a disabled one is shut down; an enabled one settles
if its feed was off; if it was on, any exchange is abandoned, an ALL-DARK is on the line at once or due behind what is due and on
it, and the string surveys from address 1; an asserted feed fault is taken at once. What becomes of broadcasts still due is the
model's choice (log 17). -/
def Obligations.AcceptedStartBringsTheStringsUp : Prop :=
  (∀ b : List Byte,
    let u := setupCopy b
    let brought (lo hi v kept : Nat) : Prop := (v < lo → kept = lo) ∧ (lo ≤ v → v ≤ hi → kept = v) ∧ (hi < v → kept = hi)
    u.capacity = fieldAt b 0 2 ∧ u.blocks = fieldAt b 2 2 ∧ u.records = fieldAt b 4 2 ∧ u.atlasSize = fieldAt b 6 2 ∧
      (1 ≤ u.blocks → brought 1 u.blocks (fieldAt b 8 2) u.threshold) ∧
      u.latch = (byteAt b 0x0A).getLsbD 0 ∧ u.stray = (byteAt b 0x0B).getLsbD 0 ∧
      brought 5 250 (fieldAt b 0x0C 2) u.sealDelay ∧ brought 1 20 (fieldAt b 0x0E 2) u.brisk ∧
      brought 20 500 (fieldAt b 0x10 2) u.idle ∧ brought 3 30 (fieldAt b 0x12 1) u.pinTimeout ∧
      brought 200 2000 (fieldAt b 0x14 2 / 100 * 100) u.rotation ∧ u.rotation % 100 = 0 ∧
      u.strings.length = 4 ∧
      ∀ n < 4,
        (u.string n).ceiling = (byteAt b (0x18 + n)).toNat ∧
          (u.string n).dormancy = (byteAt b 0x16).getLsbD n ∧
          (u.string n).quietMs = [25, 50, 100, 200].getD ((byteAt b 0x17).toNat / 4 ^ n % 4) 0 ∧
          ((u.string n).enabled = true ↔
            (byteAt b 0x13).getLsbD n = true ∧ 1 ≤ (u.string n).ceiling ∧ (u.string n).ceiling ≤ 120)) ∧
  ∀ (s : State) (h b : List Byte), s.lrc.run = .starting → s.lrc.startRead.isSome = true → h.length = 64 → b.length = 64 →
    startVerdict h b = .accepted → s.strings.length = 4 →
    ∃ t, exec (.startReadArrival h b) s = .next t ∧ ∀ n < 4,
      let u := setupCopy b
      let x := s.stringAt n
      let y := t.stringAt n
      y.items = some (u.items n) ∧ y.coldWalk = 0 ∧
        ((u.string n).enabled = false → y.mode = .off ∧ y.feed = false ∧ y.line = .idle ∧ y.due = []) ∧
        ((u.string n).enabled = true → x.feedFaultInput = false →
          y.feed = true ∧ y.purpose = some .start ∧ y.modules = List.replicate 120 ModuleLink.fresh ∧
            (x.feed = false → y.mode = .settling ∧ y.modeTimer = some 800 ∧ y.line = .idle ∧ y.due = []) ∧
            (x.feed = true → y.mode = .surveying ∧ y.sweep = some Sweep.first ∧
              x.abandoned.Sends y [.allDark])) ∧
        ((u.string n).enabled = true → x.feedFaultInput = true → y.feed = false ∧ y.mode = .feedFault)

/-- The tables' laws are kept by every command: no two contexts name one module or one slot; the reference of each pick-table
entry that is not FREE stands in exactly one collection, that of its state, and the FREE count is that of the FREE entries. -/
def Obligations.CommandsKeepTheTableLaws : Prop :=
  ∀ (c : Instr) (s t : State), exec c s = .next t → (s.ModuleLaw → t.ModuleLaw) ∧ (s.PickLaw → t.PickLaw)

/-! ### Run states -/

/-- HALT in RUNNING (tables intact): HALTED, no context keeps a pin, every desired set is paused, and the open block is sealed
when it holds a record; intake and cache stand; PAUSE falls due on every string in SURVEYING, ACTIVE, QUIET or DORMANT, and on no
other: an idle line of one in OFF, SETTLING, TEST or FEED-FAULT stays idle. That a placement pass follows the pins that end is the
model's choice (log 22). -/
def Obligations.HaltPausesTheRun : Prop :=
  ∀ (s : State) (u : Setup), s.Intact → s.lrc.run = .running → s.lrc.setup = some u →
    ∃ t, exec .halt s = .next t ∧
      t.lrc = { s.lrc with run := .halted, notice := t.lrc.notice } ∧ t.iu = s.iu ∧ t.ac = s.ac ∧ t.tiu = s.tiu ∧
      t.pm.lanes = s.pm.lanes ∧
      (∀ e ∈ t.contexts, ∀ c, e.context = some c → c.pin = none ∧ c.desired.paused = true) ∧
      t.jw.written = 0 ∧ t.jw.released = s.jw.released ∧ t.jw.lost = s.jw.lost ∧
      t.jw.sealed = (if s.jw.written = 0 then s.jw.sealed else s.jw.sealed + 1) ∧
      (0 < s.jw.written → t.jw.sealTimer = none) ∧
      ∀ n < 4, (s.stringAt n).Sends (t.stringAt n)
          (if (s.stringAt n).mode ∈ [.surveying, .active, .quiet, .dormant] then [.pause] else []) ∧
        ((s.stringAt n).mode ∈ [.off, .settling, .test, .feedFault] → (s.stringAt n).StaysIdle (t.stringAt n))

/-- RESUME in HALTED (tables intact): RUNNING, every desired set unpaused, a held poll issued, a held record fetch released and a
fetch started where R126 allows one, no atlas fetch left held, GO due on every string in SURVEYING, ACTIVE, QUIET or DORMANT and
on no other: an idle line of one in OFF, SETTLING, TEST or FEED-FAULT stays idle. No record is consumed in this step: a
consumption is a command of its own (log 2). -/
def Obligations.ResumeRunsAgain : Prop :=
  ∀ s : State, s.Intact → s.lrc.run = .halted →
    ∃ t, exec .resume s = .next t ∧ t.lrc = { s.lrc with run := .running, notice := t.lrc.notice } ∧
      (∀ e ∈ t.contexts, ∀ c, e.context = some c → c.desired.paused = false) ∧ t.pm = s.pm ∧
      t.iu.queue = s.iu.queue ∧ t.iu.taken = s.iu.taken ∧ t.iu.posted = s.iu.posted ∧
      t.iu.qualifiers = s.iu.qualifiers ∧
      (∀ k, s.iu.poll = .held k → t.iu.poll = .underWay 0 0) ∧
      (∀ k a, s.iu.poll = .idle ∨ s.iu.poll = .underWay k a → t.iu.poll = s.iu.poll) ∧
      (∀ k, t.iu.fetch ≠ .held k) ∧ (∀ k, t.ac.demand ≠ .held k) ∧ (∀ k, t.ac.ahead ≠ .held k) ∧
      (∀ k a, s.iu.fetch = .underWay k a → t.iu.fetch = s.iu.fetch ∧ t.iu.fetched = s.iu.fetched) ∧
      (∀ u, s.lrc.setup = some u → (∀ k a, s.iu.fetch ≠ .underWay k a) →
        let n := min (8 - s.iu.queue.length)
          (min (s.iu.posted - s.iu.fetched).toNat (u.capacity - s.iu.fetched.toNat % u.capacity))
        if s.iu.queue.length < 8 ∧ s.iu.posted ≠ s.iu.fetched then
          t.iu.fetch = .underWay n 0 ∧ t.iu.fetched = s.iu.fetched + BitVec.ofNat 32 n
        else t.iu.fetch = .idle ∧ t.iu.fetched = s.iu.fetched) ∧
      t.jw.sealed = s.jw.sealed ∧ t.jw.written = s.jw.written ∧ t.jw.released = s.jw.released ∧
      t.jw.sealTimer = s.jw.sealTimer ∧
      ∀ n < 4, (s.stringAt n).Sends (t.stringAt n)
          (if (s.stringAt n).mode ∈ [.surveying, .active, .quiet, .dormant] then [.go] else []) ∧
        ((s.stringAt n).mode ∈ [.off, .settling, .test, .feedFault] → (s.stringAt n).StaysIdle (t.stringAt n))

/-- CLEAR in HALTED: UNSET, the work of the run and the setup copy gone, every read under way voided; the notices, the mask, the
EXBASE words, the verdict, the reset causes, the aisle clock and the fault capture stand, and each feed stays as it was. ALL-DARK
falls due on every string in SURVEYING, ACTIVE, QUIET, DORMANT or TEST, and on no other, where an idle line stays idle; a string
in ACTIVE or TEST enters QUIET with no report. When the modes change is the model's choice (log 16). -/
def Obligations.ClearDiscardsTheRun : Prop :=
  ∀ s : State, s.lrc.run = .halted →
    ∃ t, exec .clear s = .next t ∧
      t.lrc = { s.lrc with
        run := .unset, base := none, setup := none, startRead := none, voided := s.lrc.voided ++ s.readsUnderWay } ∧
      t.iu = Intake.empty ∧ t.ac = Cache.empty true ∧ t.pm = PickManager.empty true ∧
      t.contexts = emptyContexts true ∧ t.jw = Journal.empty ∧ t.tiu = s.tiu ∧
      (∀ n < 4, (t.stringAt n).feed = (s.stringAt n).feed ∧ (t.stringAt n).items = (s.stringAt n).items ∧
        (t.stringAt n).modules = (s.stringAt n).modules ∧
        (s.stringAt n).Sends (t.stringAt n)
          (if (s.stringAt n).mode ∈ [.surveying, .active, .quiet, .dormant, .test] then [.allDark] else []) ∧
        ((s.stringAt n).mode ∈ [.off, .settling, .feedFault] → (s.stringAt n).StaysIdle (t.stringAt n)) ∧
        ((s.stringAt n).mode ∈ [.active, .test] → (t.stringAt n).mode = .quiet))

/-- The three resets: power-on makes every block as State.reset has it (the input pins stand at their levels, and what the part
had put out stays on record: the model's choice, log 29); a link reset and a software reset set the LRC's own words by the table
of R169, discard every block, void every read, start the sweep anew, and take every string to OFF with its feed as it was. A
string with its feed on that is not SETTLING abandons its exchange and sends ALL-DARK, and no other sends anything. When the modes
change is the model's choice too (log 16), and so is what becomes of its items and its cold-walk position (log 41). -/
def Obligations.ResetsReturnToSweeping : Prop :=
  (∀ s : State, exec .powerOn s = .next { State.reset with
    pending := s.pending, out := s.out, freeIndex := s.freeIndex, strings := s.strings.map StringCtl.powered }) ∧
  ∀ (s : State) (soft : Bool), s.strings.length = 4 →
    ∃ t, exec (if soft then .reset else .linkReset) s = .next t ∧
      t.lrc = { RunControl.powerOn with
        causePower := s.lrc.causePower
        causeLink := s.lrc.causeLink || !soft
        causeSoft := s.lrc.causeSoft || soft
        voided := s.lrc.voided ++ s.readsUnderWay } ∧
      t.tiu = { capture := Capture.empty, sweepPosition := 0 } ∧ t.iu = Intake.empty ∧ t.ac = Cache.empty false ∧
      t.pm = PickManager.empty false ∧ t.contexts = emptyContexts false ∧ t.jw = Journal.empty ∧
      ∀ n < 4, (t.stringAt n).mode = .off ∧ (t.stringAt n).feed = (s.stringAt n).feed ∧
        (t.stringAt n).modules = List.replicate 120 ModuleLink.fresh ∧
        (if (s.stringAt n).feed = true ∧ (s.stringAt n).mode ≠ .settling then
          StringCtl.Sends { (s.stringAt n).abandoned with due := [] } (t.stringAt n) [.allDark]
        else (t.stringAt n).due = [] ∧ (t.stringAt n).line = (s.stringAt n).abandoned.line)

/-- SWEEP_DONE in SWEEPING with the sweep at entry 479: the last cache way is written and the run state becomes UNSET; with the
other entries swept every entry is empty and passes its check; at any other moment the event cannot arise and nothing changes (the
model's choice, log 1). -/
def Obligations.SweepDoneLeavesTheTablesEmpty : Prop :=
  ∀ s : State,
    (s.lrc.run = .sweeping → s.tiu.sweepPosition = 479 → s.Shape →
      (∀ e ∈ s.pm.entries, e = { parity := true, pick := none }) →
      (∀ e ∈ s.contexts, e = { parity := true, context := none }) →
      (∀ i < 127, s.wayAt i = { Way.unswept with parity := true }) →
      ∃ t, exec .sweepDone s = .next t ∧ t.lrc = { s.lrc with run := .unset } ∧ t.Intact ∧
        (∀ e ∈ t.pm.entries, e.pick = none) ∧ (∀ e ∈ t.contexts, e.context = none) ∧
        (∀ w ∈ t.ac.ways, w.valid = false) ∧ (∀ b ∈ t.ac.lru, b = false) ∧ t.iu = s.iu ∧ t.jw = s.jw ∧
        t.strings = s.strings) ∧
      (s.lrc.run ≠ .sweeping ∨ s.tiu.sweepPosition ≠ 479 → exec .sweepDone s = .next s)

/-- PROMPT in RUNNING and HALTED issues a poll, whose read goes out ahead of any part line (the model's choice, log 26), and the
owed poll: set while a poll is under way, issued at its arrival, forgotten when the poll fails or is voided; a poll restarts the
cadence at its arrival; a held poll is issued at RESUME. -/
def Obligations.PromptIssuesOrOwesOnePoll : Prop :=
  ∀ s : State, s.inRun = true →
    (s.iu.poll = .idle → ∃ t, exec .prompt s = .next t ∧ t.iu.poll = .underWay 0 0 ∧
      ∀ b, s.lrc.base = some b → ∃ more, t.out = s.out ++ .linkRead b 64 :: more) ∧
      (∀ k a, s.iu.poll = .underWay k a → exec .prompt s = .next { s with iu := { s.iu with promptOwed := true } }) ∧
      (∀ k, s.iu.poll = .held k → exec .prompt s = .next s) ∧
      (∀ k a h u, s.iu.poll = .underWay k a → s.lrc.setup = some u → h.length = 64 →
        ∃ t, exec (.headerPollArrival h) s = .next t ∧ t.iu.promptOwed = false ∧ t.iu.lastPoll = s.lrc.clock ∧
          t.iu.poll = (if s.iu.promptOwed then .underWay 0 0 else .idle)) ∧
      (∀ k a, s.iu.poll = .underWay k a →
        ∃ t, exec (.linkReadError .headerPoll) s = .next t ∧ t.iu.promptOwed = false ∧ t.iu.poll = .held k) ∧
      (∃ t, exec .reset s = .next t ∧ t.iu.promptOwed = false ∧ t.iu.poll = .idle) ∧
      (s.lrc.run = .halted → ∃ t, exec .clear s = .next t ∧ t.iu.promptOwed = false ∧ t.iu.poll = .idle) ∧
      (∀ k, s.lrc.run = .halted → s.iu.poll = .held k →
        ∃ t, exec .resume s = .next t ∧ t.iu.poll = .underWay 0 0)

/-! ### Registers and notices -/

/-- The register writes that are taken, but for ACTION and NOTICE-MASK, whole: EXBASE in UNSET, with the low 12 bits of EXBASE-LO
dropped; FAULT-WHERE; the writes without behaviour; a read of STATE returns the word and then clears its four flags; a write of
NOTICE clears each flag written 1 with its causes, but JOURNAL in LEVEL mode. The window's words show their fields. -/
def Obligations.RegisterAccessesDoWhatTheTableSays : Prop :=
  (∀ s : State,
    (s.readWord 0x00 = s.lrc.exbaseLo ∧ s.readWord 0x04 = s.lrc.exbaseHi ∧ s.readWord 0x08 = 0 ∧
      s.readWord 0x1C = s.tiu.capture.clock) ∧
      (s.readWord 0x0C).toNat % 16 = s.lrc.run.code ∧ (s.readWord 0x0C).toNat / 16 % 16 = s.lrc.verdict.code ∧
      (s.readWord 0x0C).getLsbD 8 = s.lrc.actionRefused ∧ (s.readWord 0x0C).getLsbD 12 = s.lrc.causePower ∧
      (s.readWord 0x0C).getLsbD 13 = s.lrc.causeLink ∧ (s.readWord 0x0C).getLsbD 14 = s.lrc.causeSoft ∧
      (s.readWord 0x10).setWidth 6 = s.lrc.notice ∧ (s.readWord 0x10).getLsbD 8 = s.lrc.causePost ∧
      (s.readWord 0x10).getLsbD 9 = s.lrc.causeRelease ∧ (s.readWord 0x14).setWidth 6 = s.lrc.mask ∧
      (s.readWord 0x18).toNat % 256 = s.tiu.capture.table.code ∧
      (s.tiu.capture.index < 256 → (s.readWord 0x18).toNat / 256 % 256 = s.tiu.capture.index) ∧
      (s.readWord 0x18).getLsbD 16 = s.tiu.capture.further ∧ (s.readWord 0x18).getLsbD 17 = s.tiu.capture.frozen) ∧
  ∀ (s : State) (v : Word),
    (s.lrc.run = .unset → exec (.exbaseWrite true v) s = .next { s with lrc := { s.lrc with exbaseHi := v } }) ∧
      (s.lrc.run = .unset →
        exec (.exbaseWrite false v) s = .next { s with lrc := { s.lrc with exbaseLo := v &&& 0xFFFFF000#32 } }) ∧
      exec (.faultWhereWrite v) s = .next { s with tiu := { s.tiu with capture := Capture.empty } } ∧
      exec (.registerWriteIgnored 0x0C v) s = .next s ∧ exec (.registerWriteIgnored 0x1C v) s = .next s ∧
      (v.toNat % 64 = 0 → exec (.registerWriteIgnored 0x10 v) s = .next s) ∧
      exec .stateRead s = .next { s with
        out := s.out ++ [.registerRead 0x0C s.stateWord]
        lrc := { s.lrc with actionRefused := false, causePower := false, causeLink := false, causeSoft := false } } ∧
      ∃ t, exec (.noticeWrite v) s = .next t ∧
        t = { s with lrc := { s.lrc with notice := t.lrc.notice, causePost := t.lrc.causePost,
                                         causeRelease := t.lrc.causeRelease } } ∧
        (∀ i, 1 ≤ i → i < 6 → t.lrc.notice.getLsbD i = (s.lrc.notice.getLsbD i && !v.getLsbD i)) ∧
        (s.journalLevel = true → t.lrc.notice.getLsbD 0 = s.lrc.notice.getLsbD 0) ∧
        (s.journalLevel = false → t.lrc.notice.getLsbD 0 = (s.lrc.notice.getLsbD 0 && !v.getLsbD 0)) ∧
        t.lrc.causePost = (s.lrc.causePost && !v.getLsbD 1) ∧ t.lrc.causeRelease = (s.lrc.causeRelease && !v.getLsbD 1)

/-- One interrupt message is sent exactly when the set of flags both pending and enabled goes from empty to non-empty: by a raise,
by a mask write, by any change of both; a clear sends none; a mask write and a raise that fall together send one in either
order. -/
def Obligations.MessageIsSentWhenTheEnabledSetFills : Prop :=
  ∀ (s : State) (n : Notice) (v : Word) (mask : BitVec 6),
    let fills (a b : BitVec 6) : List Output := if a = 0 ∧ b ≠ 0 then [.message] else []
    let old := s.lrc.notice &&& s.lrc.mask
    ((s.raise n).lrc = { s.lrc with notice := s.lrc.notice ||| n.bit } ∧
      (s.raise n).out = s.out ++ fills old ((s.lrc.notice ||| n.bit) &&& s.lrc.mask)) ∧
      (∀ flags, (s.setNotices flags mask).lrc = { s.lrc with notice := flags, mask := mask } ∧
        (s.setNotices flags mask).out = s.out ++ fills old (flags &&& mask)) ∧
      (∀ post release, (post || release) = true → (s.raiseExchange post release).out =
        s.out ++ fills old ((s.lrc.notice ||| Notice.exchange.bit) &&& s.lrc.mask)) ∧
      (∃ t, exec (.noticeMaskWrite v) s = .next t ∧ t.lrc = { s.lrc with mask := v.setWidth 6 } ∧
        t.out = s.out ++ fills old (s.lrc.notice &&& v.setWidth 6)) ∧
      (∃ t, exec (.noticeWrite v) s = .next t ∧ t.out = s.out) ∧
      (mask &&& n.bit ≠ 0 → old = 0 → s.lrc.notice &&& mask = 0 → s.lrc.mask &&& n.bit = 0 →
        ((s.raise n).setNotices (s.raise n).lrc.notice mask).out = s.out ++ [.message] ∧
          ((s.setNotices s.lrc.notice mask).raise n).out = s.out ++ [.message])

/-- A parity error reported while the capture is not frozen is captured and raises FAULT; while it is frozen it sets further-fault
and raises nothing; a write to FAULT-WHERE clears the capture, and CLEAR leaves it. -/
def Obligations.FirstFaultIsCaptured : Prop :=
  ∀ (s : State) (table : FaultTable) (index : Nat) (v : Word),
    (s.tiu.capture.frozen = false →
      (s.reportFault table index).tiu = { s.tiu with
        capture := { table := table, index := index, clock := s.lrc.clock, frozen := true, further := false } } ∧
      (s.reportFault table index).lrc = { s.lrc with notice := s.lrc.notice ||| Notice.fault.bit }) ∧
    (s.tiu.capture.frozen = true →
      s.reportFault table index =
        { s with tiu := { s.tiu with capture := { s.tiu.capture with further := true } } }) ∧
    exec (.faultWhereWrite v) s = .next { s with tiu := { s.tiu with capture := Capture.empty } } ∧
    (∀ t, exec .clear s = .next t → t.tiu = s.tiu) ∧ (∀ t, exec .reset s = .next t → t.tiu.capture = Capture.empty) ∧
    (∀ t, exec .linkReset s = .next t → t.tiu.capture = Capture.empty) ∧
    ∀ t, exec .powerOn s = .next t → t.tiu.capture = Capture.empty

/-- The frame of the register accesses: every block but run control and the fault capture, and within run control the run state,
the verdict, the base, the setup copy, the aisle clock and the reads, stand. -/
def Obligations.RegisterAccessesLeaveTheBlocksAlone : Prop :=
  ∀ (c : Instr) (s t : State),
    (∃ v, c = .actionOutOfRange v) ∨ (∃ h v, c = .exbaseWrite h v) ∨ (∃ v, c = .noticeWrite v) ∨
      (∃ v, c = .noticeMaskWrite v) ∨ (∃ v, c = .faultWhereWrite v) ∨ c = .stateRead ∨
      (∃ o v, c = .registerWriteIgnored o v) →
    exec c s = .next t →
    t.iu = s.iu ∧ t.ac = s.ac ∧ t.pm = s.pm ∧ t.contexts = s.contexts ∧ t.strings = s.strings ∧ t.jw = s.jw ∧
      t.tiu.sweepPosition = s.tiu.sweepPosition ∧ t.lrc.run = s.lrc.run ∧ t.lrc.verdict = s.lrc.verdict ∧
      t.lrc.base = s.lrc.base ∧ t.lrc.setup = s.lrc.setup ∧ t.lrc.clock = s.lrc.clock ∧
      t.lrc.startRead = s.lrc.startRead ∧ t.lrc.voided = s.lrc.voided ∧
      ((∀ v, c ≠ .faultWhereWrite v) → t.tiu = s.tiu) ∧ ((∀ h v, c ≠ .exbaseWrite h v) →
        t.lrc.exbaseLo = s.lrc.exbaseLo ∧ t.lrc.exbaseHi = s.lrc.exbaseHi) ∧
      ((∀ v, c ≠ .noticeMaskWrite v) → t.lrc.mask = s.lrc.mask) ∧
      ((∀ v, c ≠ .noticeWrite v) → t.lrc.notice = s.lrc.notice ∧ t.lrc.causePost = s.lrc.causePost ∧
        t.lrc.causeRelease = s.lrc.causeRelease)

/-! ### Link reads -/

/-- A read that fails: the START read ends the START with verdict LINK; any other is held by its owner and raises LINK, and on a
RUNNING part it then has HALT's effects on every block, those of the HALT action on the state so left. A completion missing for
less than 50 ms is no failure; the failure of a voided read raises nothing. That a failed START drops the base (log 31), and that
a timeout of a read that is not under way changes nothing (log 1), are the model's choices. -/
def Obligations.FailedReadsAreHeldAndHaltThePart : Prop :=
  ∀ (s : State) (what age place : Nat), s.Intact →
    let linked (t : State) : Prop := t.lrc.notice &&& Notice.link.bit ≠ 0 ∧
      t.lrc.run = (if s.lrc.run = .running then .halted else s.lrc.run) ∧ t.lrc.verdict = s.lrc.verdict
    let halts (r : ReadRef) (held : State) : Prop :=
      (s.lrc.run = .running → exec (.linkReadError r) s = exec .halt (held.raise .link)) ∧
        (s.lrc.run ≠ .running → exec (.linkReadError r) s = .next (held.raise .link))
    (s.iu.poll = .underWay what age →
      halts .headerPoll { s with iu := { s.iu with poll := .held what, promptOwed := false } } ∧
      ∃ t, exec (.linkReadError .headerPoll) s = .next t ∧ linked t ∧ t.iu = { s.iu with poll := .held what, promptOwed := false }) ∧
    (s.iu.fetch = .underWay what age →
      halts .recordFetch { s with
        iu := { s.iu with fetch := .held what, fetched := s.iu.fetched - BitVec.ofNat 32 what } } ∧
      ∃ t, exec (.linkReadError .recordFetch) s = .next t ∧ linked t ∧
        t.iu = { s.iu with fetch := .held what, fetched := s.iu.fetched - BitVec.ofNat 32 what }) ∧
    (s.ac.demand = .underWay what age →
      halts .atlasDemand { s with ac := { s.ac with demand := .held what } } ∧
      ∃ t, exec (.linkReadError .atlasDemand) s = .next t ∧ linked t ∧ t.ac = { s.ac with demand := .held what } ∧ t.iu = s.iu) ∧
    (s.ac.ahead = .underWay what age →
      halts .atlasLookahead { s with ac := { s.ac with ahead := .held what } } ∧
      ∃ t, exec (.linkReadError .atlasLookahead) s = .next t ∧ linked t ∧ t.ac = { s.ac with ahead := .held what } ∧
        t.iu = s.iu) ∧
    (s.lrc.startRead = some age →
      ∃ t, exec (.linkReadError .startRead) s = .next t ∧ t.lrc = { s.lrc with
        run := .unset, verdict := .link, base := none, startRead := none, notice := s.lrc.notice ||| Notice.setup.bit }) ∧
    exec (.linkReadError (.voided place)) s =
      .next { s with lrc := { s.lrc with voided := s.lrc.voided.eraseIdx place } } ∧
    ∀ r : ReadRef,
      (∀ n, s.ageOf r = some n → 50 ≤ n → exec (.linkReadTimeout r) s = exec (.linkReadError r) s) ∧
        (∀ n, s.ageOf r = some n → n < 50 → exec (.linkReadTimeout r) s = .next s) ∧
        (s.ageOf r = none → exec (.linkReadTimeout r) s = .next s) ∧
        exec (.linkReadTimeout (.voided place)) s = .next s

/-- The arrival of a voided read: its data is discarded; the tables, the strings, the journal and the intake queue stand; the
arrival of an atlas fetch lets a lookahead be looked for. -/
def Obligations.VoidedReadsAreDiscardedOnArrival : Prop :=
  ∀ (s : State) (place : Nat), s.Intact → s.Shape →
    ∃ t, exec (.voidedReadArrival place) s = .next t ∧
      t.lrc = { s.lrc with voided := s.lrc.voided.eraseIdx place } ∧ t.iu = s.iu ∧ t.pm = s.pm ∧
      t.contexts = s.contexts ∧ t.strings = s.strings ∧ t.jw = s.jw ∧ t.tiu = s.tiu ∧ t.ac.ways = s.ac.ways ∧
      t.ac.lookahead = s.ac.lookahead ∧ t.ac.demand = s.ac.demand ∧
      (t.ac.ahead = s.ac.ahead ∨
        s.lrc.run = .running ∧ s.ac.ahead = .idle ∧ ∃ slot, t.ac.ahead = .underWay slot 0) ∧
      ((s.lrc.voided[place]? ≠ some .demand ∧ s.lrc.voided[place]? ≠ some .lookahead) → t.ac = s.ac ∧ t.out = s.out)

/-- The cadence: a header poll is issued in RUNNING and HALTED when none is under way or held and the period in force has passed
since the last arrival; the period is the brisk one in RUNNING while a pick is in the table, new records lie within 500 ms, or no
block is free, and else the idle one. The read goes out ahead of the part line of the interval it ends (the model's choice, log
26), and at any other moment the command changes nothing (the model's choice, log 1). -/
def Obligations.HeaderPollsFollowTheCadence : Prop :=
  ∀ (s : State) (u : Setup), s.lrc.setup = some u →
    let since := (s.lrc.clock - s.iu.lastPoll).toNat
    let recent := ∃ m, s.iu.lastNew = some m ∧ (s.lrc.clock - m).toNat ≤ 500
    let full := u.blocks ≤ (s.jw.sealed - s.jw.released).toNat
    let brisk := s.lrc.run = .running ∧ (s.pm.free < 256 ∨ recent ∨ full)
    let issues : Prop := ∃ t, exec .headerPollIssue s = .next t ∧
      t.iu = { s.iu with poll := .underWay 0 0, consumed := false } ∧ t.lrc = s.lrc ∧ t.jw = s.jw ∧ t.pm = s.pm ∧
      ∀ b, s.lrc.base = some b → t.out = s.out ++ .linkRead b 64 ::
        (if s.iu.consumed then [.linkWrite (b + 0x40#64) s.partLineBytes] else [])
    (s.inRun = true → s.iu.poll = .idle → brisk → u.brisk ≤ since → issues) ∧
      (s.inRun = true → s.iu.poll = .idle → ¬brisk → u.idle ≤ since → issues) ∧
      (brisk → since < u.brisk → exec .headerPollIssue s = .next s) ∧
      (¬brisk → since < u.idle → exec .headerPollIssue s = .next s) ∧
      (s.inRun = false ∨ s.iu.poll ≠ .idle → exec .headerPollIssue s = .next s)

/-- The host's counts at a header poll. POSTED: the post fault, the retreat, and the value taken; RELEASED: the release fault, and
the value taken; EXCHANGE with its cause on each fault; the clock of the last new records when POSTED advances; JOURNAL judged
afresh in LEVEL mode. -/
def Obligations.CountsAreJudgedAtEachPoll : Prop :=
  ∀ (s : State) (u : Setup) (h : List Byte) (k a : Nat), s.lrc.setup = some u → s.inRun = true →
    s.iu.poll = .underWay k a → h.length = 64 →
    let p : Count := BitVec.ofNat 32 (fieldAt h 0 4)
    let q : Count := BitVec.ofNat 32 (fieldAt h 4 4)
    let ahead := u.capacity < (p - s.iu.taken).toNat
    let retreat := (p - s.iu.taken).toNat < (s.iu.fetched - s.iu.taken).toNat
    let fault := (s.jw.sealed - s.jw.released).toNat < (q - s.jw.released).toNat
    let advances (new : Count) := (s.iu.posted - s.iu.taken).toNat < (new - s.iu.taken).toNat
    ∃ t, exec (.headerPollArrival h) s = .next t ∧ t.iu.lastPoll = s.lrc.clock ∧ t.iu.taken = s.iu.taken ∧
      t.iu.queue = s.iu.queue ∧
      t.iu.lastNew = (if advances t.iu.posted then some s.lrc.clock else s.iu.lastNew) ∧
      (ahead → t.iu.posted = s.iu.taken + BitVec.ofNat 32 u.capacity ∧ t.lrc.causePost = true ∧
        t.lrc.notice &&& Notice.exchange.bit ≠ 0) ∧
      (¬ahead → retreat → t.iu.posted = s.iu.fetched ∧ t.lrc.causePost = true ∧ t.lrc.notice &&& Notice.exchange.bit ≠ 0) ∧
      (¬ahead → ¬retreat → t.iu.posted = p ∧ t.lrc.causePost = s.lrc.causePost) ∧
      t.jw = { s.jw with released := t.jw.released } ∧
      (fault → t.jw.released = s.jw.sealed ∧ t.lrc.causeRelease = true ∧ t.lrc.notice &&& Notice.exchange.bit ≠ 0) ∧
      (¬fault → t.jw.released = q ∧ t.lrc.causeRelease = s.lrc.causeRelease) ∧
      (u.latch = false →
        (t.lrc.notice.getLsbD 0 = true ↔ u.threshold ≤ (t.jw.sealed - t.jw.released).toNat)) ∧
      (u.latch = true → t.lrc.notice.getLsbD 0 = s.lrc.notice.getLsbD 0)

/-- A record fetch starts only in RUNNING with none under way or held, room in the queue and records posted; it reads the least of
the room, the records posted and the records left before the wrap, at their place in the stream, and the fetched count advances.
On its arrival (tables intact) its records are appended in stream order, as they were read, and no table changes. None is consumed
in this step: a consumption is a command of its own (log 2); the next fetch starts at once when the head has to wait (a PICK for
its atlas fetch, under way or started now, or for an entry), and is left to the consumption of a head that need not, which goes
ahead of it (log 47). -/
def Obligations.RecordsAreFetchedIntoTheQueue : Prop :=
  (∀ (s : State) (u : Setup) (b : Addr), s.lrc.setup = some u → s.lrc.base = some b →
    let starts := s.lrc.run = .running ∧ s.iu.fetch = .idle ∧ s.iu.queue.length < 8 ∧
      1 ≤ (s.iu.posted - s.iu.fetched).toNat
    let n := min (8 - s.iu.queue.length)
      (min (s.iu.posted - s.iu.fetched).toNat (u.capacity - s.iu.fetched.toNat % u.capacity))
    (starts → s.startRecordFetch = { s with
      iu := { s.iu with fetch := .underWay n 0, fetched := s.iu.fetched + BitVec.ofNat 32 n }
      out := s.out ++ [.linkRead (b + BitVec.ofNat 64 (0x5000 + s.iu.fetched.toNat % u.capacity * 32)) (32 * n)] }) ∧
      (¬starts → s.startRecordFetch = s)) ∧
  ∀ (s : State) (data : List Byte) (n age : Nat), s.Intact → s.inRun = true → s.iu.fetch = .underWay n age →
    data.length = 32 * n → 1 ≤ n → n ≤ 8 →
    ∃ t, exec (.recordFetchArrival data) s = .next t ∧
      t.iu.queue = s.iu.queue ++ (List.range n).map (fun k => taskRecord ((data.drop (32 * k)).take 32)) ∧
      t.iu.taken = s.iu.taken ∧ t.iu.posted = s.iu.posted ∧ t.iu.qualifiers = s.iu.qualifiers ∧
      (s.lrc.run = .halted → t.iu.fetch = .idle ∧ t.iu.fetched = s.iu.fetched) ∧
      (∀ (u : Setup) (r : TaskRecord), s.lrc.setup = some u → s.lrc.run = .running → t.iu.queue.head? = some r →
        let directive := r.task ≠ .pick ∧ r.task ≠ .qualifier
        let room := 0 < s.jw.spare ∧ (r.task = .fence → s.pm.fences.length < 4)
        let fetching := s.ac.demand ≠ .idle ∨ s.iu.onLookahead = true
        let misses := s.iu.queue = [] ∧ s.needsFields r.slot.toNat = true ∧ s.wayOf r.slot.toNat = none ∧
          ∀ x, s.ac.lookahead = some x → x.slot ≠ r.slot.toNat
        let full := ∀ i < 256, s.pickAt i ≠ none
        let ready := (r.task = .qualifier ∧ 2 ≤ t.iu.queue.length) ∨ (directive ∧ room) ∨
          (s.Shape ∧ r.task = .pick ∧ ¬fetching ∧ ¬misses ∧ ¬full)
        let waits := (r.task = .qualifier ∧ t.iu.queue.length < 2) ∨ (directive ∧ ¬room) ∨
          (r.task = .pick ∧ (fetching ∨ misses ∨ full))
        let k := min (8 - t.iu.queue.length)
          (min (s.iu.posted - s.iu.fetched).toNat (u.capacity - s.iu.fetched.toNat % u.capacity))
        (ready → t.iu.fetch = .idle ∧ t.iu.fetched = s.iu.fetched) ∧
          (s.Shape → waits → t.iu.queue.length < 8 → s.iu.posted ≠ s.iu.fetched →
            t.iu.fetch = .underWay k 0 ∧ t.iu.fetched = s.iu.fetched + BitVec.ofNat 32 k)) ∧
      t.pm = s.pm ∧ t.contexts = s.contexts ∧ t.strings = s.strings ∧ t.jw = s.jw ∧
      t.lrc = { s.lrc with notice := t.lrc.notice }

/-! ### The atlas -/

/-- An atlas entry as the part decodes it: bits 7..2 of bytes 0 and 1 and the bytes from offset 4 on are ignored, address and
limit are whole bytes; and a slot resolves exactly when it is usable, its address lies in 1..120 and within its enabled string's
ceiling, and its limit in 0..9. -/
def Obligations.AtlasEntriesAreDecodedAndResolved : Prop :=
  ∀ (b0 b1 b2 b3 : Byte) (rest : List Byte) (u : Setup),
    let f := atlasEntry (b0 :: b1 :: b2 :: b3 :: rest)
    f = { usable := b0.getLsbD 0, string := b1.toNat % 4, address := b2.toNat, limit := b3.toNat, solo := b0.getLsbD 1 } ∧
      (f.resolves u = true ↔
        f.usable = true ∧ 1 ≤ f.address ∧ f.address ≤ 120 ∧ f.limit ≤ 9 ∧ (u.string f.string).enabled = true ∧
          f.address ≤ (u.string f.string).ceiling)

/-- A head lookup on ways with good parity: a hit in a way hands over its fields and makes the LRU bit name the other way; a hit
in the lookahead moves it into the way the LRU bit names; a miss changes nothing. A way that fails its check on a read is
invalidated, the LRU bit of its set names it, and the error is captured with table ATLAS and the way's number. -/
def Obligations.HeadLookupFindsTheFields : Prop :=
  (∀ (s : State) (slot : Nat), s.Shape → (∀ w ∈ s.ac.ways, w.parity = true) → slot < 1024 →
    let set := slot % 64
    let holds (i : Nat) : Prop := (s.wayAt i).valid = true ∧ (s.wayAt i).tag = slot / 64
    (holds (2 * set) →
      s.lookup slot = ({ s with ac := { s.ac with lru := s.ac.lru.set set true } }, some (s.wayAt (2 * set)).fields)) ∧
      (¬holds (2 * set) → holds (2 * set + 1) →
        s.lookup slot =
          ({ s with ac := { s.ac with lru := s.ac.lru.set set false } }, some (s.wayAt (2 * set + 1)).fields)) ∧
      (¬holds (2 * set) → ¬holds (2 * set + 1) → ∀ x, s.ac.lookahead = some x → x.slot = slot →
        s.lookup slot = ({ s with ac := { s.ac with
          ways := s.ac.ways.set (2 * set + (if s.lruOf set then 1 else 0))
            { parity := true, valid := true, tag := slot / 64, fields := x.fields }
          lru := s.ac.lru.set set (!s.lruOf set)
          lookahead := none } }, some x.fields)) ∧
      (¬holds (2 * set) → ¬holds (2 * set + 1) → (∀ x, s.ac.lookahead = some x → x.slot ≠ slot) →
        s.lookup slot = (s, none))) ∧
  ∀ (s : State) (i : Nat), s.Shape → i < 128 → (s.wayAt i).parity = false →
    ((s.checkWay i).wayAt i).valid = false ∧ ((s.checkWay i).wayAt i).parity = true ∧
      (s.checkWay i).lruOf (i / 2) = (i % 2 == 1) ∧
      (s.tiu.capture.frozen = false → (s.checkWay i).tiu.capture.table = .atlas ∧ (s.checkWay i).tiu.capture.index = i) ∧
      (∀ j, j ≠ i → (s.checkWay i).wayAt j = s.wayAt j) ∧ (s.checkWay i).pm = s.pm ∧ (s.checkWay i).contexts = s.contexts

/-- The arrivals of atlas fetches (tables intact). Demand: the fields go into the way the LRU bit names, where the new offer of a
head that still needs them finds them, and the LRU bit names the other way, also when the head's slot has gained a context
meanwhile. Lookahead: the lookahead entry takes the fields and the slot; a head that waited on it is looked up again, which moves
them into a way; else the ways are not touched. No record is consumed in this step: a consumption is a command of its own (log
2). -/
def Obligations.AtlasFetchesBringTheFields : Prop :=
  (∀ (s : State) (r : TaskRecord) (entry : List Byte) (age : Nat), s.Shape → s.Intact → s.HeadIs r .pick →
    s.ac.demand = .underWay r.slot.toNat age → s.iu.onLookahead = false → r.slot.toNat < 1024 → entry.length = 16 →
    s.wayOf r.slot.toNat = none →
    ∃ t, exec (.atlasDemandArrival entry) s = .next t ∧ t.ac.demand = .idle ∧
      t.wayAt (s.lruWay (r.slot.toNat % 64)) =
        { parity := true, valid := true, tag := r.slot.toNat / 64, fields := atlasEntry entry } ∧
      (∀ i, i ≠ s.lruWay (r.slot.toNat % 64) → t.wayAt i = s.wayAt i) ∧
      t.lruOf (r.slot.toNat % 64) = (!s.lruOf (r.slot.toNat % 64)) ∧ t.iu = s.iu ∧ t.pm = s.pm ∧
      t.contexts = s.contexts ∧ t.strings = s.strings ∧ t.jw = s.jw) ∧
  ∀ (s : State) (entry : List Byte) (slot age : Nat), s.Shape → s.Intact → s.inRun = true →
    s.ac.ahead = .underWay slot age → entry.length = 16 → slot < 1024 →
    (s.iu.onLookahead = false →
      ∃ t, exec (.atlasLookaheadArrival entry) s = .next t ∧
        t.ac.lookahead = some { slot := slot, fields := atlasEntry entry } ∧ t.ac.ways = s.ac.ways ∧
        t.ac.lru = s.ac.lru ∧ t.ac.demand = s.ac.demand ∧ t.iu = s.iu ∧ t.pm = s.pm ∧ t.contexts = s.contexts) ∧
      (∀ r, s.iu.onLookahead = true → s.HeadIs r .pick → r.slot.toNat = slot → s.ac.demand = .idle →
        s.needsFields slot = true → s.wayOf slot = none →
        ∃ t, exec (.atlasLookaheadArrival entry) s = .next t ∧ t.iu.onLookahead = false ∧ t.ac.lookahead = none ∧
          t.wayAt (s.lruWay (slot % 64)) =
            { parity := true, valid := true, tag := slot / 64, fields := atlasEntry entry } ∧
          t.lruOf (slot % 64) = (!s.lruOf (slot % 64)) ∧ t.pm = s.pm ∧ t.contexts = s.contexts)

/-- The frame of the arrivals of reads in a run (tables intact): the pick table, the contexts, the strings and the records written
stand; no record is consumed, for a consumption is a command of its own (log 2). -/
def Obligations.ReadArrivalsLeaveTheTablesAlone : Prop :=
  ∀ (c : Instr) (s t : State), s.Intact → s.inRun = true →
    (∃ h, c = .headerPollArrival h) ∨ (∃ d, c = .recordFetchArrival d) ∨ (∃ e, c = .atlasDemandArrival e) ∨
      (∃ e, c = .atlasLookaheadArrival e) ∨ (∃ p, c = .voidedReadArrival p) ∨ c = .headerPollIssue →
    exec c s = .next t →
    t.pm = s.pm ∧ t.contexts = s.contexts ∧ t.strings = s.strings ∧ t.iu.taken = s.iu.taken ∧
      t.iu.qualifiers = s.iu.qualifiers ∧ t.jw = { s.jw with released := t.jw.released } ∧
      t.lrc.run = s.lrc.run ∧ t.lrc.setup = s.lrc.setup ∧ t.lrc.base = s.lrc.base ∧ t.lrc.clock = s.lrc.clock ∧
      t.lrc.verdict = s.lrc.verdict ∧ t.lrc.mask = s.lrc.mask ∧ t.lrc.exbaseLo = s.lrc.exbaseLo ∧
      t.lrc.exbaseHi = s.lrc.exbaseHi

/-! ### Consumption: picks and qualifiers -/

/-- A PICK at the head that needs no atlas fields (its slot has a context, or lies at or above A) is consumed into the
lowest-numbered FREE entry, refused by the first check that fails, or accepted: it joins or opens a claim of the context, or is
deferred with the context's atlas copy; while no entry is FREE it waits at the head. -/
def Obligations.PickIsConsumedIntoTheLowestFreeEntry : Prop :=
  ∀ (s : State) (r : TaskRecord), s.Intact → s.Shape → s.HeadIs r .pick → s.headWaits = false →
    s.needsFields r.slot.toNat = false →
    (∀ i, i < 256 → s.pickAt i = none → (∀ j < i, s.pickAt j ≠ none) →
      ∃ t, exec .pick s = .next t ∧ s.PickTaken t i r none) ∧
      ((∀ i < 256, s.pickAt i ≠ none) →
        ∃ t, exec .pick s = .next t ∧ t.iu = s.iu ∧ t.pm = s.pm ∧ t.ac = s.ac ∧ t.lrc = s.lrc)

/-- A PICK at the head that needs its atlas fields: with the fields in a way or in the lookahead it is consumed on them, and
accepted it opens a context in the lowest-numbered free entry or, with none free, is deferred, in both cases with those fields;
without them it waits for the lookahead fetch of its slot when that is under way, and else a demand fetch of the 16-byte entry
starts; while it waits for a fetch, PICK changes nothing. -/
def Obligations.PickWaitsForItsAtlasFields : Prop :=
  ∀ (s : State) (r : TaskRecord), s.Intact → s.Shape → s.HeadIs r .pick → s.needsFields r.slot.toNat = true →
    let slot := r.slot.toNat
    (∀ i w, s.headWaits = false → i < 256 → s.pickAt i = none → (∀ j < i, s.pickAt j ≠ none) → s.wayOf slot = some w →
      ∃ t, exec .pick s = .next t ∧ s.PickTaken t i r (some (s.wayAt w).fields)) ∧
      (∀ i x, s.headWaits = false → i < 256 → s.pickAt i = none → (∀ j < i, s.pickAt j ≠ none) → s.wayOf slot = none →
        s.ac.lookahead = some x → x.slot = slot →
        ∃ t, exec .pick s = .next t ∧ s.PickTaken t i r (some x.fields)) ∧
      (s.headWaits = false → s.wayOf slot = none → (∀ x, s.ac.lookahead = some x → x.slot ≠ slot) →
        ∃ t, exec .pick s = .next t ∧ t.iu.queue = s.iu.queue ∧ t.iu.taken = s.iu.taken ∧ t.pm = s.pm ∧
          t.iu.onLookahead = s.ac.ahead.reads slot ∧
          (s.ac.ahead.reads slot = true → t.ac = s.ac) ∧
          (s.ac.ahead.reads slot = false → t.ac = { s.ac with demand := .underWay slot 0 } ∧
            ∀ b, s.lrc.base = some b →
              ∃ more, t.out = s.out ++ .linkRead (b + BitVec.ofNat 64 (0x1000 + 16 * slot)) 16 :: more)) ∧
      (s.headWaits = true → exec .pick s = .next s)

/-- The checks on a PICK: of the two on its qualifiers, the overrun and then the bad qualifier; and of the acceptance checks 1 to
6, the first that fails. -/
def Obligations.PickChecksDecideInOrder : Prop :=
  ∀ (s : State) (r : TaskRecord) (lane : Nat) (f : AtlasFields) (u : Setup) (q : QualifierSet),
    s.lrc.setup = some u →
    (q.count = 5 → q.fault = some .qualifierOverrun) ∧
      (q.count ≠ 5 → (q.badCode = true ∨ ∃ l, q.lane = some l ∧ (l = 0 ∨ 6 < l)) → q.fault = some .badQualifier) ∧
      (q.count ≠ 5 → q.badCode = false → (∀ l, q.lane = some l → 1 ≤ l ∧ l ≤ 6) → q.fault = none) ∧
      (let qty := 1 ≤ r.quantity.toNat ∧ r.quantity.toNat ≤ 999
       let laneOpen := 1 ≤ lane ∧ lane ≤ 6 ∧ (s.lane lane).colour ≠ none
       let slotBelow := r.slot.toNat < u.atlasSize
       let tagFree := ∀ e ∈ s.pm.entries, ∀ p, e.pick = some p → p.tag ≠ r.tag
       let held := (s.contextOfSlot r.slot.toNat).isSome = true
       let module := (s.contextOfModule f.string f.address).isSome = true
       (∀ x, (¬qty → s.acceptance r lane x = some .badQty) ∧
         (qty → ¬laneOpen → s.acceptance r lane x = some .laneOff) ∧
         (qty → laneOpen → ¬slotBelow → s.acceptance r lane x = some .badSlot) ∧
         (qty → laneOpen → slotBelow → ¬tagFree → s.acceptance r lane x = some .duplicateTag) ∧
         (qty → laneOpen → slotBelow → tagFree → held → s.acceptance r lane x = none)) ∧
         (qty → laneOpen → slotBelow → tagFree → ¬held → f.resolves u = false →
           s.acceptance r lane (some f) = some .slotUnusable) ∧
         (qty → laneOpen → slotBelow → tagFree → ¬held → f.resolves u = true → module →
           s.acceptance r lane (some f) = some .moduleShared) ∧
         (qty → laneOpen → slotBelow → tagFree → ¬held → f.resolves u = true → ¬module →
           s.acceptance r lane (some f) = none))

/-- A QUALIFIER at the head is consumed only while a record stands behind it; its count rises to at most 5 and its code acts on
the pending set; with nothing behind it, it waits. -/
def Obligations.QualifierIsGathered : Prop :=
  ∀ (s : State) (r : TaskRecord), s.Intact → s.HeadIs r .qualifier →
    let q := s.iu.qualifiers
    let n := min 5 (q.count + 1)
    (2 ≤ s.iu.queue.length →
      ∃ t, exec .qualifier s = .next t ∧ s.Took t ∧ t.pm = s.pm ∧
        (r.qualifier = 1 → t.iu.qualifiers = { q with count := n, urgent := true }) ∧
        (r.qualifier = 2 → t.iu.qualifiers = { q with count := n, quiet := true }) ∧
        (r.qualifier = 3 → t.iu.qualifiers = { q with count := n, lane := some r.lane.toNat }) ∧
        (r.qualifier ≠ 1 → r.qualifier ≠ 2 → r.qualifier ≠ 3 →
          t.iu.qualifiers = { q with count := n, badCode := true })) ∧
      (s.iu.queue.length < 2 → exec .qualifier s = .next s)

/-! ### Consumption: directives -/

/-- A directive of any kind waits while the advisory queue has no spare entry, and a FENCE also while the fence list holds 4
fences: nothing changes then but that a record fetch starts where one is allowed, the one that an arrival has left to the
consumption (log 47). Without such a record at the head nothing changes (log 1). A DIRECTIVE-REFUSED carries the directive's own
fields; a record of unknown kind is consumed and refused UNKNOWN-KIND with it; a SKIP is consumed and nothing joins the report
list, no DIRECTIVE-REFUSED among others, but the closing advisory of a string whose survey ends as its line is taken up; neither
touches the pick table, the lanes, the fences or the pending set. -/
def Obligations.DirectivesWaitPassOrAreRefused : Prop :=
  (∀ (s : State) (c : Instr) (k : TaskKind),
    (c, k) ∈ [(Instr.cancel, TaskKind.cancel), (.amend, .amend), (.laneSetup, .laneSetup), (.atlasDrop, .atlasDrop),
      (.fence, .fence), (.lightTest, .lightTest), (.census, .census), (.skip, .skip), (.unknownKind, .unknown)] →
    (∀ r, s.HeadIs r k → s.jw.spare = 0 ∨ (k = .fence ∧ 4 ≤ s.pm.fences.length) → exec c s = .next s.startRecordFetch) ∧
      ((∀ r, ¬s.HeadIs r k) → exec c s = .next s)) ∧
  ∀ (s : State) (r : TaskRecord), s.Intact → 0 < s.jw.spare →
    (∀ cause, s.refusal r cause =
      { kind := .directiveRefused, cause := cause, lane := r.lane, adjusted := false, urgent := false, quiet := false
        suspectTag := false, overdueReported := false, tag := r.tag, slot := r.slot, requested := r.quantity
        confirmed := 0, bundleSize := 1, bundlePosition := 1, intakeSequence := s.iu.taken
        timeAccepted := s.lrc.clock, timeClosed := s.lrc.clock }) ∧
      (s.HeadIs r .unknown → ∃ t, exec .unknownKind s = .next t ∧ s.Took t ∧
        s.Reported t [.advisory (s.refusal r .unknownKind)] ∧ t.pm = s.pm ∧ t.iu.qualifiers = s.iu.qualifiers) ∧
      (s.HeadIs r .skip → ∃ t more, exec .skip s = .next t ∧ s.Took t ∧ t.jw.report = s.jw.report ++ more ∧
        (∀ x ∈ more, ∃ rec, x = .advisory rec ∧ (rec.kind = .testDone ∨ rec.kind = .censusDone)) ∧
        t.jw.lost = s.jw.lost ∧ t.pm = s.pm ∧ t.iu.qualifiers = s.iu.qualifiers)

/-- A tag finds the accepted pick that holds it, live or REPORTING; else REPORTING when only REFUSED entries hold it; else
nothing. A CANCEL by what it finds: refused NOT-FOUND or TOO-LATE, or accepted: the pick, DEFERRED or in a bundle, is REPORTING as
CANCELLED with the bundle's size and its place in it, its timer is gone, and it is on the report list; it leaves its bundle, whose
claim keeps the other picks with their sum or, emptied, leaves its context; a context left with no claim is freed when it may be,
and else drains (said here with no pick deferred, whose placement pass has a statement of its own). -/
def Obligations.CancelTakesThePickItFinds : Prop :=
  (∀ (s : State) (tag : Word),
    let holds (i : Nat) (p : Pick) : Prop := s.pickAt i = some p ∧ p.tag = tag
    (∀ i p, s.findTag tag = .live i p → holds i p ∧ ∀ o, p.stage ≠ .reporting o) ∧
      (s.findTag tag = .notFound ↔ ∀ i p, ¬holds i p) ∧
      (∀ i p, holds i p → (∀ o, p.stage ≠ .reporting o) →
        (∀ j q, holds j q → q.accepted = true → j = i) → s.findTag tag = .live i p) ∧
      ((∃ i p, holds i p) → (∀ i p, holds i p → ∃ o, p.stage = .reporting o) → s.findTag tag = .reporting)) ∧
  ∀ (s : State) (r : TaskRecord), s.Intact → 0 < s.jw.spare → s.HeadIs r .cancel →
    let cancelled (i size position : Nat) (p : Pick) : Prop :=
      ∃ t, exec .cancel s = .next t ∧ s.Took t ∧ s.ReportedFirst t [.pick i] ∧ t.pm.free = s.pm.free ∧
        t.pickAt i = some { p with
          abandon := none
          stage := .reporting { kind := .cancelled, cause := .none, confirmed := 0, timeClosed := s.lrc.clock
                                bundleSize := size, bundlePosition := position, adjusted := false, suspectTag := false } }
    (s.findTag r.tag = .notFound → ∃ t, exec .cancel s = .next t ∧ s.Took t ∧ t.pm = s.pm ∧
      s.Reported t [.advisory (s.refusal r .notFound)]) ∧
      (s.findTag r.tag = .reporting → ∃ t, exec .cancel s = .next t ∧ s.Took t ∧ t.pm = s.pm ∧
        s.Reported t [.advisory (s.refusal r .tooLate)]) ∧
      (∀ i p atlas, s.findTag r.tag = .live i p → p.stage = .deferred atlas → cancelled i 1 1 p) ∧
      (∀ i p ci k, s.findTag r.tag = .live i p → p.stage = .placed → s.holder i = some (ci, k) →
        cancelled i k.bundle.length (k.bundle.idxOf i + 1) p) ∧
      (∀ i p ci k c, s.findTag r.tag = .live i p → p.stage = .placed → s.holder i = some (ci, k) →
        s.contextAt ci = some c → s.pm.deferred = [] →
        let rest := k.bundle.filter fun j => j != i
        let d := if rest = [] then c.removeClaim s.pm.lanes s.paused k.serial
          else c.correct s.pm.lanes s.paused k.serial rest ((rest.map s.requestedOf).sum)
        ∃ t, exec .cancel s = .next t ∧ (s.freeable d = true → t.contextAt ci = none) ∧
          (s.freeable d = false → ∃ x, t.contextAt ci = some { d with pending := x }))

/-- An AMEND by its checks in order; accepted, the pick's requested quantity is the new one and its tag, timer, overdue flag and
time accepted stand; a bundle keeps its picks and takes the new sum (a lowered one too while no pick is deferred; else its
placement pass may join further picks to the bundle). -/
def Obligations.AmendChangesTheRequestedQuantity : Prop :=
  ∀ (s : State) (r : TaskRecord), s.Intact → 0 < s.jw.spare → s.HeadIs r .amend →
    let n := r.quantity.toNat
    let inRange := 1 ≤ n ∧ n ≤ 999
    let refused (cause : Cause) : Prop := ∃ t, exec .amend s = .next t ∧ s.Took t ∧ t.pm = s.pm ∧
      s.Reported t [.advisory (s.refusal r cause)]
    let amended (i : Nat) (p : Pick) (more : State → Prop) : Prop := ∃ t, exec .amend s = .next t ∧ s.Took t ∧
      t.pickAt i = some { p with requested := n } ∧ t.pm.free = s.pm.free ∧ t.pm.lanes = s.pm.lanes ∧ more t
    let summed (ci : Nat) (k : Claim) (sum : Nat) (t : State) : Prop := ∃ c, t.contextAt ci = some c ∧
      ∀ j ∈ c.claims, j.serial = k.serial → j.sum = sum ∧ j.bundle = k.bundle
    (¬inRange → refused .badArgument) ∧ (inRange → s.findTag r.tag = .notFound → refused .notFound) ∧
      (inRange → s.findTag r.tag = .reporting → refused .tooLate) ∧
      (∀ i p atlas, inRange → s.findTag r.tag = .live i p → p.stage = .deferred atlas → s.holder i = none →
        amended i p fun t => t.pm.deferred = s.pm.deferred) ∧
      (∀ i p ci k, inRange → s.findTag r.tag = .live i p → p.stage = .placed → s.holder i = some (ci, k) →
        (999 < s.sumWith k.bundle i n → refused .overCapacity) ∧ (s.sumWith k.bundle i n ≤ 999 →
          amended i p fun t => p.requested ≤ n ∨ s.pm.deferred = [] → summed ci k (s.sumWith k.bundle i n) t))

/-- A LANE-SETUP by its checks in order; accepted, the lane takes the target state with its colour, and the two times. -/
def Obligations.LaneSetupIsCheckedInOrder : Prop :=
  ∀ (s : State) (r : TaskRecord), s.Intact → s.pm.lanes.length = 6 → 0 < s.jw.spare → s.HeadIs r .laneSetup →
    let l := r.lane.toNat
    let target := r.arg1.toNat % 256
    let colour := r.arg1.toNat / 256 % 256
    let linger := r.arg1.toNat / 65536 % 256
    let abandon := r.arg1.toNat / 16777216
    let bad := l = 0 ∨ 6 < l ∨ 1 < target ∨ (target = 1 ∧ (colour = 0 ∨ 7 < colour)) ∨ 120 < linger ∨ 60 < abandon
    let live := ∃ e ∈ s.pm.entries, ∃ p, e.pick = some p ∧ p.lane = l ∧ ∀ o, p.stage ≠ .reporting o
    let busy := live ∧ (target = 0 ∨ (target = 1 ∧ (s.lane l).colour ≠ some colour))
    let lane : Lane := { colour := if target = 1 then some colour else none, linger := linger, abandon := abandon }
    let taken := target = 1 ∧ ∃ m, 1 ≤ m ∧ m ≤ 6 ∧ m ≠ l ∧ (s.lane m).colour = some colour
    let refused (cause : Cause) : Prop := ∃ t, exec .laneSetup s = .next t ∧ s.Took t ∧ t.pm = s.pm ∧
      s.Reported t [.advisory (s.refusal r cause)]
    (bad → refused .badArgument) ∧ (¬bad → busy → refused .laneBusy) ∧ (¬bad → ¬busy → taken → refused .colourTaken) ∧
      (¬bad → ¬busy → ¬taken → ∃ t, exec .laneSetup s = .next t ∧ s.Took t ∧
        t.pm = { s.pm with lanes := s.pm.lanes.set (l - 1) lane })

/-- An ATLAS-DROP: refused BAD-ARGUMENT on its range; accepted, every valid way that holds a slot of the range is invalid and
every other way as it was, the LRU bit of a set names the way invalidated, way 1 when both are, and else stands (a PICK that
becomes the head is looked up behind it); the lookahead entry is invalid, and a lookahead fetch under way is voided. -/
def Obligations.AtlasDropEmptiesItsRange : Prop :=
  ∀ (s : State) (r : TaskRecord), s.Intact → s.Shape → 0 < s.jw.spare → s.HeadIs r .atlasDrop →
    let first := r.slot.toNat
    let count := r.quantity.toNat
    let bad := 1024 ≤ first ∨ count = 0 ∨ 1024 < count
    let dropped (i : Nat) : Prop :=
      (s.wayAt i).valid = true ∧ first ≤ (s.wayAt i).tag * 64 + i / 2 ∧ (s.wayAt i).tag * 64 + i / 2 < first + count
    let named (k : Nat) : Bool := if dropped (2 * k + 1) then true else if dropped (2 * k) then false else s.lruOf k
    (bad → ∃ t, exec .atlasDrop s = .next t ∧ s.Took t ∧ t.pm = s.pm ∧
      s.Reported t [.advisory (s.refusal r .badArgument)]) ∧
      (¬bad → (∀ k < 64, (s.dropAtlas first count).lruOf k = named k) ∧
        ∃ t, exec .atlasDrop s = .next t ∧ s.Took t ∧ t.pm = s.pm ∧ t.ac.lookahead = none ∧
        (∀ i < 128, t.wayAt i = (if dropped i then { (s.wayAt i) with valid := false } else s.wayAt i)) ∧
        (∀ k < 64, (∀ next, s.iu.queue.tail.head? = some next → next.task = .pick → next.slot.toNat % 64 ≠ k) →
          t.lruOf k = named k) ∧
        (∀ slot age, s.ac.ahead = .underWay slot age → t.lrc.voided = s.lrc.voided ++ [.lookahead] ∧
          (t.ac.ahead = .idle ∨ ∃ slot', t.ac.ahead = .underWay slot' 0)) ∧
        ((∀ slot age, s.ac.ahead ≠ .underWay slot age) → t.lrc.voided = s.lrc.voided))

/-- An accepted FENCE joins the list with its id, its record's number and the moment, and is judged at once: with no fence and no
pick ahead of it in the table it is reached in its own consumption; while a pick is ahead it waits on the list, an advisory entry
reserved for it. Whenever the list is judged, the reached fences at its front leave it in order, each with its FENCE-REACHED, and
the first fence left is not reached. Which picks are ahead of a fence is read from R146 (log 23). -/
def Obligations.FencesAreReachedInOrder : Prop :=
  (∀ (s : State) (r : TaskRecord), s.Intact → 0 < s.jw.spare → s.pm.fences.length < 4 → s.HeadIs r .fence →
    let f : Fence := { id := r.arg1, intakeSequence := s.iu.taken, timeAccepted := s.lrc.clock }
    let ahead (g : Fence) : Prop := ∃ e ∈ s.pm.entries, ∃ p, e.pick = some p ∧
      0 < (g.intakeSequence - p.intakeSequence).toNat ∧ (g.intakeSequence - p.intakeSequence).toNat < 2 ^ 31
    ((s.pm.fences = [] ∧ ¬ahead f) → ∃ t, exec .fence s = .next t ∧ s.Took t ∧ t.pm = s.pm ∧
      s.Reported t [.advisory (s.fenceRecord f)]) ∧
      ((s.pm.fences = [] ∧ ahead f) → ∃ t, exec .fence s = .next t ∧ s.Took t ∧ t.pm = { s.pm with fences := [f] } ∧
        s.Reserved t) ∧
      (∀ g gs, s.pm.fences = g :: gs → ahead g → ∃ t, exec .fence s = .next t ∧ s.Took t ∧
        t.pm = { s.pm with fences := s.pm.fences ++ [f] } ∧ s.Reserved t)) ∧
  ∀ s : State, (∀ e ∈ s.pm.entries, e.parity = true) → ∃ k ≤ s.pm.fences.length,
    s.judgeFences.pm = { s.pm with fences := s.pm.fences.drop k } ∧
      s.judgeFences.jw.report = s.jw.report ++ (s.pm.fences.take k).map (fun f => .advisory (s.fenceRecord f)) ∧
      s.judgeFences.jw.reserved = s.jw.reserved - k ∧
      (∀ f ∈ s.pm.fences.take k, s.fenceReached f = true) ∧
      (∀ f, s.judgeFences.pm.fences.head? = some f → s.fenceReached f = false) ∧
      ∀ f, s.fenceRecord f =
        { kind := .fenceReached, cause := .none, lane := 0, adjusted := false, urgent := false, quiet := false
          suspectTag := false, overdueReported := false, tag := f.id, slot := 1024, requested := 0, confirmed := 0
          bundleSize := 1, bundlePosition := 1, intakeSequence := f.intakeSequence, timeAccepted := f.timeAccepted
          timeClosed := s.lrc.clock }

/-- LIGHT-TEST and CENSUS by their checks in order; an accepted one reserves an advisory entry for its closing advisory. An
accepted LIGHT-TEST puts the string in TEST, with the TEST broadcast and its seconds on the line or due behind what the line
carries. An accepted CENSUS in QUIET or DORMANT puts it in SURVEYING; in FEED-FAULT the feed comes on and it settles for 800 ms,
and a feed fault still asserted is taken at once. -/
def Obligations.LightTestsAndCensusesAreJudgedAndStarted : Prop :=
  (∀ (s : State) (r : TaskRecord), s.Intact → s.Shape → 0 < s.jw.spare → s.HeadIs r .lightTest →
    let n := r.arg1.toNat % 256
    let seconds := r.arg1.toNat / 256 % 256
    let bad := 3 < n ∨ seconds = 0 ∨ 60 < seconds
    let off := ∀ u, s.lrc.setup = some u → (u.string n).enabled = false
    let idle := (s.modeOf n = .quiet ∨ s.modeOf n = .dormant) ∧ s.anyHot n = false
    let refused (cause : Cause) : Prop := ∃ t, exec .lightTest s = .next t ∧ s.Took t ∧ t.pm = s.pm ∧
      s.Reported t [.advisory (s.refusal r cause)]
    (bad → refused .badArgument) ∧ (¬bad → off → refused .stringOff) ∧ (¬bad → ¬off → ¬idle → refused .stringBusy) ∧
      (¬bad → ¬off → idle → ∃ t, exec .lightTest s = .next t ∧ s.Took t ∧ t.pm = s.pm ∧ s.Reserved t ∧
        (t.stringAt n).mode = .test ∧ (t.stringAt n).purpose = some .test ∧ (t.stringAt n).sweep = none ∧
        ((s.stringAt n).line = .idle → (s.stringAt n).due = [] → (t.stringAt n).line = .broadcast (.test seconds) 1) ∧
        ((s.stringAt n).line ≠ .idle → (t.stringAt n).due = (s.stringAt n).due ++ [.test seconds]))) ∧
  ∀ (s : State) (r : TaskRecord), s.Intact → s.Shape → 0 < s.jw.spare → s.HeadIs r .census →
    let n := r.arg1.toNat % 256
    let off := ∀ u, s.lrc.setup = some u → (u.string n).enabled = false
    let quiet := (s.modeOf n = .quiet ∨ s.modeOf n = .dormant) ∧ s.anyHot n = false
    let tripped := s.modeOf n = .feedFault ∧ s.anyHot n = false
    let refused (cause : Cause) : Prop := ∃ t, exec .census s = .next t ∧ s.Took t ∧ t.pm = s.pm ∧
      s.Reported t [.advisory (s.refusal r cause)]
    (3 < n → refused .badArgument) ∧ (n ≤ 3 → off → refused .stringOff) ∧
      (n ≤ 3 → ¬off → ¬quiet → ¬tripped → refused .stringBusy) ∧
      (n ≤ 3 → ¬off → quiet → ∃ t, exec .census s = .next t ∧ s.Took t ∧ t.pm = s.pm ∧ s.Reserved t ∧
        (t.stringAt n).mode = .surveying ∧ (t.stringAt n).purpose = some .census ∧
        (t.stringAt n).sweep = some Sweep.first) ∧
      (n ≤ 3 → ¬off → tripped → (s.stringAt n).feedFaultInput = false →
        ∃ t, exec .census s = .next t ∧ s.Took t ∧ t.pm = s.pm ∧ s.Reserved t ∧ (t.stringAt n).mode = .settling ∧
          (t.stringAt n).feed = true ∧ (t.stringAt n).purpose = some .census ∧ (t.stringAt n).modeTimer = some 800) ∧
      (n ≤ 3 → ¬off → tripped → (s.stringAt n).feedFaultInput = true →
        ∃ t, exec .census s = .next t ∧ s.Took t ∧ s.Reserved t ∧ (t.stringAt n).mode = .feedFault ∧
          (t.stringAt n).feed = false ∧
          t.lrc.notice &&& Notice.string.bit ≠ 0)

/-- The frame of the consumptions: run control but for NOTICE and the voided reads, the journal's counts and its open block,
POSTED, and the lanes but for LANE-SETUP. -/
def Obligations.ConsumptionsLeaveTheJournalCountsAlone : Prop :=
  ∀ (c : Instr) (s t : State),
    c ∈ [Instr.pick, .qualifier, .cancel, .amend, .laneSetup, .atlasDrop, .fence, .lightTest, .census, .skip, .unknownKind] →
    exec c s = .next t →
    t.lrc = { s.lrc with notice := t.lrc.notice, voided := t.lrc.voided } ∧ t.jw.sealed = s.jw.sealed ∧
      t.jw.released = s.jw.released ∧ t.jw.written = s.jw.written ∧ t.jw.sealTimer = s.jw.sealTimer ∧
      t.iu.posted = s.iu.posted ∧ (c ≠ .laneSetup → t.pm.lanes = s.pm.lanes) ∧
      (c ≠ .atlasDrop → t.lrc.voided = s.lrc.voided) ∧ (c ≠ .pick → c ≠ .qualifier → t.iu.qualifiers = s.iu.qualifiers) ∧
      (s.Took t ∨ t.iu.queue = s.iu.queue ∧ t.iu.taken = s.iu.taken)

/-! ### String events -/

/-- A module's events are accepted when the last accepted sequence is absent, and else when the sequence lies 1 to 4 places after
it; each accepted event moves it; every other is discarded as a repeat. A valid reply (tables intact): its events move the last
accepted sequence, boot noted becomes the fresh flag, the presence entry PRESENT, the miss count 0, and no other address of the
string is touched. The display report makes the pending set of a module's context the displayed one, empties that at a reboot, or
leaves it, and does nothing to the claims; a DRAINING context that is dark then is freed. Of v, the state once the presses are
attributed, and w, once the display report is given: one MODULE-BACK follows where the module was LOST, with REBOOT or RETURNED,
or PRESENT with a context in v and rebooted, then one PRESS-OVERFLOW where the reply flags it, each with the module's slot in w
(log 18), or 1024; only in RUNNING and HALTED. Darkening falls due at a cold address by a reboot or the generation, at a hot one
by a generation other than 0 without the fresh flag where the displayed set in w is of generation 0. After the reply of a survey
or an attention sweep its next exchange is a dark FACES where darkening is due, else the next address, and the modules that
answered a POLL with no lamp fault are counted. That an answered dark FACES clears darkening due before the reply sets it, and
that a survey darkens by what was due before its reply too, are the model's choices (log 19, log 42). -/
def Obligations.RepliesUpdateTheModule : Prop :=
  ((∀ (last : Option Nat) (es : List PressEvent),
    (judgeEvents true last es).1 = es ∧
      (judgeEvents true last es).2 = ((es.getLast?.map PressEvent.sequence).or last)) ∧
    (∀ (k : Nat) (e : PressEvent) (es : List PressEvent), k < 16 → e.sequence < 16 →
      ((e.sequence + 16 - k) % 16 ∈ [1, 2, 3, 4] →
        judgeEvents false (some k) (e :: es) =
          (e :: (judgeEvents false (some e.sequence) es).1, (judgeEvents false (some e.sequence) es).2)) ∧
        ((e.sequence + 16 - k) % 16 ∉ [1, 2, 3, 4] →
          judgeEvents false (some k) (e :: es) = judgeEvents false (some k) es)) ∧
    ∀ (k : Nat) (es : List PressEvent),
      ((judgeEvents false (some k) es).1).Sublist es ∧
        (judgeEvents false (some k) es).2 =
          some (((judgeEvents false (some k) es).1.getLast?.map PressEvent.sequence).getD k)) ∧
  ∀ (s : State) (n : Fin 4) (frame : List Byte) (a : Nat) (kind : ExchangeKind) (sweep : Bool) (r : Reply),
    s.Intact → s.Shape → (s.stringAt n).line = .exchange a kind sweep 0 → 1 ≤ a → a ≤ 120 →
    decodeReply a frame = some r →
    let m := s.link n a
    let reboot := r.fresh && !m.bootNoted
    let before := if reboot then none else m.lastSequence
    let accepted := (judgeEvents before.isNone before r.events).1
    let v := (s.setString n { s.stringAt n with line := .idle }).hearPresses n a kind r
    let w := ((v.contextOfModule n a).map fun ci => v.displayReport ci reboot r.generation).getD v
    let shown (c : Context) : Context := { c with
      pending := none
      displayed := if reboot then FaceSet.nothing
        else match c.pending with
          | some x => if x.generation = r.generation then x else c.displayed
          | none => c.displayed }
    let holds (ci : Nat) (c : Option Context) : State :=
      { v with contexts := v.contexts.set ci { parity := true, context := c } }
    let slot := (((w.contextOfModule n a).bind w.contextAt).map Context.slot).getD 1024
    let advisory (k : RecordKind) (cause : Cause) : Item := .advisory
      { kind := k, cause := cause, lane := 0, adjusted := false, urgent := false, quiet := false, suspectTag := false
        overdueReported := false, tag := locator n a 0 0 0 0, slot := BitVec.ofNat 16 slot, requested := 0, confirmed := 0
        bundleSize := 1, bundlePosition := 1, intakeSequence := 0, timeAccepted := s.lrc.clock, timeClosed := s.lrc.clock }
    ∃ t, exec (.moduleReply n frame) s = .next t ∧
      (t.link n a).presence = .present ∧ (t.link n a).misses = 0 ∧ (t.link n a).bootNoted = r.fresh ∧
      (t.link n a).lastSequence = (judgeEvents before.isNone before r.events).2 ∧
      (∀ b, b ≠ a → t.link n b = s.link n b) ∧
      (accepted = [] ∨ s.inRun = false → v.contexts = s.contexts ∧ v.pm = s.pm ∧ v.jw = s.jw) ∧
      (∀ ci c, v.contextOfModule n a = some ci → v.contextAt ci = some c →
        (c.claims ≠ [] → w = holds ci (some (shown c))) ∧
          (c.claims = [] → (shown c).displayed.faces ≠ [] → m.presence ≠ .lost → w = holds ci (some (shown c))) ∧
          (c.claims = [] → (shown c).displayed.faces = [] ∨ m.presence = .lost → v.pm.deferred = [] → w = holds ci none)) ∧
      (∀ ci c, s.contextOfModule n a = some ci → s.contextAt ci = some c → c.claims ≠ [] → accepted = [] →
        ∃ d, t.contextAt ci = some d ∧ d.claims = c.claims ∧ d.pin = c.pin ∧ d.displayed = (shown c).displayed) ∧
      (s.inRun = false → t.jw.report = w.jw.report) ∧
      (s.inRun = true → 2 ≤ w.jw.spare → ∃ closings, t.jw.report = w.jw.report ++
          (if m.presence = .lost ∨ (m.presence = .present ∧ reboot = true ∧ v.contextOfModule n a ≠ none) then
            [advisory .moduleBack (if reboot then .reboot else .returned)] else []) ++
          (if r.overflow then [advisory .pressOverflow .none] else []) ++ closings ∧
        ∀ x ∈ closings, ∃ rec, x = .advisory rec ∧ (rec.kind = .censusDone ∨ rec.kind = .testDone)) ∧
      (w.contextOfModule n a = none →
        (t.link n a).darkeningDue = ((m.darkeningDue && kind != .dark) || reboot || r.generation != 0)) ∧
      (∀ ci c, w.contextOfModule n a = some ci → w.contextAt ci = some c →
        (t.link n a).darkeningDue = ((m.darkeningDue && kind != .dark) ||
          (!r.fresh && r.generation != 0 && c.displayed.generation == 0 && c.pending.isNone))) ∧
      ∀ x : Sweep, sweep = true → (s.stringAt n).sweep = some x → (s.stringAt n).mode = .surveying ∨
          ((s.stringAt n).mode = .quiet ∧ t.anyHot n = false ∧ (s.stringAt n).dormancyDue = false) →
        let good := x.lampsGood + (if kind = .poll ∧ r.lampFault = false then 1 else 0)
        if (t.link n a).darkeningDue = true then
          x.address ≤ (s.stringAt n).ceiling → (t.stringAt n).sweep = some { x with dark := true, lampsGood := good }
        else x.address + 1 ≤ (s.stringAt n).ceiling →
          (t.stringAt n).sweep = some { address := x.address + 1, tries := 0, dark := false, lampsGood := good }

/-- An exchange that ends without a valid reply: a miss, whether nothing came or bytes that are no valid reply. A hot module
counts it, up to 3, and becomes LOST at the third with a MODULE-LOST; a missed FACES has its pending set dropped, unless the next
turn sends the set anew; the loss ends a pin, and frees a DRAINING context, as the drop does when it is dark (claims stand while
no pick is deferred); a cold one becomes ABSENT, but a LOST one only in a sweep. In a survey or an attention sweep a module that
is hot is polled again, up to three POLLs in all, and then, as after any other miss, the next address is taken. That an attention
sweep counts as a survey is the model's choice (log 20). -/
def Obligations.MissesAreCountedOrMakeAbsent : Prop :=
  ∀ (s : State) (n : Fin 4) (a : Nat) (kind : ExchangeKind) (sweep : Bool),
    s.Intact → s.Shape → (s.stringAt n).line = .exchange a kind sweep 0 → 1 ≤ a → a ≤ 120 →
    let m := s.link n a
    (∀ frame, decodeReply a frame = none → exec (.moduleReply n frame) s = exec (.exchangeMiss n) s) ∧
      ∃ t, exec (.exchangeMiss n) s = .next t ∧ (∀ b, b ≠ a → t.link n b = s.link n b) ∧
        (s.hot n a = true →
          t.link n a = { m with
            misses := min 3 (m.misses + 1), presence := if 2 ≤ m.misses then .lost else m.presence }) ∧
        (s.hot n a = true → m.misses = 2 → m.presence ≠ .lost → s.inRun = true → 0 < s.jw.spare →
          ∃ rec, .advisory rec ∈ t.jw.report ∧ rec.kind = .moduleLost ∧ rec.cause = .misses ∧
            rec.tag = locator n a 0 0 0 0) ∧
        (∀ ci c, s.contextOfModule n a = some ci → s.contextAt ci = some c →
          let loses := 2 ≤ m.misses ∧ m.presence ≠ .lost
          let frees := loses ∨ (kind = .faces ∧ (c.displayed.faces = [] ∨ m.presence = .lost))
          (loses → ∀ d, t.contextAt ci = some d → d.pin = none) ∧
            (c.claims ≠ [] ∨ ¬frees → s.pm.deferred = [] → ∃ d, t.contextAt ci = some d ∧ d.claims = c.claims ∧
              d.displayed = c.displayed ∧ d.pin = (if loses then none else c.pin) ∧
              (kind = .faces → d.pending = none ∨ (t.stringAt n).line = .exchange a .faces false 2)) ∧
            (c.claims = [] → frees → s.pm.deferred = [] → t.contextAt ci = none)) ∧
        (s.hot n a = false → m.presence ≠ .lost → t.link n a = { m with presence := .absent }) ∧
        (s.hot n a = false → m.presence = .lost →
          t.link n a = { m with presence := if sweep then .absent else .lost }) ∧
        ∀ x : Sweep, sweep = true → (s.stringAt n).sweep = some x → (s.stringAt n).mode = .surveying ∨
            ((s.stringAt n).mode = .quiet ∧ t.anyHot n = false ∧ (s.stringAt n).dormancyDue = false) →
          if kind = .poll ∧ t.hot n a = true ∧ x.tries < 2 then
            x.address ≤ (s.stringAt n).ceiling → (t.stringAt n).sweep = some { x with tries := x.tries + 1 }
          else x.address + 1 ≤ (s.stringAt n).ceiling →
            (t.stringAt n).sweep = some { x with address := x.address + 1, tries := 0, dark := false }

/-- The ends of the times of a string's modes: SETTLING and TEST open a survey behind an ALL-DARK, with PAUSE after it while
HALTED; a quiet period starts the next, with its cold turn at once on an idle line; a permitted string goes DORMANT after 60 s; a
low attention wire takes it back to QUIET with a sweep; a broadcast's end lets the next one start, and the end of TEST starts its
seconds. When the line is taken up and no exchange is in progress, a QUIET or DORMANT string with a context enters ACTIVE, its
sweep abandoned, and an ACTIVE one without enters QUIET (log 44). The turns, on an idle line with nothing due: in ACTIVE the next
hot address above the last one served, then the next cold address of the walk, which ends the round, and the first hot one again
when none is cold; a dark FACES where darkening is due and the module is not LOST (a cold address: where it is due), a FACES with
the due desired set, which becomes the pending set, where the module is not LOST, and else a POLL, each with the module's ack; in
QUIET the cold turn while it is owed, and nothing else. In a survey or an attention sweep the address it stands at, up to the
ceiling: a dark FACES where the sweep holds one, else a POLL. Past the ceiling a survey ends: CENSUS-DONE with the count of
PRESENT addresses or TEST-DONE with that of the lamps found good fills the entry reserved, then the string is in ACTIVE when it
has a context and else in QUIET, its cold walk at 0, and takes its turn there; after an attention sweep QUIET goes on with a new
quiet period and its dormancy timer at 0 (log 43). The slot of these records, the pins' levels as operands, the cold turn owed,
and the commands that change nothing while their time has not run out are the model's choices (log 46, log 14, log 21, log 1). -/
def Obligations.StringTimesEndAsTheModesSay : Prop :=
  (∀ (s : State) (n : Fin 4), s.Intact → s.Shape →
    let x := s.stringAt n
    let pause : List Broadcast := if s.lrc.run = .halted then [.pause] else []
    let surveys (c : Instr) (purpose : Purpose) : Prop := ∃ t, exec c s = .next t ∧ (t.stringAt n).mode = .surveying ∧
      (t.stringAt n).purpose = some purpose ∧ (t.stringAt n).sweep = some Sweep.first ∧
      (t.stringAt n).modeTimer = none ∧
      (x.line = .idle → x.due = [] → (t.stringAt n).line = .broadcast .allDark 1 ∧ (t.stringAt n).due = pause)
    (x.mode = .settling → x.modeTimer = some 0 → surveys (.settlingEnd n) (x.purpose.getD .start)) ∧
      (x.mode = .test → x.modeTimer = some 0 → surveys (.lightTestEnd n) .test) ∧
      (x.mode = .quiet → x.modeTimer = some 0 → x.line.inExchange = true →
        ∃ t, exec (.quietPeriod n) s = .next t ∧
          t.stringAt n = { x with modeTimer := some x.quietMs, turnDue := x.sweep.isNone }) ∧
      (∀ a, x.mode = .quiet → x.modeTimer = some 0 → x.line = .idle → x.due = [] → x.sweep = none → x.dormancyDue = false →
        s.anyHot n = false → s.NextCold n a →
        ∃ t, exec (.quietPeriod n) s = .next t ∧ t.stringAt n = { x with
          modeTimer := some x.quietMs, turnDue := false, coldWalk := a
          line := if (x.link a).darkeningDue then .exchange a .dark false 2 else .exchange a .poll false 1 }) ∧
      (x.modeTimer ≠ some 0 → exec (.settlingEnd n) s = .next s ∧ exec (.lightTestEnd n) s = .next s ∧
        exec (.quietPeriod n) s = .next s) ∧
      (∀ i, x.items = some i → x.mode = .quiet → i.dormancy = true → 60000 ≤ x.dormancyTimer → s.anyHot n = false →
        ∃ t, exec (.dormancyTimeout n) s = .next t ∧
          (x.line.inExchange = true → (t.stringAt n).mode = .quiet ∧ (t.stringAt n).dormancyDue = true) ∧
          (x.line.inExchange = false → x.attentionLow = false → (t.stringAt n).mode = .dormant)) ∧
      (∀ i, x.items = some i → i.dormancy = false ∨ x.dormancyTimer < 60000 → exec (.dormancyTimeout n) s = .next s) ∧
      (∀ low, ∃ t, exec (.attentionWake n low) s = .next t ∧ (t.stringAt n).attentionLow = low) ∧
      (x.mode = .dormant → s.anyHot n = false → x.line = .idle → x.due = [] → 1 ≤ x.ceiling →
        ∃ t, exec (.attentionWake n true) s = .next t ∧ (t.stringAt n).mode = .quiet ∧
          (t.stringAt n).sweep = some Sweep.first ∧ (t.stringAt n).line = .exchange 1 .poll true 1 ∧
          (t.stringAt n).dormancyTimer = 0) ∧
      (∀ b d ds, x.line = .broadcast b 0 → x.due = d :: ds →
        ∃ t, exec (.broadcastEnd n) s = .next t ∧ (t.stringAt n).line = .broadcast d 1 ∧ (t.stringAt n).due = ds) ∧
      (∀ k, x.line = .broadcast (.test k) 0 → x.mode = .test → x.due = [] → x.sweep = none →
        ∃ t, exec (.broadcastEnd n) s = .next t ∧ (t.stringAt n).line = .idle ∧
          (t.stringAt n).modeTimer = some (k * 1000)) ∧
      (∀ low, x.line.inExchange = false → ∃ t, exec (.attentionWake n low) s = .next t ∧
        (x.mode = .quiet ∨ x.mode = .dormant → s.anyHot n = true → (t.stringAt n).mode = .active) ∧
        (x.mode = .active → s.anyHot n = false → (t.stringAt n).mode = .quiet))) ∧
  (∀ (s : State) (n : Nat), n < s.strings.length →
    let x := s.stringAt n
    let enters (y : StringCtl) : Prop := s.settleMode n = { s with strings := s.strings.set n y }
    (x.line.inExchange = true → s.settleMode n = s) ∧
      (x.line.inExchange = false →
        (x.mode = .quiet ∨ x.mode = .dormant → s.anyHot n = true → enters { x with
          mode := .active, purpose := none, sweep := none, roundPosition := 0, modeTimer := none, turnDue := false
          dormancyDue := false }) ∧
        (x.mode = .active → s.anyHot n = false → enters { x with
          mode := .quiet, purpose := none, sweep := none, roundPosition := 0, dormancyTimer := 0
          modeTimer := some x.quietMs, turnDue := true, dormancyDue := false }) ∧
        s.runLine n = (s.settleMode n).runLine n)) ∧
  (∀ (s : State) (n : Nat), n < s.strings.length →
    let x := s.stringAt n
    let sends (y : StringCtl) (frame : List Byte) : State :=
      { s with strings := s.strings.set n y, out := s.out ++ [.frame n frame] }
    let poll (a : Nat) : List Byte := pollFrame a (x.link a).lastSequence
    let faces (a : Nat) (set : FaceSet) : List Byte :=
      facesFrame a (x.link a).lastSequence set ((x.items.map StringItems.rotation).getD 0)
    let cold (a : Nat) (y : StringCtl) : Prop :=
      ((x.link a).darkeningDue = true →
        s.runLine n = sends { y with coldWalk := a, line := .exchange a .dark false 2 } (faces a FaceSet.nothing)) ∧
      ((x.link a).darkeningDue = false →
        s.runLine n = sends { y with coldWalk := a, line := .exchange a .poll false 1 } (poll a))
    x.line = .idle → x.due = [] → x.sweep = none →
    (x.mode = .active → s.anyHot n = true →
      (∀ a ci c, (s.NextHot n x.roundPosition a ∨
          ((∀ b, x.roundPosition < b → s.hot n b = false) ∧ (∀ b, 1 ≤ b → b ≤ x.ceiling → s.hot n b = true) ∧ s.NextHot n 0 a)) →
        s.contextOfModule n a = some ci → s.contextAt ci = some c →
        let y := { x with roundPosition := a }
        let lost := (x.link a).presence = .lost
        let dark := (x.link a).darkeningDue = true ∧ ¬lost
        let due := c.pending = none ∧ c.desired.generation ≠ c.displayed.generation ∧ ¬lost
        (dark → s.runLine n = sends { y with line := .exchange a .dark false 2 } (faces a FaceSet.nothing)) ∧
          (¬dark → due → s.runLine n =
            { sends { y with line := .exchange a .faces false 2 } (faces a c.desired) with
              contexts := s.contexts.set ci { parity := true, context := some { c with pending := some c.desired } } }) ∧
          (¬dark → ¬due → s.runLine n = sends { y with line := .exchange a .poll false 1 } (poll a))) ∧
      ∀ a, (∀ b, x.roundPosition < b → s.hot n b = false) → s.NextCold n a → cold a { x with roundPosition := 0 }) ∧
    (x.mode = .quiet → s.anyHot n = false → x.dormancyDue = false →
      (x.turnDue = false → s.runLine n = s) ∧
        (x.turnDue = true → ∀ a, s.NextCold n a → cold a { x with turnDue := false }))) ∧
  ∀ (s : State) (n : Nat) (w : Sweep), n < s.strings.length →
    let x := s.stringAt n
    let sends (y : StringCtl) (frame : List Byte) : State :=
      { s with strings := s.strings.set n y, out := s.out ++ [.frame n frame] }
    let active := { x with
      mode := .active, purpose := none, sweep := none, roundPosition := 0, modeTimer := none, turnDue := false
      dormancyDue := false, coldWalk := 0 }
    let quiet := { x with
      mode := .quiet, purpose := none, sweep := none, roundPosition := 0, modeTimer := some x.quietMs, turnDue := true
      dormancyDue := false, dormancyTimer := 0 }
    let entered : StringCtl := if s.anyHot n then active else { quiet with coldWalk := 0 }
    let closes (kind : RecordKind) (count : Nat) : Prop := s.runLine n = State.runLine { s with
      strings := s.strings.set n entered
      jw := { s.jw with
        reserved := s.jw.reserved - 1
        report := s.jw.report ++ [.advisory
          { kind := kind, cause := .none, lane := 0, adjusted := false, urgent := false, quiet := false, suspectTag := false
            overdueReported := false, tag := locator n 0 0 0 0 0, slot := 1024, requested := 0
            confirmed := BitVec.ofNat 16 count, bundleSize := 1, bundlePosition := 1, intakeSequence := 0
            timeAccepted := s.lrc.clock, timeClosed := s.lrc.clock }] } } n
    x.line = .idle → x.due = [] → x.sweep = some w →
    x.mode = .surveying ∨ (x.mode = .quiet ∧ s.anyHot n = false ∧ x.dormancyDue = false) →
    (w.address ≤ x.ceiling →
      (w.dark = true → s.runLine n = sends { x with line := .exchange w.address .dark true 2 }
        (facesFrame w.address (x.link w.address).lastSequence FaceSet.nothing ((x.items.map StringItems.rotation).getD 0))) ∧
      (w.dark = false → s.runLine n = sends { x with line := .exchange w.address .poll true 1 }
        (pollFrame w.address (x.link w.address).lastSequence))) ∧
    (x.ceiling < w.address → x.mode = .quiet →
      s.runLine n = State.runLine { s with strings := s.strings.set n quiet } n) ∧
    (x.ceiling < w.address → x.mode = .surveying →
      (s.inRun = true → x.purpose = some .census →
        closes .censusDone (x.modules.countP fun m => m.presence == .present)) ∧
      (s.inRun = true → x.purpose = some .test → closes .testDone w.lampsGood) ∧
      (s.inRun = false ∨ x.purpose = some .start ∨ x.purpose = none →
        s.runLine n = State.runLine { s with strings := s.strings.set n entered } n))

/-- A feed fault asserted while the feed is on, in any mode but OFF: the feed is off, the string in FEED-FAULT with nothing on its
line and nothing due, every hot address LOST with 3 misses and every other ABSENT, every sequence absent, no boot noted, no
darkening due, and STRING raised. In RUNNING and HALTED, with entries spare, a light test or census in progress ends with
TEST-DONE or CENSUS-DONE, cause FEED-FAULT and count 0, and a MODULE-LOST of cause FEED-FAULT follows for each hot address in
ascending order; behind them stand at most the closing advisories of other strings. The set of a FACES in flight is dropped first;
hot are the addresses with a context then, as the points of the rule are taken in their order (log 38). In OFF only the feed is
switched off; with the feed off, or the input not asserted, only the level is taken. The input's level as an operand is the
model's choice (log 14). -/
def Obligations.FeedFaultsTakeTheStringDown : Prop :=
  ∀ (s : State) (n : Fin 4), s.Intact → s.Shape →
    let x := s.stringAt n
    let dropped := (s.setString n { x with feedFaultInput := true }).dropInFlight n
    let hots := (List.range' 1 120).filter fun a => dropped.hot n a
    let ends : List RecordKind :=
      if x.mode = .test ∨ (x.mode = .surveying ∧ x.purpose = some .test) then [.testDone]
      else if (x.mode = .surveying ∨ x.mode = .settling) ∧ x.purpose = some .census then [.censusDone] else []
    let told (r : OutcomeRecord) : RecordKind × Cause × Word × BitVec 16 := (r.kind, r.cause, r.tag, r.confirmed)
    (x.feed = true → x.mode ≠ .off →
      ∃ t, exec (.feedFault n true) s = .next t ∧ (t.stringAt n).mode = .feedFault ∧ (t.stringAt n).feed = false ∧
        (t.stringAt n).line = .idle ∧ (t.stringAt n).due = [] ∧ (t.stringAt n).feedFaultInput = true ∧
        t.lrc.notice &&& Notice.string.bit ≠ 0 ∧ (s.inRun = false → t.advisories = s.advisories) ∧
        (s.inRun = true → hots.length < s.jw.spare →
          (∃ more, t.advisories.map told = s.advisories.map told ++
              ends.map (fun k => (k, .feedFault, locator n 0 0 0 0 0, 0)) ++
              hots.map (fun a => (.moduleLost, .feedFault, locator n a 0 0 0 0, 0)) ++ more ∧
            ∀ y ∈ more, (y.1 = .testDone ∨ y.1 = .censusDone) ∧ y.2.1 = .none) ∧
          ∀ a ∈ hots, ∀ ci c, dropped.contextOfModule n a = some ci → dropped.contextAt ci = some c → c.claims ≠ [] →
            ∃ r ∈ t.advisories, told r = (.moduleLost, .feedFault, locator n a 0 0 0 0, 0) ∧ r.slot = BitVec.ofNat 16 c.slot) ∧
        ∀ a, 1 ≤ a → a ≤ 120 → t.link n a =
          { presence := if dropped.hot n a then .lost else .absent, lastSequence := none
            misses := if dropped.hot n a then 3 else (s.link n a).misses, bootNoted := false, darkeningDue := false }) ∧
      ((∀ a w left, x.line ≠ .exchange a .faces w left) → s.dropInFlight n = s) ∧
      (∀ a w left ci c, x.line = .exchange a .faces w left → s.contextOfModule n a = some ci → s.contextAt ci = some c →
        (c.claims ≠ [] → s.dropInFlight n = s.setContext ci (some { c with pending := none })) ∧
        (c.claims = [] → c.displayed.faces = [] → s.pm.deferred = [] → s.dropInFlight n = s.setContext ci none)) ∧
      (x.feed = true → x.mode = .off →
        ∃ t, exec (.feedFault n true) s = .next t ∧ (t.stringAt n).mode = .off ∧ (t.stringAt n).feed = false ∧
          t.lrc = s.lrc) ∧
      (∀ b, x.feed = false ∨ b = false →
        ∃ t, exec (.feedFault n b) s = .next t ∧ (t.stringAt n).feedFaultInput = b ∧ (t.stringAt n).feed = x.feed ∧
          (t.stringAt n).modules = x.modules ∧ t.lrc = s.lrc)

/-! ### Timers of picks and contexts -/

/-- The timers that count in RUNNING run out. Abandon: the overdue-reported flag is set, the timer is gone, and an OVERDUE is
offered, which fills a spare entry or is counted lost; a REPORTING pick, or one whose flag is set, has none. Linger: the timer is
gone and the claim's face in the rebuilt desired set blinks FAST. Pin: the pin ends, and in the rebuilt desired set, which has no
pinned index, each claim's face shows its S without the adjust marker. In any other run state nothing happens (the model's choice,
log 1). -/
def Obligations.PickAndContextTimersRunOut : Prop :=
  ∀ (s : State) (i ci serial : Nat), s.Intact → i < 256 → ci < 96 → serial < 256 →
    (∀ p, s.lrc.run = .running → s.pickAt i = some p → p.abandon = some 0 → (∀ o, p.stage ≠ .reporting o) →
      p.overdueReported = false →
      ∃ t, exec (.abandonTimeout i) s = .next t ∧
        t.pm = { s.pm with
          entries := s.pm.entries.set i { parity := true, pick := some { p with abandon := none, overdueReported := true } } } ∧
        (s.jw.spare = 0 → t.jw.lost = min 255 (s.jw.lost + 1)) ∧
        (0 < s.jw.spare → t.jw.lost = s.jw.lost ∧ s.Reported t [.advisory
          { kind := .overdue, cause := .none, lane := BitVec.ofNat 8 p.lane, adjusted := false, urgent := p.urgent
            quiet := p.quiet, suspectTag := false, overdueReported := true, tag := p.tag, slot := BitVec.ofNat 16 p.slot
            requested := BitVec.ofNat 16 p.requested, confirmed := 0, bundleSize := BitVec.ofNat 8 (s.placeInBundle i).1
            bundlePosition := BitVec.ofNat 8 (s.placeInBundle i).2, intakeSequence := p.intakeSequence
            timeAccepted := p.timeAccepted, timeClosed := s.lrc.clock }])) ∧
      (∀ p, s.pickAt i = some p → p.abandon ≠ some 0 ∨ (∃ o, p.stage = .reporting o) ∨ p.overdueReported = true →
        exec (.abandonTimeout i) s = .next s) ∧
      (∀ c k, s.lrc.run = .running → s.contextAt ci = some c → c.ClaimLaw → c.claim serial = some k → k.linger = some 0 →
        ∃ t d, exec (.lingerExpiry ci serial) s = .next t ∧ t.contextAt ci = some d ∧
          d.claim serial = some { k with linger := none, lingerExpired := true } ∧
          (∀ x, k.face = some x → ∃ f, d.desired.faceAt x = some f ∧ f.serial = serial ∧ f.blink = .fast) ∧
          d.pin = c.pin ∧ d.displayed = c.displayed ∧ t.pm = s.pm) ∧
      (∀ c p, s.lrc.run = .running → s.contextAt ci = some c → c.ClaimLaw → c.pin = some p → p.timer = 0 →
        ∃ t d, exec (.pinTimeout ci) s = .next t ∧ t.contextAt ci = some d ∧ d.pin = none ∧ d.slot = c.slot ∧
          d.displayed = c.displayed ∧ d.desired.pinned = none ∧
          (∀ k ∈ c.claims, k.face.isSome = true → ∃ k' ∈ d.claims, k'.serial = k.serial ∧ k'.face = k.face) ∧
          ∀ k ∈ d.claims, ∀ x, k.face = some x →
            ∃ f, d.desired.faceAt x = some f ∧ f.serial = k.serial ∧ f.quantity = k.sum ∧ f.adjust = false) ∧
      (s.lrc.run ≠ .running → exec (.abandonTimeout i) s = .next s ∧ exec (.lingerExpiry ci serial) s = .next s ∧
        exec (.pinTimeout ci) s = .next s)

/-! ### The journal -/

/-- JOURNAL_WRITE writes the oldest item while a block is free, as the next record of the open block: a pick's final record with
advisories-lost 0, its entry FREE, and the fences at the front of the list that this lets be reached leave it with their
advisories; or an advisory with the lost count, which returns to 0. The first record of a block starts the seal timer; the last,
or a FENCE-REACHED, seals it. With no item or no block free nothing happens. -/
def Obligations.JournalWritesTheOldestItem : Prop :=
  ∀ (s : State) (u : Setup) (b : Addr), s.Intact → s.inRun = true → s.lrc.setup = some u → s.lrc.base = some b →
    let free := (s.jw.sealed - s.jw.released).toNat < u.blocks
    let place := b + BitVec.ofNat 64 (u.blockOffset s.jw.sealed (s.jw.written + 1))
    let counted (t : State) (seals : Bool) : Prop :=
      t.jw.released = s.jw.released ∧
        t.jw.sealed = (if seals then s.jw.sealed + 1 else s.jw.sealed) ∧
        t.jw.written = (if seals then 0 else s.jw.written + 1) ∧
        t.jw.sealTimer =
          (if seals then none else if s.jw.written = 0 then some u.sealDelay else s.jw.sealTimer)
    (∀ i rest p o, free → s.jw.report = .pick i :: rest → s.pickAt i = some p → p.stage = .reporting o →
      ∃ t more m, exec .journalWrite s = .next t ∧ t.out = s.out ++ .linkWrite place ((p.record o).bytes 0) :: more ∧
        t.pickAt i = none ∧ t.pm.free = s.pm.free + 1 ∧ t.jw.report = rest ++ m ∧ t.jw.lost = s.jw.lost ∧
        counted t (s.jw.written + 1 == u.records) ∧
        ∃ k ≤ s.pm.fences.length, ∃ closings, m = (s.pm.fences.take k).map (fun f => .advisory (s.fenceRecord f)) ++ closings ∧
          (∀ x ∈ closings, x.closesString = true) ∧ t.pm.fences = s.pm.fences.drop k ∧
          (∀ f ∈ s.pm.fences.take k, t.fenceReached f = true) ∧
          ∀ f, t.pm.fences.head? = some f → t.fenceReached f = false) ∧
      (∀ r rest, free → s.jw.report = .advisory r :: rest →
        ∃ t more, exec .journalWrite s = .next t ∧ t.out = s.out ++ .linkWrite place (r.bytes s.jw.lost) :: more ∧
          t.jw.report = rest ∧ t.jw.lost = 0 ∧ t.pm = s.pm ∧
          counted t (s.jw.written + 1 == u.records || r.kind == .fenceReached)) ∧
      (¬free ∨ s.jw.report = [] → exec .journalWrite s = .next s)

/-- The seal, by its timer: the block header with the seal number, the record count, the lost count and the clock; then the part
line with SEALED advanced; the seal timer gone, the next block empty, the lost count as it was; JOURNAL judged against the
threshold. While the timer has not run out the command changes nothing (the model's choice, log 1). -/
def Obligations.SealTimeoutSealsTheBlock : Prop :=
  ∀ (s : State) (u : Setup) (b : Addr), s.inRun = true → s.lrc.setup = some u → s.lrc.base = some b →
    (s.jw.sealTimer = some 0 →
      ∃ t more, exec .sealTimeout s = .next t ∧
        t.jw = { s.jw with sealed := s.jw.sealed + 1, written := 0, sealTimer := none } ∧
        t.out = s.out ++
          [.linkWrite (b + BitVec.ofNat 64 (u.blockOffset s.jw.sealed 0))
            (bytesLE 4 s.jw.sealed.toNat ++ bytesLE 2 s.jw.written ++ bytesLE 1 s.jw.lost ++ bytesLE 1 0 ++
              bytesLE 4 s.lrc.clock.toNat ++ bytesLE 20 0),
           .linkWrite (b + 0x40#64)
            (bytesLE 4 s.iu.taken.toNat ++ bytesLE 4 (s.jw.sealed + 1).toNat ++ bytesLE 4 s.pm.free ++
              bytesLE 4 s.lrc.clock.toNat)] ++ more ∧
        (more = [] ∨ more = [.message]) ∧
        (u.threshold ≤ (s.jw.sealed + 1 - s.jw.released).toNat → t.lrc.notice.getLsbD 0 = true) ∧
        ((s.jw.sealed + 1 - s.jw.released).toNat < u.threshold →
          t.lrc.notice.getLsbD 0 = (u.latch && s.lrc.notice.getLsbD 0))) ∧
      (s.jw.sealTimer ≠ some 0 → exec .sealTimeout s = .next s)

/-- What the part reads and writes, byte by byte: a task record's fields; the 32 bytes of an outcome record, with its kind and
cause codes, and of a block header; the locator in the tag of a module or press advisory; the places of record k of the stream and
of record i of block j; a module's reply; and the frames the part sends: POLL and FACES with the ack, FACES with its set and
faces, the dark FACES, and the four broadcasts, each with its CRC low byte first. The bit order of the CRC is the model's reading
(log 5). -/
def Obligations.LayoutsStandByteForByte : Prop :=
  (∀ (kind lane code x : Byte) (tag arg1 arg2 : Word) (slot quantity : BitVec 16) (rest : List Byte),
    taskRecord ([kind, lane, code, x] ++ bytesLE 4 tag.toNat ++ bytesLE 2 slot.toNat ++ bytesLE 2 quantity.toNat ++
        bytesLE 4 arg1.toNat ++ bytesLE 4 arg2.toNat ++ rest) =
      { kind := kind, lane := lane, qualifier := code, tag := tag, slot := slot, quantity := quantity, arg1 := arg1,
        arg2 := arg2 }) ∧
    (∀ (r : OutcomeRecord) (lost : Nat), lost < 256 →
      (r.bytes lost).length = 32 ∧ fieldAt (r.bytes lost) 0 1 = r.kind.code ∧ fieldAt (r.bytes lost) 1 1 = r.cause.code ∧
        byteAt (r.bytes lost) 2 = r.lane ∧ (byteAt (r.bytes lost) 3).getLsbD 0 = r.adjusted ∧
        (byteAt (r.bytes lost) 3).getLsbD 1 = r.urgent ∧ (byteAt (r.bytes lost) 3).getLsbD 2 = r.quiet ∧
        (byteAt (r.bytes lost) 3).getLsbD 3 = r.suspectTag ∧ (byteAt (r.bytes lost) 3).getLsbD 4 = r.overdueReported ∧
        fieldAt (r.bytes lost) 4 4 = r.tag.toNat ∧ fieldAt (r.bytes lost) 8 2 = r.slot.toNat ∧
        fieldAt (r.bytes lost) 10 2 = r.requested.toNat ∧ fieldAt (r.bytes lost) 12 2 = r.confirmed.toNat ∧
        byteAt (r.bytes lost) 14 = r.bundleSize ∧ byteAt (r.bytes lost) 15 = r.bundlePosition ∧
        fieldAt (r.bytes lost) 16 4 = r.intakeSequence.toNat ∧ fieldAt (r.bytes lost) 20 4 = r.timeAccepted.toNat ∧
        fieldAt (r.bytes lost) 24 4 = r.timeClosed.toNat ∧ fieldAt (r.bytes lost) 28 1 = lost ∧
        fieldAt (r.bytes lost) 29 3 = 0) ∧
    ([RecordKind.final .full, .final .short, .final .over, .final .cancelled, .final .refused, .final .faulted, .overdue,
        .strayPress, .pressOverflow, .moduleLost, .moduleBack, .directiveRefused, .fenceReached, .censusDone,
        .testDone].map RecordKind.code =
      [1, 2, 3, 4, 5, 6, 0x10, 0x11, 0x12, 0x13, 0x14, 0x15, 0x16, 0x17, 0x18]) ∧
    ([Cause.none, .badQty, .laneOff, .badSlot, .duplicateTag, .slotUnusable, .moduleShared, .qualifierOverrun, .badQualifier,
        .badArgument, .laneBusy, .colourTaken, .notFound, .tooLate, .overCapacity, .stringOff, .stringBusy, .unknownKind,
        .stale, .noFace, .withdrawn, .cold, .pinConflict, .misses, .feedFault, .reboot, .returned, .entry,
        .context].map Cause.code =
      [0, 1, 2, 3, 4, 5, 6, 7, 8, 16, 17, 18, 19, 20, 21, 22, 23, 24, 32, 33, 34, 35, 36, 48, 49, 50, 51, 64, 65]) ∧
    (∀ n a sequence button face generation : Nat, n < 4 → a < 256 → sequence < 16 → button < 4 → face < 4 → generation < 16 →
      let b := bytesLE 4 (locator n a sequence button face generation).toNat
      fieldAt b 0 1 = a ∧ fieldAt b 1 1 = n ∧ fieldAt b 2 1 % 16 = sequence ∧ fieldAt b 2 1 / 16 % 4 = button ∧
        fieldAt b 2 1 / 64 = face ∧ fieldAt b 3 1 = generation) ∧
    ([Button.confirm, .minus, .plus].map Button.code = [0, 1, 2]) ∧
    (∀ (j : Count) (count lost : Nat) (clock : Clock), count < 65536 → lost < 256 →
      let h := blockHeader j count lost clock
      h.length = 32 ∧ fieldAt h 0 4 = j.toNat ∧ fieldAt h 4 2 = count ∧ fieldAt h 6 1 = lost ∧ fieldAt h 7 1 = 0 ∧
        fieldAt h 8 4 = clock.toNat ∧ fieldAt h 12 20 = 0) ∧
    (let sent (body : List Byte) : List Byte :=
      body ++ [BitVec.ofNat 8 (crc16 body).toNat, BitVec.ofNat 8 ((crc16 body).toNat / 256)]
    (∀ b : Broadcast, b.bytes = sent (match b with
      | .pause => [0, 0x10]
      | .go => [0, 0x11]
      | .allDark => [0, 0x12]
      | .test k => [0, 0x13, BitVec.ofNat 8 k])) ∧
    ackByte none = 0 ∧ (∀ k < 16, (ackByte (some k)).getLsbD 7 = true ∧ (ackByte (some k)).toNat % 128 = k) ∧
    (∀ (a : Nat) (last : Option Nat) (rotation : Nat),
      pollFrame a last = sent [BitVec.ofNat 8 a, 0x01, ackByte last] ∧
      facesFrame a last FaceSet.nothing rotation =
        sent [BitVec.ofNat 8 a, 0x02, ackByte last, 0, BitVec.ofNat 8 (rotation / 100), 0]) ∧
    ∀ (a : Nat) (last : Option Nat) (x : FaceSet) (rotation : Nat), x.generation < 16 → (∀ i, x.pinned = some i → i < 4) →
      (∀ f ∈ x.faces, f.index < 4 ∧ f.colour < 8 ∧ f.quantity < 65536) →
      facesFrame a last x rotation = sent ([BitVec.ofNat 8 a, 0x02, ackByte last, x.headByte, BitVec.ofNat 8 (rotation / 100),
        BitVec.ofNat 8 x.faces.length] ++ (x.faces.map Face.bytes).flatten) ∧
      x.headByte.toNat % 16 = x.generation ∧ x.headByte.getLsbD 4 = x.paused ∧ x.headByte.getLsbD 5 = x.pinned.isSome ∧
      x.headByte.toNat / 64 = x.pinned.getD 0 ∧
      ∀ f ∈ x.faces, f.bytes.length = 3 ∧ (byteAt f.bytes 0).toNat % 4 = f.index ∧ (byteAt f.bytes 0).toNat / 4 % 8 = f.colour ∧
        (byteAt f.bytes 0).toNat / 32 % 4 = (match f.blink with | .steady => 0 | .slow => 1 | .fast => 2) ∧
        (byteAt f.bytes 0).getLsbD 7 = f.adjust ∧ fieldAt f.bytes 1 2 = f.quantity) ∧
    (∀ (u : Setup) (k j : Count) (i : Nat),
      u.recordOffset k = 0x5000 + k.toNat % u.capacity * 32 ∧ u.journalOffset % 0x1000 = 0 ∧
        0x5000 + u.capacity * 32 ≤ u.journalOffset ∧ u.journalOffset < 0x5000 + u.capacity * 32 + 0x1000 ∧
        u.blockOffset j i = u.journalOffset + j.toNat % u.blocks * (u.records + 1) * 32 + 32 * i) ∧
    (∀ (a : Nat) (generation : Nat) (fresh overflow lampFault : Bool) (es : List PressEvent), a < 256 →
      generation < 16 → es.length ≤ 4 → (∀ e ∈ es, e.sequence < 16 ∧ e.face < 3 ∧ e.generation < 16) →
      decodeReply a (frameBytes ([BitVec.ofNat 8 a, 0x80,
          BitVec.ofNat 8 (generation + weight fresh 16 + weight overflow 32 + weight lampFault 64),
          BitVec.ofNat 8 es.length] ++
          (es.map fun e => [BitVec.ofNat 8 (e.sequence + 16 * e.button.code + 64 * e.face),
            BitVec.ofNat 8 e.generation]).flatten)) =
        some { generation := generation, fresh := fresh, overflow := overflow, lampFault := lampFault, events := es }) ∧
    ∀ (a : Nat) (frame : List Byte) (r : Reply), decodeReply a frame = some r →
      (byteAt frame 0).toNat = a ∧ byteAt frame 1 = 0x80 ∧ (byteAt frame 3).toNat ≤ 4 ∧
        frame.length = 6 + 2 * (byteAt frame 3).toNat ∧ r.events.length = (byteAt frame 3).toNat ∧
        (∀ e ∈ r.events, e.face < 3) ∧
        fieldAt frame (frame.length - 2) 2 = (crc16 (frame.take (frame.length - 2))).toNat

/-! ### Claims, faces and presses -/

/-- The confirmed count divided over a bundle: each pick but the last is filled to its request before a later one receives
anything, the last takes the rest, the counts add up to C, none exceeds C; and each pick's kind is FULL, SHORT or OVER by its own
count, OVER on the last pick only. FULL with the quiet flag frees the entry without a record; any other outcome is reported, and
its final record carries the pick's own requested quantity and its own confirmed one. -/
def Obligations.ApportioningDividesTheConfirmedCount : Prop :=
  (∀ (c : Nat) (rs : List Nat), rs ≠ [] → rs.length ≤ 8 → c ≤ 999 →
    let cs := apportion c rs
    cs.length = rs.length ∧ cs.sum = c ∧ (∀ x ∈ cs, x ≤ 999) ∧
      (∀ i, i + 1 < rs.length → cs.getD i 0 = min (rs.getD i 0) (c - (rs.take i).sum)) ∧
      (∀ i, i + 1 < rs.length → cs.getD i 0 ≤ rs.getD i 0) ∧
      (∀ i j, i < j → j < rs.length → 0 < cs.getD j 0 → cs.getD i 0 = rs.getD i 0) ∧
      (rs.sum ≤ c → cs.getD (rs.length - 1) 0 = rs.getD (rs.length - 1) 0 + (c - rs.sum)) ∧
      (c ≤ rs.sum → cs.getD (rs.length - 1) 0 = min (rs.getD (rs.length - 1) 0) (c - rs.dropLast.sum))) ∧
    (∀ c r, (c = r → outcomeKind c r = .full) ∧ (c < r → outcomeKind c r = .short) ∧ (r < c → outcomeKind c r = .over)) ∧
    ∀ (s : State) (i : Nat) (p : Pick) (o : Outcome), s.pickAt i = some p →
      let left (q : Option Pick) : PickManager := { s.pm with entries := s.pm.entries.set i { parity := true, pick := q } }
      (p.quiet = true → o.kind = .full → s.close i o = { s with pm := { left none with free := s.pm.free + 1 } }) ∧
        (p.quiet = false ∨ o.kind ≠ .full → s.close i o = { s with
          pm := left (some { p with stage := .reporting o, abandon := none })
          jw := { s.jw with report := s.jw.report ++ [.pick i] } }) ∧
        (p.record o).kind = .final o.kind ∧ (p.record o).requested = BitVec.ofNat 16 p.requested ∧
        (p.record o).confirmed = BitVec.ofNat 16 o.confirmed

/-- A confirmation of a claim: every pick of its bundle is REPORTING with its own part of the count, its kind, the bundle's size,
its place and the adjusted flag, all appended to the report list together in bundle order, or FREE when it is a quiet pick
confirmed FULL; the claim leaves its context, which is freed or drains when that was the last; the lanes, the intake and the
strings stand. How a claim leaves: the others close up, its pin ends, selection shows what it can, and an emptied list leaves the
empty desired set. A context with no claim is freed exactly when it shows nothing with nothing pending, or its module is LOST. -/
def Obligations.ConfirmationClosesTheBundle : Prop :=
  (∀ (c : Context) (lanes : List Lane) (paused : Bool) (serial : Nat), (c.claims.map Claim.serial).Nodup →
    let d := c.removeClaim lanes paused serial
    d.claims.map (fun k => (k.serial, k.lane, k.bundle, k.sum)) =
        (c.claims.filter fun k => k.serial != serial).map (fun k => (k.serial, k.lane, k.bundle, k.sum)) ∧
      (∀ p, c.pin = some p → d.pin = if p.serial = serial then none else some p) ∧ (c.pin = none → d.pin = none) ∧
      (d.freeIndex = none ∨ d.nextToShow = none) ∧ d.desired.faces = d.facesNow lanes ∧
      (d.claims = [] → d.desired.faces = [] ∧ d.desired.pinned = none) ∧
      d.pending = c.pending ∧ d.displayed = c.displayed ∧ d.slot = c.slot ∧ d.atlas = c.atlas) ∧
  (∀ (s : State) (ci : Nat) (c : Context), s.contextAt ci = some c →
    let free := c.claims = [] ∧ ((c.displayed.faces = [] ∧ c.pending = none) ∨
      (s.link c.atlas.string c.atlas.address).presence = .lost)
    (s.freeable c = true ↔ free) ∧
      (free → s.settleContext ci = { s with contexts := s.contexts.set ci { parity := true, context := none } }) ∧
      (¬free → s.settleContext ci = s)) ∧
  ∀ (s : State) (ci : Nat) (k : Claim) (count : Nat) (adjusted : Bool), s.Intact → s.Shape → k.bundle.Nodup →
    (∀ i ∈ k.bundle, ∃ p, s.pickAt i = some p ∧ p.stage = .placed) →
    let t := s.confirm ci k count adjusted
    let cs := apportion count (k.bundle.map s.requestedOf)
    (∀ j p, j < k.bundle.length → s.pickAt (k.bundle.getD j 0) = some p →
      t.pickAt (k.bundle.getD j 0) =
        (if p.quiet = true ∧ cs.getD j 0 = p.requested then none
          else some { p with
            abandon := none
            stage := .reporting { kind := outcomeKind (cs.getD j 0) p.requested, cause := .none
                                  confirmed := cs.getD j 0, timeClosed := s.lrc.clock, bundleSize := k.bundle.length
                                  bundlePosition := j + 1, adjusted := adjusted, suspectTag := false } })) ∧
      (let freed (j : Nat) : Bool := ((s.pickAt (k.bundle.getD j 0)).map Pick.quiet).getD false &&
          cs.getD j 0 == s.requestedOf (k.bundle.getD j 0)
        let places := List.range k.bundle.length
        (∃ more, t.jw.report = s.jw.report ++
          (places.filter fun j => !freed j).map (fun j => Item.pick (k.bundle.getD j 0)) ++ more) ∧
          t.pm.free = s.pm.free + (places.filter freed).length) ∧
      (∀ c, s.contextAt ci = some c → s.pm.deferred = [] →
        let d := c.removeClaim s.pm.lanes s.paused k.serial
        (s.freeable d = true → t.contextAt ci = none) ∧ (s.freeable d = false → t.contextAt ci = some d)) ∧
      t.pm.lanes = s.pm.lanes ∧ t.iu = s.iu ∧ t.strings = s.strings ∧ t.lrc = s.lrc

/-- MINUS and PLUS move the adjusted count A by one within 0 to H = min(999, S + L), starting at S on the press that pins, and
start the pin timer; at 0 and at H the count stays, and the set of a claim already pinned takes no new generation; a changed
bundle clamps A to the new H and never raises it, and the claim keeps that bundle with its sum. -/
def Obligations.AdjustPressesMoveTheCountWithinItsCeiling : Prop :=
  ∀ (c : Context) (lanes : List Lane) (paused : Bool) (k : Claim) (timer : Nat),
    let h := min 999 (k.sum + c.atlas.limit)
    let a := (c.pin.map Pin.count).getD k.sum
    (∀ p, c.pin = some p → p.serial = k.serial) → a ≤ h →
    (c.adjust lanes paused k .minus timer).pin = some { serial := k.serial, count := a - 1, timer := timer } ∧
      (c.adjust lanes paused k .plus timer).pin =
        some { serial := k.serial, count := if a < h then a + 1 else h, timer := timer } ∧
      (c.pin.isSome = true → c.rebuild lanes paused = c →
        (a = 0 → (c.adjust lanes paused k .minus timer).desired = c.desired ∧
          (c.adjust lanes paused k .minus timer).generation = c.generation) ∧
        (a = h → (c.adjust lanes paused k .plus timer).desired = c.desired ∧
          (c.adjust lanes paused k .plus timer).generation = c.generation)) ∧
      ∀ bundle sum p, c.pin = some p →
        (c.correct lanes paused k.serial bundle sum).pin =
          some { p with count := min p.count (min 999 (sum + c.atlas.limit)) } ∧
        (c.correct lanes paused k.serial bundle sum).claims =
          c.claims.map fun j => if j.serial = k.serial then { j with bundle := bundle, sum := sum } else j

/-- A rebuilt desired set: with the same content the context is unchanged; else the set takes the first of the next three
generations that is neither pending nor displayed, in 1..15, which the counter then holds; and the generation law of the context
is kept. -/
def Obligations.RebuiltSetsTakeAFreshGeneration : Prop :=
  ∀ (c : Context) (lanes : List Lane) (paused : Bool), c.generation < 16 →
    let d := c.rebuild lanes paused
    let same := c.facesNow lanes = c.desired.faces ∧ paused = c.desired.paused ∧ c.pinnedIndex = c.desired.pinned
    let g := d.desired.generation
    let g1 := c.generation % 15 + 1
    let g2 := (c.generation + 1) % 15 + 1
    let g3 := (c.generation + 2) % 15 + 1
    let free (x : Nat) := x ≠ c.displayed.generation ∧ ∀ y, c.pending = some y → y.generation ≠ x
    (same → d = c) ∧
      (¬same → d = { c with generation := g, desired := { generation := g, faces := c.facesNow lanes, paused := paused,
                                                          pinned := c.pinnedIndex } } ∧
        1 ≤ g ∧ g ≤ 15 ∧ g ≠ c.displayed.generation ∧ (∀ x, c.pending = some x → x.generation ≠ g) ∧
        (free g1 → g = g1) ∧ (¬free g1 → free g2 → g = g2) ∧ (¬free g1 → ¬free g2 → g = g3)) ∧
      (c.GenerationLaw → d.GenerationLaw)

/-- The join rule: a pick joins the last claim of its lane when the urgency fits, it is not PINNED, holds fewer than 8 picks and
the sum stays within 999; else it opens a claim, urgent ones behind the last urgent one, with a serial that no claim and no face
of the pending or displayed set holds, while the list holds fewer than 6; else nothing is placed. After selection no further claim
can be shown. A new context holds its slot and atlas copy and nothing else. The placement pass (tables intact) walks the deferred
list once, oldest first: a pick is placed in its slot's context by the join rule, or opens the first claim of a new context in the
lowest-numbered free entry, and leaves the list; it is refused MODULE-SHARED when a context of another slot names its module; else
it stays on the list. What a pass does about damaged entries is said with damage. -/
def Obligations.PicksJoinOrOpenClaims : Prop :=
  (∀ (c : Context) (lanes : List Lane) (paused : Bool) (i : Nat) (p : Pick),
    c.claims.length ≤ 6 → (c.claims.map Claim.serial).Nodup → c.displayed.faces.length ≤ 3 →
    (∀ x, c.pending = some x → x.faces.length ≤ 3) →
    let last := (c.claims.filter fun k => k.lane == p.lane).getLast?
    let joins (k : Claim) := k.urgent = p.urgent ∧ (∀ q, c.pin = some q → k.face.isSome = true → q.serial ≠ k.serial) ∧
      k.bundle.length < 8 ∧ k.sum + p.requested ≤ 999
    (∀ k, last = some k → joins k → ∃ d, c.offer lanes paused i p = some d ∧ d.claims =
      c.claims.map fun j => if j.serial = k.serial then { j with bundle := j.bundle ++ [i], sum := j.sum + p.requested } else j) ∧
      ((∀ k, last = some k → ¬joins k) → c.claims.length < 6 →
        ∃ d n, c.offer lanes paused i p = some d ∧ n < 256 ∧ c.serialTaken n = false ∧ d.nextSerial = (n + 1) % 256 ∧
          d.claims.map Claim.serial =
            (if p.urgent then (c.claims.takeWhile Claim.urgent).map Claim.serial ++ n ::
              (c.claims.dropWhile Claim.urgent).map Claim.serial else c.claims.map Claim.serial ++ [n]) ∧
          (∃ k, d.claim n = some k ∧ k.lane = p.lane ∧ k.urgent = p.urgent ∧ k.bundle = [i] ∧ k.sum = p.requested ∧
            k.lingerExpired = false) ∧
          (d.freeIndex = none ∨ d.nextToShow = none)) ∧
      ((∀ k, last = some k → ¬joins k) → c.claims.length = 6 → c.offer lanes paused i p = none)) ∧
  (∀ slot atlas, Context.create slot atlas =
    { slot := slot, atlas := atlas, claims := [], nextSerial := 0, generation := 0
      desired := { generation := 0, faces := [], paused := false, pinned := none }, pending := none
      displayed := { generation := 0, faces := [], paused := false, pinned := none }, pin := none }) ∧
  (∀ s : State, (∀ e ∈ s.pm.entries, e.parity = true) → s.placementPass = s.pm.deferred.foldl State.visitDeferred s) ∧
  ∀ (s : State) (i : Nat) (p : Pick) (atlas : AtlasCopy), s.Intact →
    s.pickAt i = some p → p.stage = .deferred atlas →
    let left (q : Pick) : PickManager := { s.pm with
      entries := s.pm.entries.set i { parity := true, pick := some q }, deferred := s.pm.deferred.filter fun j => j != i }
    let placed (ci : Nat) (d : Context) : State := { s with
      contexts := s.contexts.set ci { parity := true, context := some d }, pm := left { p with stage := .placed } }
    (∀ ci c, s.contextOfSlot p.slot = some ci → s.contextAt ci = some c →
      (∀ d, c.offer s.pm.lanes s.paused i p = some d → s.visitDeferred i = placed ci d) ∧
        (c.offer s.pm.lanes s.paused i p = none → s.visitDeferred i = s)) ∧
      (s.contextOfSlot p.slot = none → (∀ ci < s.contexts.length, s.contextAt ci ≠ none) → s.visitDeferred i = s) ∧
      ∀ ci, s.contextOfSlot p.slot = none → ci < s.contexts.length → s.contextAt ci = none →
        (∀ cj < ci, s.contextAt cj ≠ none) →
        (s.contextOfModule atlas.string atlas.address = none →
          s.visitDeferred i = placed ci ((Context.create p.slot atlas).newClaim s.pm.lanes s.paused i p)) ∧
        (s.contextOfModule atlas.string atlas.address ≠ none → s.visitDeferred i = { s with
          pm := left { p with
            abandon := none
            stage := .reporting { kind := .refused, cause := .moduleShared, confirmed := 0, timeClosed := s.lrc.clock
                                  bundleSize := 1, bundlePosition := 1, adjusted := false, suspectTag := false } }
          jw := { s.jw with report := s.jw.report ++ [.pick i] } })

/-- A press is matched by context, face set, face and claim, each failing step with its cause; a stray press changes no context
and no pick, and offers one STRAY-PRESS when the setup copy reports them. A matched CONFIRM (tables intact) credits A while its
claim is PINNED and else the quantity of the face in the matched set, and closes the claim's bundle with it; a matched MINUS or
PLUS is a stray PIN-CONFLICT, with slot and lane, while another claim is PINNED, and else adjusts the claim. The accepted presses
of a reply are attributed one at a time in queue order, and a reply whose one accepted press is matched has that effect. -/
def Obligations.PressesAreMatchedOrStray : Prop :=
  (∀ (s : State) (n a : Nat) (e : PressEvent),
    (s.contextOfModule n a = none → s.matchPress n a e = .stray .cold 1024) ∧
      (∀ ci c, s.contextOfModule n a = some ci → s.contextAt ci = some c →
        (e.generation ≠ c.displayed.generation → (∀ x, c.pending = some x → x.generation ≠ e.generation) →
          s.matchPress n a e = .stray .stale c.slot) ∧
        ∀ x, (x = c.displayed ∨ (c.pending = some x ∧ c.displayed.generation ≠ e.generation)) → x.generation = e.generation →
          (x.faceAt e.face = none → s.matchPress n a e = .stray .noFace c.slot) ∧
          (∀ f, x.faceAt e.face = some f → c.claim f.serial = none → s.matchPress n a e = .stray .withdrawn c.slot) ∧
          ∀ f k, x.faceAt e.face = some f → c.claim f.serial = some k → s.matchPress n a e = .claim ci k f.quantity) ∧
      (∀ cause slot u, s.matchPress n a e = .stray cause slot → s.lrc.setup = some u →
        let t := s.attributePress n a e
        t.pm = s.pm ∧ t.contexts = s.contexts ∧ t.strings = s.strings ∧
          (u.stray = false → t = s) ∧
          (u.stray = true → s.jw.spare = 0 → t = { s with jw := { s.jw with lost := min 255 (s.jw.lost + 1) } }) ∧
          (u.stray = true → 0 < s.jw.spare → t.jw.report = s.jw.report ++ [.advisory
            { kind := .strayPress, cause := cause, lane := 0, adjusted := false, urgent := false, quiet := false
              suspectTag := false, overdueReported := false
              tag := locator n a e.sequence e.button.code e.face e.generation, slot := BitVec.ofNat 16 slot
              requested := 0, confirmed := 0, bundleSize := 1, bundlePosition := 1, intakeSequence := 0
              timeAccepted := s.lrc.clock, timeClosed := s.lrc.clock }]))) ∧
  (∀ (s : State) (n a : Nat) (e : PressEvent) (es : List PressEvent), s.attributeAll n a [] = s ∧
    s.attributeAll n a (e :: es) = (s.attributePress n a e).attributeAll n a es) ∧
  (∀ (s : State) (n a : Nat) (e : PressEvent) (ci : Nat) (k : Claim) (quantity : Nat) (c : Context) (u : Setup),
    (∀ x ∈ s.pm.entries, x.parity = true) → s.matchPress n a e = .claim ci k quantity → s.contextAt ci = some c →
    s.lrc.setup = some u →
    (e.button = .confirm →
      (∀ p, c.pin = some p → p.serial = k.serial → s.attributePress n a e = s.confirm ci k p.count true) ∧
        ((∀ p, c.pin = some p → p.serial ≠ k.serial) → s.attributePress n a e = s.confirm ci k quantity false)) ∧
      (e.button ≠ .confirm →
        ((∀ p, c.pin = some p → p.serial = k.serial) →
          let d := c.adjust s.pm.lanes s.paused k e.button (u.pinTimeout * 1000)
          s.attributePress n a e = { s with contexts := s.contexts.set ci { parity := true, context := some d } }) ∧
        ∀ p, c.pin = some p → p.serial ≠ k.serial →
          (u.stray = false → s.attributePress n a e = s) ∧
          (u.stray = true → 0 < s.jw.spare → s.attributePress n a e = { s with jw := { s.jw with
            report := s.jw.report ++ [.advisory
              { kind := .strayPress, cause := .pinConflict, lane := BitVec.ofNat 8 k.lane, adjusted := false, urgent := false
                quiet := false, suspectTag := false, overdueReported := false
                tag := locator n a e.sequence e.button.code e.face e.generation, slot := BitVec.ofNat 16 c.slot
                requested := 0, confirmed := 0, bundleSize := 1, bundlePosition := 1, intakeSequence := 0
                timeAccepted := s.lrc.clock, timeClosed := s.lrc.clock }] } }))) ∧
  ∀ (s : State) (n : Fin 4) (frame : List Byte) (a : Nat) (kind : ExchangeKind) (sweep : Bool) (r : Reply) (e : PressEvent)
    (ci : Nat) (k : Claim) (quantity : Nat) (c : Context),
    s.Intact → s.Shape → s.inRun = true → (s.stringAt n).line = .exchange a kind sweep 0 → 1 ≤ a → a ≤ 120 →
    decodeReply a frame = some r →
    let before := if r.fresh && !(s.link n a).bootNoted then none else (s.link n a).lastSequence
    (judgeEvents before.isNone before r.events).1 = [e] → s.matchPress n a e = .claim ci k quantity →
    s.contextAt ci = some c →
    (e.button = .confirm → k.bundle.Nodup → (∀ i ∈ k.bundle, ∃ p, s.pickAt i = some p ∧ p.stage = .placed) →
      let pinned := c.pin.filter fun (p : Pin) => p.serial == k.serial
      let cs := apportion ((pinned.map Pin.count).getD quantity) (k.bundle.map s.requestedOf)
      ∃ t, exec (.moduleReply n frame) s = .next t ∧ ∀ j p, j < k.bundle.length → s.pickAt (k.bundle.getD j 0) = some p →
        t.pickAt (k.bundle.getD j 0) =
          (if p.quiet = true ∧ cs.getD j 0 = p.requested then none
            else some { p with
              abandon := none
              stage := .reporting { kind := outcomeKind (cs.getD j 0) p.requested, cause := .none
                                    confirmed := cs.getD j 0, timeClosed := s.lrc.clock, bundleSize := k.bundle.length
                                    bundlePosition := j + 1, adjusted := pinned.isSome, suspectTag := false } })) ∧
      (e.button ≠ .confirm →
        ∃ t d, exec (.moduleReply n frame) s = .next t ∧ t.contextAt ci = some d ∧ d.claims = c.claims ∧
          ((∀ p, c.pin = some p → p.serial = k.serial) → d.pin = (c.adjust s.pm.lanes s.paused k e.button s.pinMs).pin) ∧
          (∀ p, c.pin = some p → p.serial ≠ k.serial → d.pin = c.pin))

/-! ### Damage -/

/-- A pick entry that fails its check, by the collection that holds its reference: on the report list it is marked suspect and
loses its abandon timer; on the deferred list it is FAULTED with cause ENTRY and marked; in a bundle it leaves it so, and a
placement pass of its own follows; held by none it is rewritten FREE. Then it is reported. The damaged entries of one read are
handled in ascending index; when one of them stands in a bundle, its departure reads the rest of that bundle and its pass what a
pass reads: the deferred entries and those of the claims an intact one may join. A pass leaves to their own turns what is damaged,
an entry or a context, and a pick that the join rule would append to a claim with a damaged entry, with the younger picks of its
slot; one that opens a new claim is placed. A context entry that fails its check: not in use, it is rewritten, with no pass; in
use, its picks are FAULTED with cause CONTEXT, it is freed or left without claims and pin, with an empty desired set, and one pass
follows. The damaged contexts of one read are handled in ascending index, and then the damaged picks that this has read; an entry
rewritten since, with fresh parity, is reported only. Which steps read an entry, which pick belongs to which damaged context, and
these orders across entries are the model's choices (log 7, log 8). -/
def Obligations.DamagedEntriesAreHandledByTheirHolder : Prop :=
  (∀ (s : State) (i : Nat), i < s.pm.entries.length → s.pickIntact i = false →
    let t := s.handlePick i
    let faulted (p : Pick) (size position : Nat) : Pick := { p with
      abandon := none
      stage := .reporting { kind := .faulted, cause := .entry, confirmed := 0, timeClosed := s.lrc.clock
                            bundleSize := size, bundlePosition := position, adjusted := false, suspectTag := true } }
    (s.tiu.capture.frozen = false →
      t.tiu.capture.table = .pick ∧ t.tiu.capture.index = i ∧ t.lrc.notice &&& Notice.fault.bit ≠ 0) ∧
    (∀ p, s.pickAt i = some p → s.pm.deferred.contains i = true →
      t.pickAt i = some (faulted p 1 1) ∧ t.pm.deferred = s.pm.deferred.filter (fun j => j != i) ∧
        t.jw.report = s.jw.report ++ [.pick i] ∧ t.contexts = s.contexts) ∧
    (∀ p o, s.pickAt i = some p → s.pm.deferred.contains i = false → s.jw.report.contains (.pick i) = true →
      p.stage = .reporting o →
      t.pickAt i = some { p with stage := .reporting { o with suspectTag := true }, abandon := none } ∧
        t.jw.report = s.jw.report ∧ t.contexts = s.contexts) ∧
    (∀ p ci k, s.pickAt i = some p → s.pm.deferred.contains i = false → s.jw.report.contains (.pick i) = false →
      s.holder i = some (ci, k) →
      t = ((s.leaveBundle i .faulted .entry true).walkDeferred).reportFault .pick i ∧
        t.pickAt i = some (faulted p k.bundle.length (k.bundle.idxOf i + 1)) ∧ .pick i ∈ t.jw.report) ∧
    (s.pm.deferred.contains i = false → s.jw.report.contains (.pick i) = false → s.holder i = none →
      t.pickAt i = none ∧ t.pickIntact i = true ∧ t.pm.free = s.pm.free ∧ t.contexts = s.contexts)) ∧
  (∀ s : State, s.badPicks.Pairwise (fun i j => i < j) ∧
    (∀ i, i ∈ s.badPicks ↔ i < s.pm.entries.length ∧ s.pickIntact i = false) ∧
    s.checkPicks = s.badPicks.foldl State.handlePick s ∧
    (∀ i, s.pickIntact i = true → s.checkPick i = s) ∧
    (∀ i, i < s.pm.entries.length → s.pickIntact i = false →
      (s.bundled i = false → s.checkPick i = s.handlePick i) ∧
        (s.bundled i = true → s.checkPick i = (s.badPicks.filter fun j => j == i || s.shares [i] j || s.passReads j).foldl
          State.handlePick s)) ∧
    (∀ i j ci k, s.bundled i = true → s.holder i = some (ci, k) → s.shares [i] j = k.bundle.contains j) ∧
    (∀ j, s.passReads j = true ↔ j ∈ s.pm.deferred ∨
      ∃ d ∈ s.pm.deferred, ∃ p, s.pickIntact d = true ∧ s.pickAt d = some p ∧
        ∃ ci c k, s.contextAt ci = some c ∧ c.slot = p.slot ∧ k ∈ c.claims ∧ k.lane = p.lane ∧ j ∈ k.bundle) ∧
    s.placementPass = State.walkDeferred ((s.badPicks.filter s.passReads).foldl State.handlePick s) ∧
    (∀ i, s.joinsDamaged i = true ↔ ∃ p ci c k, s.pickAt i = some p ∧ s.pickIntact i = true ∧
      s.contextOfSlot p.slot = some ci ∧ s.contextAt ci = some c ∧ c.joinable p = some k ∧
      ∃ j ∈ k.bundle, s.pickIntact j = false) ∧
    (∀ i p, s.pickAt i = some p → (s.heldUp i = true ↔ s.joinsDamaged i = true ∨
      ∃ j ∈ s.pm.deferred.takeWhile (fun x => x != i), s.joinsDamaged j = true ∧
        ∃ q, s.pickAt j = some q ∧ q.slot = p.slot)) ∧
    (∀ i p atlas, s.pickAt i = some p → p.stage = .deferred atlas →
      let left (q : Pick) : PickManager := { s.pm with
        entries := s.pm.entries.set i { parity := true, pick := some q }, deferred := s.pm.deferred.filter fun j => j != i }
      (s.pickIntact i = false → s.visitDeferred i = s) ∧
        ∀ ci c, s.contextOfSlot p.slot = some ci → s.contextAt ci = some c →
          (s.contextIntact ci = false ∨ s.heldUp i = true → s.visitDeferred i = s) ∧
          (s.pickIntact i = true → s.contextIntact ci = true → s.heldUp i = false →
            (∀ d, c.offer s.pm.lanes s.paused i p = some d → s.visitDeferred i = { s with
              contexts := s.contexts.set ci { parity := true, context := some d }
              pm := left { p with stage := .placed } }) ∧
            (c.offer s.pm.lanes s.paused i p = none → s.visitDeferred i = s))) ∧
    (s.inRun = true → s.badContexts ≠ [] → s.checkContexts = (s.damageContexts s.badContexts).kick) ∧
    ∀ bad : List Nat,
      let t := bad.foldl (fun u ci => if u.contextIntact ci then u.reportFault .context ci else u.damageContext ci) s
      s.damageContexts bad = (if bad.any fun ci => (s.contextAt ci).isSome then
        (s.badPicks.filter fun i => s.isPlaced i || s.pm.deferred.contains i).foldl
          (fun u i => if u.pickIntact i then u.reportFault .pick i else u.handlePick i) t else t)) ∧
    ∀ (s : State) (ci : Nat), ci < s.contexts.length →
      let t := s.damageContext ci
      (s.contextAt ci = none → t.contextAt ci = none ∧ t.contextIntact ci = true ∧ t.pm = s.pm ∧ t.jw = s.jw) ∧
        (∀ c, s.contextAt ci = some c → t = ((s.emptyContext ci c).walkDeferred).reportFault .context ci ∧
          ∀ d, (s.emptyContext ci c).contextAt ci = some d →
            d = { c with claims := [], pin := none, generation := c.freshGeneration, desired :=
              { generation := c.freshGeneration, faces := [], paused := s.paused, pinned := none } }) ∧
        (∀ c i p, s.contextAt ci = some c → s.pickAt i = some p → p.stage = .placed →
          (∀ cj x, cj ≠ ci → s.contextAt cj = some x → x.slot ≠ p.slot) →
          t.pickAt i = some { p with
            abandon := none
            stage := .reporting { kind := .faulted, cause := .context, confirmed := 0, timeClosed := s.lrc.clock
                                  bundleSize := 1, bundlePosition := 1, adjusted := false
                                  suspectTag := !s.pickIntact i } }) ∧
        (s.tiu.capture.frozen = false → t.tiu.capture.table = .context ∧ t.tiu.capture.index = ci)

/-! ### Frame of the string events and timers -/

/-- The frame of the string events and of the abandon, linger and pin timers: the intake's records and counts, run control but for
NOTICE, the lanes, and the journal's counts and open block. -/
def Obligations.StringEventsAndTimersLeaveTheIntakeAlone : Prop :=
  ∀ (c : Instr) (s t : State),
    (∃ n f, c = .moduleReply n f) ∨ (∃ n, c = .exchangeMiss n) ∨ (∃ n, c = .broadcastEnd n) ∨ (∃ n, c = .settlingEnd n) ∨
      (∃ n, c = .lightTestEnd n) ∨ (∃ n, c = .quietPeriod n) ∨ (∃ n, c = .dormancyTimeout n) ∨
      (∃ n l, c = .attentionWake n l) ∨ (∃ n l, c = .feedFault n l) ∨ (∃ i, c = .abandonTimeout i) ∨
      (∃ x y, c = .lingerExpiry x y) ∨ (∃ x, c = .pinTimeout x) →
    exec c s = .next t →
    t.lrc = { s.lrc with notice := t.lrc.notice } ∧ t.iu = { s.iu with onLookahead := t.iu.onLookahead } ∧
      ((∀ n f, c ≠ .moduleReply n f) → t.iu = s.iu ∧ t.ac = s.ac) ∧ t.pm.lanes = s.pm.lanes ∧
      t.jw.sealed = s.jw.sealed ∧ t.jw.released = s.jw.released ∧ t.jw.written = s.jw.written ∧
      t.jw.sealTimer = s.jw.sealTimer

/-! ### Laws that every step keeps -/

/-- The table sizes, the lane law and the lost count's limit are kept by every step: colours of OPEN lanes differ, and the lost
count never passes 255. -/
def Obligations.StepsKeepSizesLanesAndTheLostCount : Prop :=
  ∀ s t : State, step s = .next t →
    (s.Shape → t.Shape) ∧ (s.LaneLaw → t.LaneLaw) ∧ (s.LostLaw → t.LostLaw)

/-- The journal's law is kept by every step: SEALED - RELEASED stays in 0..N, the open block never holds R records, it holds some
only while a block is free, and the seal timer is present exactly while it holds some. -/
def Obligations.StepsKeepTheJournalLaw : Prop :=
  ∀ s t : State, s.JournalLaw → step s = .next t → t.JournalLaw

/-- The intake's law is kept by every step: the fetched count is TAKEN plus the queue plus the records under way, TAKEN never
passes POSTED, and POSTED - TAKEN never exceeds C. -/
def Obligations.StepsKeepTheIntakeLaw : Prop :=
  ∀ s t : State, s.IntakeLaw → step s = .next t → t.IntakeLaw

/-- The generation law is kept by every command: in every context the pending and displayed generations differ, and a desired
generation coincides with either only when it is that very set. -/
def Obligations.CommandsKeepTheGenerationLaw : Prop :=
  ∀ (c : Instr) (s t : State), s.GenerationLaw → exec c s = .next t → t.GenerationLaw
end

