-- ==== Sys2Proof/Laws/State.lean ====
section
/-! SUPPORT. One lemma for each field of State and each update of a block, all by definition, so that no proof unfolds a record
update. -/

namespace Sys2Proof.Machine

variable (s : State)

@[simp] theorem State.emit_pending (o : Output) : (s.emit o).pending = s.pending := rfl
@[simp] theorem State.emit_out (o : Output) : (s.emit o).out = s.out ++ [o] := rfl
@[simp] theorem State.emit_freeIndex (o : Output) : (s.emit o).freeIndex = s.freeIndex := rfl
@[simp] theorem State.emit_lrc (o : Output) : (s.emit o).lrc = s.lrc := rfl
@[simp] theorem State.emit_iu (o : Output) : (s.emit o).iu = s.iu := rfl
@[simp] theorem State.emit_ac (o : Output) : (s.emit o).ac = s.ac := rfl
@[simp] theorem State.emit_pm (o : Output) : (s.emit o).pm = s.pm := rfl
@[simp] theorem State.emit_contexts (o : Output) : (s.emit o).contexts = s.contexts := rfl
@[simp] theorem State.emit_strings (o : Output) : (s.emit o).strings = s.strings := rfl
@[simp] theorem State.emit_jw (o : Output) : (s.emit o).jw = s.jw := rfl
@[simp] theorem State.emit_tiu (o : Output) : (s.emit o).tiu = s.tiu := rfl

@[simp] theorem State.setLrc_pending (x : RunControl) : (s.setLrc x).pending = s.pending := rfl
@[simp] theorem State.setLrc_out (x : RunControl) : (s.setLrc x).out = s.out := rfl
@[simp] theorem State.setLrc_freeIndex (x : RunControl) : (s.setLrc x).freeIndex = s.freeIndex := rfl
@[simp] theorem State.setLrc_lrc (x : RunControl) : (s.setLrc x).lrc = x := rfl
@[simp] theorem State.setLrc_iu (x : RunControl) : (s.setLrc x).iu = s.iu := rfl
@[simp] theorem State.setLrc_ac (x : RunControl) : (s.setLrc x).ac = s.ac := rfl
@[simp] theorem State.setLrc_pm (x : RunControl) : (s.setLrc x).pm = s.pm := rfl
@[simp] theorem State.setLrc_contexts (x : RunControl) : (s.setLrc x).contexts = s.contexts := rfl
@[simp] theorem State.setLrc_strings (x : RunControl) : (s.setLrc x).strings = s.strings := rfl
@[simp] theorem State.setLrc_jw (x : RunControl) : (s.setLrc x).jw = s.jw := rfl
@[simp] theorem State.setLrc_tiu (x : RunControl) : (s.setLrc x).tiu = s.tiu := rfl

@[simp] theorem State.setIu_pending (x : Intake) : (s.setIu x).pending = s.pending := rfl
@[simp] theorem State.setIu_out (x : Intake) : (s.setIu x).out = s.out := rfl
@[simp] theorem State.setIu_freeIndex (x : Intake) : (s.setIu x).freeIndex = s.freeIndex := rfl
@[simp] theorem State.setIu_lrc (x : Intake) : (s.setIu x).lrc = s.lrc := rfl
@[simp] theorem State.setIu_iu (x : Intake) : (s.setIu x).iu = x := rfl
@[simp] theorem State.setIu_ac (x : Intake) : (s.setIu x).ac = s.ac := rfl
@[simp] theorem State.setIu_pm (x : Intake) : (s.setIu x).pm = s.pm := rfl
@[simp] theorem State.setIu_contexts (x : Intake) : (s.setIu x).contexts = s.contexts := rfl
@[simp] theorem State.setIu_strings (x : Intake) : (s.setIu x).strings = s.strings := rfl
@[simp] theorem State.setIu_jw (x : Intake) : (s.setIu x).jw = s.jw := rfl
@[simp] theorem State.setIu_tiu (x : Intake) : (s.setIu x).tiu = s.tiu := rfl

@[simp] theorem State.setAc_pending (x : Cache) : (s.setAc x).pending = s.pending := rfl
@[simp] theorem State.setAc_out (x : Cache) : (s.setAc x).out = s.out := rfl
@[simp] theorem State.setAc_freeIndex (x : Cache) : (s.setAc x).freeIndex = s.freeIndex := rfl
@[simp] theorem State.setAc_lrc (x : Cache) : (s.setAc x).lrc = s.lrc := rfl
@[simp] theorem State.setAc_iu (x : Cache) : (s.setAc x).iu = s.iu := rfl
@[simp] theorem State.setAc_ac (x : Cache) : (s.setAc x).ac = x := rfl
@[simp] theorem State.setAc_pm (x : Cache) : (s.setAc x).pm = s.pm := rfl
@[simp] theorem State.setAc_contexts (x : Cache) : (s.setAc x).contexts = s.contexts := rfl
@[simp] theorem State.setAc_strings (x : Cache) : (s.setAc x).strings = s.strings := rfl
@[simp] theorem State.setAc_jw (x : Cache) : (s.setAc x).jw = s.jw := rfl
@[simp] theorem State.setAc_tiu (x : Cache) : (s.setAc x).tiu = s.tiu := rfl

@[simp] theorem State.setPm_pending (x : PickManager) : (s.setPm x).pending = s.pending := rfl
@[simp] theorem State.setPm_out (x : PickManager) : (s.setPm x).out = s.out := rfl
@[simp] theorem State.setPm_freeIndex (x : PickManager) : (s.setPm x).freeIndex = s.freeIndex := rfl
@[simp] theorem State.setPm_lrc (x : PickManager) : (s.setPm x).lrc = s.lrc := rfl
@[simp] theorem State.setPm_iu (x : PickManager) : (s.setPm x).iu = s.iu := rfl
@[simp] theorem State.setPm_ac (x : PickManager) : (s.setPm x).ac = s.ac := rfl
@[simp] theorem State.setPm_pm (x : PickManager) : (s.setPm x).pm = x := rfl
@[simp] theorem State.setPm_contexts (x : PickManager) : (s.setPm x).contexts = s.contexts := rfl
@[simp] theorem State.setPm_strings (x : PickManager) : (s.setPm x).strings = s.strings := rfl
@[simp] theorem State.setPm_jw (x : PickManager) : (s.setPm x).jw = s.jw := rfl
@[simp] theorem State.setPm_tiu (x : PickManager) : (s.setPm x).tiu = s.tiu := rfl

@[simp] theorem State.setContexts_pending (x : List ContextEntry) : (s.setContexts x).pending = s.pending := rfl
@[simp] theorem State.setContexts_out (x : List ContextEntry) : (s.setContexts x).out = s.out := rfl
@[simp] theorem State.setContexts_freeIndex (x : List ContextEntry) : (s.setContexts x).freeIndex = s.freeIndex := rfl
@[simp] theorem State.setContexts_lrc (x : List ContextEntry) : (s.setContexts x).lrc = s.lrc := rfl
@[simp] theorem State.setContexts_iu (x : List ContextEntry) : (s.setContexts x).iu = s.iu := rfl
@[simp] theorem State.setContexts_ac (x : List ContextEntry) : (s.setContexts x).ac = s.ac := rfl
@[simp] theorem State.setContexts_pm (x : List ContextEntry) : (s.setContexts x).pm = s.pm := rfl
@[simp] theorem State.setContexts_contexts (x : List ContextEntry) : (s.setContexts x).contexts = x := rfl
@[simp] theorem State.setContexts_strings (x : List ContextEntry) : (s.setContexts x).strings = s.strings := rfl
@[simp] theorem State.setContexts_jw (x : List ContextEntry) : (s.setContexts x).jw = s.jw := rfl
@[simp] theorem State.setContexts_tiu (x : List ContextEntry) : (s.setContexts x).tiu = s.tiu := rfl

@[simp] theorem State.setStrings_pending (x : List StringCtl) : (s.setStrings x).pending = s.pending := rfl
@[simp] theorem State.setStrings_out (x : List StringCtl) : (s.setStrings x).out = s.out := rfl
@[simp] theorem State.setStrings_freeIndex (x : List StringCtl) : (s.setStrings x).freeIndex = s.freeIndex := rfl
@[simp] theorem State.setStrings_lrc (x : List StringCtl) : (s.setStrings x).lrc = s.lrc := rfl
@[simp] theorem State.setStrings_iu (x : List StringCtl) : (s.setStrings x).iu = s.iu := rfl
@[simp] theorem State.setStrings_ac (x : List StringCtl) : (s.setStrings x).ac = s.ac := rfl
@[simp] theorem State.setStrings_pm (x : List StringCtl) : (s.setStrings x).pm = s.pm := rfl
@[simp] theorem State.setStrings_contexts (x : List StringCtl) : (s.setStrings x).contexts = s.contexts := rfl
@[simp] theorem State.setStrings_strings (x : List StringCtl) : (s.setStrings x).strings = x := rfl
@[simp] theorem State.setStrings_jw (x : List StringCtl) : (s.setStrings x).jw = s.jw := rfl
@[simp] theorem State.setStrings_tiu (x : List StringCtl) : (s.setStrings x).tiu = s.tiu := rfl

@[simp] theorem State.setJw_pending (x : Journal) : (s.setJw x).pending = s.pending := rfl
@[simp] theorem State.setJw_out (x : Journal) : (s.setJw x).out = s.out := rfl
@[simp] theorem State.setJw_freeIndex (x : Journal) : (s.setJw x).freeIndex = s.freeIndex := rfl
@[simp] theorem State.setJw_lrc (x : Journal) : (s.setJw x).lrc = s.lrc := rfl
@[simp] theorem State.setJw_iu (x : Journal) : (s.setJw x).iu = s.iu := rfl
@[simp] theorem State.setJw_ac (x : Journal) : (s.setJw x).ac = s.ac := rfl
@[simp] theorem State.setJw_pm (x : Journal) : (s.setJw x).pm = s.pm := rfl
@[simp] theorem State.setJw_contexts (x : Journal) : (s.setJw x).contexts = s.contexts := rfl
@[simp] theorem State.setJw_strings (x : Journal) : (s.setJw x).strings = s.strings := rfl
@[simp] theorem State.setJw_jw (x : Journal) : (s.setJw x).jw = x := rfl
@[simp] theorem State.setJw_tiu (x : Journal) : (s.setJw x).tiu = s.tiu := rfl

@[simp] theorem State.setTiu_pending (x : Integrity) : (s.setTiu x).pending = s.pending := rfl
@[simp] theorem State.setTiu_out (x : Integrity) : (s.setTiu x).out = s.out := rfl
@[simp] theorem State.setTiu_freeIndex (x : Integrity) : (s.setTiu x).freeIndex = s.freeIndex := rfl
@[simp] theorem State.setTiu_lrc (x : Integrity) : (s.setTiu x).lrc = s.lrc := rfl
@[simp] theorem State.setTiu_iu (x : Integrity) : (s.setTiu x).iu = s.iu := rfl
@[simp] theorem State.setTiu_ac (x : Integrity) : (s.setTiu x).ac = s.ac := rfl
@[simp] theorem State.setTiu_pm (x : Integrity) : (s.setTiu x).pm = s.pm := rfl
@[simp] theorem State.setTiu_contexts (x : Integrity) : (s.setTiu x).contexts = s.contexts := rfl
@[simp] theorem State.setTiu_strings (x : Integrity) : (s.setTiu x).strings = s.strings := rfl
@[simp] theorem State.setTiu_jw (x : Integrity) : (s.setTiu x).jw = s.jw := rfl
@[simp] theorem State.setTiu_tiu (x : Integrity) : (s.setTiu x).tiu = x := rfl

@[simp] theorem State.setPick_pending (i : Nat) (p : Option Pick) : (s.setPick i p).pending = s.pending := rfl
@[simp] theorem State.setPick_out (i : Nat) (p : Option Pick) : (s.setPick i p).out = s.out := rfl
@[simp] theorem State.setPick_freeIndex (i : Nat) (p : Option Pick) : (s.setPick i p).freeIndex = s.freeIndex := rfl
@[simp] theorem State.setPick_lrc (i : Nat) (p : Option Pick) : (s.setPick i p).lrc = s.lrc := rfl
@[simp] theorem State.setPick_iu (i : Nat) (p : Option Pick) : (s.setPick i p).iu = s.iu := rfl
@[simp] theorem State.setPick_ac (i : Nat) (p : Option Pick) : (s.setPick i p).ac = s.ac := rfl
@[simp] theorem State.setPick_contexts (i : Nat) (p : Option Pick) : (s.setPick i p).contexts = s.contexts := rfl
@[simp] theorem State.setPick_strings (i : Nat) (p : Option Pick) : (s.setPick i p).strings = s.strings := rfl
@[simp] theorem State.setPick_jw (i : Nat) (p : Option Pick) : (s.setPick i p).jw = s.jw := rfl
@[simp] theorem State.setPick_tiu (i : Nat) (p : Option Pick) : (s.setPick i p).tiu = s.tiu := rfl

@[simp] theorem State.setContext_pending (i : Nat) (c : Option Context) : (s.setContext i c).pending = s.pending := rfl
@[simp] theorem State.setContext_out (i : Nat) (c : Option Context) : (s.setContext i c).out = s.out := rfl
@[simp] theorem State.setContext_freeIndex (i : Nat) (c : Option Context) : (s.setContext i c).freeIndex = s.freeIndex := rfl
@[simp] theorem State.setContext_lrc (i : Nat) (c : Option Context) : (s.setContext i c).lrc = s.lrc := rfl
@[simp] theorem State.setContext_iu (i : Nat) (c : Option Context) : (s.setContext i c).iu = s.iu := rfl
@[simp] theorem State.setContext_ac (i : Nat) (c : Option Context) : (s.setContext i c).ac = s.ac := rfl
@[simp] theorem State.setContext_pm (i : Nat) (c : Option Context) : (s.setContext i c).pm = s.pm := rfl
@[simp] theorem State.setContext_strings (i : Nat) (c : Option Context) : (s.setContext i c).strings = s.strings := rfl
@[simp] theorem State.setContext_jw (i : Nat) (c : Option Context) : (s.setContext i c).jw = s.jw := rfl
@[simp] theorem State.setContext_tiu (i : Nat) (c : Option Context) : (s.setContext i c).tiu = s.tiu := rfl

@[simp] theorem State.setString_pending (n : Nat) (x : StringCtl) : (s.setString n x).pending = s.pending := rfl
@[simp] theorem State.setString_out (n : Nat) (x : StringCtl) : (s.setString n x).out = s.out := rfl
@[simp] theorem State.setString_freeIndex (n : Nat) (x : StringCtl) : (s.setString n x).freeIndex = s.freeIndex := rfl
@[simp] theorem State.setString_lrc (n : Nat) (x : StringCtl) : (s.setString n x).lrc = s.lrc := rfl
@[simp] theorem State.setString_iu (n : Nat) (x : StringCtl) : (s.setString n x).iu = s.iu := rfl
@[simp] theorem State.setString_ac (n : Nat) (x : StringCtl) : (s.setString n x).ac = s.ac := rfl
@[simp] theorem State.setString_pm (n : Nat) (x : StringCtl) : (s.setString n x).pm = s.pm := rfl
@[simp] theorem State.setString_contexts (n : Nat) (x : StringCtl) : (s.setString n x).contexts = s.contexts := rfl
@[simp] theorem State.setString_jw (n : Nat) (x : StringCtl) : (s.setString n x).jw = s.jw := rfl
@[simp] theorem State.setString_tiu (n : Nat) (x : StringCtl) : (s.setString n x).tiu = s.tiu := rfl

@[simp] theorem State.setLink_pending (n a : Nat) (m : ModuleLink) : (s.setLink n a m).pending = s.pending := rfl
@[simp] theorem State.setLink_out (n a : Nat) (m : ModuleLink) : (s.setLink n a m).out = s.out := rfl
@[simp] theorem State.setLink_freeIndex (n a : Nat) (m : ModuleLink) : (s.setLink n a m).freeIndex = s.freeIndex := rfl
@[simp] theorem State.setLink_lrc (n a : Nat) (m : ModuleLink) : (s.setLink n a m).lrc = s.lrc := rfl
@[simp] theorem State.setLink_iu (n a : Nat) (m : ModuleLink) : (s.setLink n a m).iu = s.iu := rfl
@[simp] theorem State.setLink_ac (n a : Nat) (m : ModuleLink) : (s.setLink n a m).ac = s.ac := rfl
@[simp] theorem State.setLink_pm (n a : Nat) (m : ModuleLink) : (s.setLink n a m).pm = s.pm := rfl
@[simp] theorem State.setLink_contexts (n a : Nat) (m : ModuleLink) : (s.setLink n a m).contexts = s.contexts := rfl
@[simp] theorem State.setLink_jw (n a : Nat) (m : ModuleLink) : (s.setLink n a m).jw = s.jw := rfl
@[simp] theorem State.setLink_tiu (n a : Nat) (m : ModuleLink) : (s.setLink n a m).tiu = s.tiu := rfl

@[simp] theorem State.setWay_pending (i : Nat) (w : Way) : (s.setWay i w).pending = s.pending := rfl
@[simp] theorem State.setWay_out (i : Nat) (w : Way) : (s.setWay i w).out = s.out := rfl
@[simp] theorem State.setWay_freeIndex (i : Nat) (w : Way) : (s.setWay i w).freeIndex = s.freeIndex := rfl
@[simp] theorem State.setWay_lrc (i : Nat) (w : Way) : (s.setWay i w).lrc = s.lrc := rfl
@[simp] theorem State.setWay_iu (i : Nat) (w : Way) : (s.setWay i w).iu = s.iu := rfl
@[simp] theorem State.setWay_pm (i : Nat) (w : Way) : (s.setWay i w).pm = s.pm := rfl
@[simp] theorem State.setWay_contexts (i : Nat) (w : Way) : (s.setWay i w).contexts = s.contexts := rfl
@[simp] theorem State.setWay_strings (i : Nat) (w : Way) : (s.setWay i w).strings = s.strings := rfl
@[simp] theorem State.setWay_jw (i : Nat) (w : Way) : (s.setWay i w).jw = s.jw := rfl
@[simp] theorem State.setWay_tiu (i : Nat) (w : Way) : (s.setWay i w).tiu = s.tiu := rfl

@[simp] theorem State.setLru_pending (i : Nat) (b : Bool) : (s.setLru i b).pending = s.pending := rfl
@[simp] theorem State.setLru_out (i : Nat) (b : Bool) : (s.setLru i b).out = s.out := rfl
@[simp] theorem State.setLru_freeIndex (i : Nat) (b : Bool) : (s.setLru i b).freeIndex = s.freeIndex := rfl
@[simp] theorem State.setLru_lrc (i : Nat) (b : Bool) : (s.setLru i b).lrc = s.lrc := rfl
@[simp] theorem State.setLru_iu (i : Nat) (b : Bool) : (s.setLru i b).iu = s.iu := rfl
@[simp] theorem State.setLru_pm (i : Nat) (b : Bool) : (s.setLru i b).pm = s.pm := rfl
@[simp] theorem State.setLru_contexts (i : Nat) (b : Bool) : (s.setLru i b).contexts = s.contexts := rfl
@[simp] theorem State.setLru_strings (i : Nat) (b : Bool) : (s.setLru i b).strings = s.strings := rfl
@[simp] theorem State.setLru_jw (i : Nat) (b : Bool) : (s.setLru i b).jw = s.jw := rfl
@[simp] theorem State.setLru_tiu (i : Nat) (b : Bool) : (s.setLru i b).tiu = s.tiu := rfl

@[simp] theorem State.appendItem_pending (x : Item) : (s.appendItem x).pending = s.pending := rfl
@[simp] theorem State.appendItem_out (x : Item) : (s.appendItem x).out = s.out := rfl
@[simp] theorem State.appendItem_freeIndex (x : Item) : (s.appendItem x).freeIndex = s.freeIndex := rfl
@[simp] theorem State.appendItem_lrc (x : Item) : (s.appendItem x).lrc = s.lrc := rfl
@[simp] theorem State.appendItem_iu (x : Item) : (s.appendItem x).iu = s.iu := rfl
@[simp] theorem State.appendItem_ac (x : Item) : (s.appendItem x).ac = s.ac := rfl
@[simp] theorem State.appendItem_pm (x : Item) : (s.appendItem x).pm = s.pm := rfl
@[simp] theorem State.appendItem_contexts (x : Item) : (s.appendItem x).contexts = s.contexts := rfl
@[simp] theorem State.appendItem_strings (x : Item) : (s.appendItem x).strings = s.strings := rfl
@[simp] theorem State.appendItem_tiu (x : Item) : (s.appendItem x).tiu = s.tiu := rfl

/-! ### Reads after writes -/

@[simp] theorem State.setPick_free (i : Nat) (p : Option Pick) : (s.setPick i p).pm.free = s.pm.free := rfl
@[simp] theorem State.setPick_deferred (i : Nat) (p : Option Pick) : (s.setPick i p).pm.deferred = s.pm.deferred := rfl
@[simp] theorem State.setPick_lanes (i : Nat) (p : Option Pick) : (s.setPick i p).pm.lanes = s.pm.lanes := rfl
@[simp] theorem State.setPick_fences (i : Nat) (p : Option Pick) : (s.setPick i p).pm.fences = s.pm.fences := rfl

/-- An entry reads as it was written. -/
theorem State.pickAt_setPick_self (i : Nat) (p : Option Pick) (h : i < s.pm.entries.length) :
    (s.setPick i p).pickAt i = p := by
  simp [State.pickAt, State.setPick, h]

/-- Writing an entry leaves the others. -/
theorem State.pickAt_setPick_of_ne (i j : Nat) (p : Option Pick) (h : i ≠ j) : (s.setPick i p).pickAt j = s.pickAt j := by
  simp [State.pickAt, State.setPick, h]

/-- A context entry reads as it was written. -/
theorem State.contextAt_setContext_self (c : Nat) (x : Option Context) (h : c < s.contexts.length) :
    (s.setContext c x).contextAt c = x := by
  simp [State.contextAt, State.setContext, h]

/-- Writing a context entry leaves the others. -/
theorem State.contextAt_setContext_of_ne (c d : Nat) (x : Option Context) (h : c ≠ d) :
    (s.setContext c x).contextAt d = s.contextAt d := by
  simp [State.contextAt, State.setContext, h]

/-- A controller reads as it was written. -/
theorem State.stringAt_setString_self (n : Nat) (x : StringCtl) (h : n < s.strings.length) :
    (s.setString n x).stringAt n = x := by
  simp [State.stringAt, State.setString, List.getD, h]

/-- Writing a controller leaves the others. -/
theorem State.stringAt_setString_of_ne (n m : Nat) (x : StringCtl) (h : n ≠ m) :
    (s.setString n x).stringAt m = s.stringAt m := by
  simp [State.stringAt, State.setString, List.getD, h]

end Sys2Proof.Machine
end

