-- ==== Sys2Proof/Laws/Frames.lean ====
section
/-! SUPPORT. What the work of the Pick Manager, the Slot Manager, the String Controllers and the report list leaves unchanged,
said once for each shared operation: the queue, the free values' counter, run control but for NOTICE, the intake, the cache, the
lane table, the journal's counts, and the sizes of the tables. -/

namespace Sys2Proof.Machine

/-- What table and string work leaves unchanged. -/
structure Frame where
  pending : List Instr
  freeIndex : Nat
  control : RunControl
  iu : Intake
  ac : Cache
  lanes : List Lane
  sealed : Count
  released : Count
  written : Nat
  sealTimer : Option Nat
  picks : Nat
  contexts : Nat
  modules : List Nat

/-- The part of the state that table and string work leaves unchanged. -/
def State.frame (s : State) : Frame :=
  { pending := s.pending
    freeIndex := s.freeIndex
    control := { s.lrc with notice := 0 }
    iu := s.iu
    ac := s.ac
    lanes := s.pm.lanes
    sealed := s.jw.sealed
    released := s.jw.released
    written := s.jw.written
    sealTimer := s.jw.sealTimer
    picks := s.pm.entries.length
    contexts := s.contexts.length
    modules := s.strings.map fun x => x.modules.length }

/-! ### What two states of one frame share -/

section Shared

variable {s t : State} (h : t.frame = s.frame)
include h

theorem State.pending_of_frame : t.pending = s.pending := congrArg Frame.pending h
theorem State.freeIndex_of_frame : t.freeIndex = s.freeIndex := congrArg Frame.freeIndex h
theorem State.iu_of_frame : t.iu = s.iu := congrArg Frame.iu h
theorem State.ac_of_frame : t.ac = s.ac := congrArg Frame.ac h
theorem State.lanes_of_frame : t.pm.lanes = s.pm.lanes := congrArg Frame.lanes h
theorem State.sealed_of_frame : t.jw.sealed = s.jw.sealed := congrArg Frame.sealed h
theorem State.released_of_frame : t.jw.released = s.jw.released := congrArg Frame.released h
theorem State.written_of_frame : t.jw.written = s.jw.written := congrArg Frame.written h
theorem State.sealTimer_of_frame : t.jw.sealTimer = s.jw.sealTimer := congrArg Frame.sealTimer h
theorem State.picks_of_frame : t.pm.entries.length = s.pm.entries.length := congrArg Frame.picks h
theorem State.contexts_of_frame : t.contexts.length = s.contexts.length := congrArg Frame.contexts h
theorem State.modules_of_frame :
    (t.strings.map fun x => x.modules.length) = s.strings.map fun x => x.modules.length := congrArg Frame.modules h
theorem State.run_of_frame : t.lrc.run = s.lrc.run := congrArg (fun f => f.control.run) h
theorem State.setup_of_frame : t.lrc.setup = s.lrc.setup := congrArg (fun f => f.control.setup) h
theorem State.base_of_frame : t.lrc.base = s.lrc.base := congrArg (fun f => f.control.base) h
theorem State.now_of_frame : t.now = s.now := congrArg (fun f => f.control.clock) h
theorem State.mask_of_frame : t.lrc.mask = s.lrc.mask := congrArg (fun f => f.control.mask) h
theorem State.inRun_of_frame : t.inRun = s.inRun := by simp [State.inRun, State.run_of_frame h]
theorem State.paused_of_frame : t.paused = s.paused := by simp [State.paused, State.run_of_frame h]

end Shared

/-- A fold of operations that each keep the frame keeps it. -/
theorem foldl_frame {α : Type} (f : State → α → State) (hf : ∀ s a, (f s a).frame = s.frame) (l : List α) (s : State) :
    (l.foldl f s).frame = s.frame := by
  induction l generalizing s with
  | nil => rfl
  | cons a l ih => rw [List.foldl_cons, ih, hf]

/-! ### Updates -/

@[simp] theorem State.emit_frame (s : State) (o : Output) : (s.emit o).frame = s.frame := rfl

@[simp] theorem State.setPick_frame (s : State) (i : Nat) (p : Option Pick) : (s.setPick i p).frame = s.frame := by
  simp [State.frame, State.setPick]

@[simp] theorem State.setContext_frame (s : State) (c : Nat) (x : Option Context) : (s.setContext c x).frame = s.frame := by
  simp [State.frame, State.setContext]

@[simp] theorem State.setTiu_frame (s : State) (x : Integrity) : (s.setTiu x).frame = s.frame := rfl

theorem State.setPm_frame (s : State) (x : PickManager) (hl : x.lanes = s.pm.lanes)
    (he : x.entries.length = s.pm.entries.length) : (s.setPm x).frame = s.frame := by
  simp [State.frame, hl, he]

theorem State.setJw_frame (s : State) (x : Journal) (h1 : x.sealed = s.jw.sealed) (h2 : x.released = s.jw.released)
    (h3 : x.written = s.jw.written) (h4 : x.sealTimer = s.jw.sealTimer) : (s.setJw x).frame = s.frame := by
  simp [State.frame, h1, h2, h3, h4]

/-- A controller's write keeps the frame when its address table keeps its size. -/
theorem State.setString_frame (s : State) (n : Nat) (x : StringCtl)
    (h : x.modules.length = (s.stringAt n).modules.length) : (s.setString n x).frame = s.frame := by
  have hm : ((s.strings.set n x).map fun x => x.modules.length) = s.strings.map fun x => x.modules.length := by
    rw [List.map_set]
    apply List.ext_getElem?
    intro i
    by_cases hi : i = n
    · subst hi
      by_cases hn : i < s.strings.length
      · simp [h, State.stringAt, hn]
      · simp at hn
        simp [hn]
    · simp [Ne.symm hi]
  simp [State.frame, State.setString, hm]

@[simp] theorem StringCtl.setLink_size (x : StringCtl) (a : Nat) (m : ModuleLink) :
    (x.setLink a m).modules.length = x.modules.length := by
  unfold StringCtl.setLink
  split <;> simp

@[simp] theorem State.setLink_frame (s : State) (n a : Nat) (m : ModuleLink) : (s.setLink n a m).frame = s.frame :=
  State.setString_frame s n _ (by simp)

@[simp] theorem State.setNotices_frame (s : State) (n : BitVec 6) : (s.setNotices n s.lrc.mask).frame = s.frame := by
  unfold State.setNotices
  split <;> simp [State.frame]

@[simp] theorem State.raise_frame (s : State) (n : Notice) : (s.raise n).frame = s.frame := by simp [State.raise]

@[simp] theorem State.reportFault_frame (s : State) (t : FaultTable) (i : Nat) : (s.reportFault t i).frame = s.frame := by
  unfold State.reportFault
  split <;> simp

/-! ### The report list -/

@[simp] theorem State.appendItem_frame (s : State) (x : Item) : (s.appendItem x).frame = s.frame := rfl

@[simp] theorem State.offer_frame (s : State) (r : OutcomeRecord) : (s.offer r).frame = s.frame := by
  unfold State.offer
  split
  · rfl
  · rfl

@[simp] theorem State.offerAssured_frame (s : State) (r : OutcomeRecord) : (s.offerAssured r).frame = s.frame := rfl

@[simp] theorem State.reserve_frame (s : State) : s.reserve.frame = s.frame := rfl

@[simp] theorem State.offerClosing_frame (s : State) (r : OutcomeRecord) : (s.offerClosing r).frame = s.frame := rfl

/-! ### The pick table -/

@[simp] theorem State.release_frame (s : State) (i : Nat) : (s.release i).frame = s.frame := by
  refine (State.setPm_frame _ _ rfl rfl).trans ?_
  simp

@[simp] theorem State.close_frame (s : State) (i : Nat) (o : Outcome) : (s.close i o).frame = s.frame := by
  unfold State.close
  repeat' split
  all_goals simp

@[simp] theorem State.undefer_frame (s : State) (i : Nat) : (s.undefer i).frame = s.frame := by
  simp [State.undefer, State.setPm_frame]

@[simp] theorem State.settleContext_frame (s : State) (c : Nat) : (s.settleContext c).frame = s.frame := by
  unfold State.settleContext
  repeat' split
  all_goals simp

@[simp] theorem State.dropReference_frame (s : State) (i : Nat) : (s.dropReference i).frame = s.frame := by
  unfold State.dropReference
  dsimp only
  repeat' split
  all_goals simp

@[simp] theorem State.leaveBundle_frame (s : State) (i : Nat) (k : OutcomeKind) (c : Cause) (b : Bool) :
    (s.leaveBundle i k c b).frame = s.frame := by simp [State.leaveBundle]

@[simp] theorem State.markSuspect_frame (s : State) (i : Nat) : (s.markSuspect i).frame = s.frame := by
  unfold State.markSuspect
  repeat' split
  all_goals simp

@[simp] theorem State.damagePick_frame (s : State) (i : Nat) : (s.damagePick i).frame = s.frame := by
  unfold State.damagePick
  repeat' split
  all_goals simp

theorem State.putInto_frame {s t : State} {c i : Nat} {p : Pick} (h : s.putInto c i p = some t) : t.frame = s.frame := by
  unfold State.putInto at h
  simp only [Option.bind_eq_some_iff, Option.map_eq_some_iff] at h
  obtain ⟨c, -, c', -, rfl⟩ := h
  simp

@[simp] theorem State.createFor_frame (s : State) (c i : Nat) (p : Pick) (a : AtlasCopy) :
    (s.createFor c i p a).frame = s.frame := by simp [State.createFor]

@[simp] theorem State.visitDeferred_frame (s : State) (i : Nat) : (s.visitDeferred i).frame = s.frame := by
  unfold State.visitDeferred
  repeat' split
  all_goals first | (rename_i h; rw [State.undefer_frame, State.putInto_frame h]) | simp

@[simp] theorem State.walkDeferred_frame (s : State) : s.walkDeferred.frame = s.frame :=
  foldl_frame _ State.visitDeferred_frame _ _

@[simp] theorem State.handlePick_frame (s : State) (i : Nat) : (s.handlePick i).frame = s.frame := by
  unfold State.handlePick
  dsimp only
  split <;> simp

@[simp] theorem State.handlePicks_frame (s : State) (l : List Nat) : (s.handlePicks l).frame = s.frame :=
  foldl_frame _ State.handlePick_frame _ _

@[simp] theorem State.placementPass_frame (s : State) : s.placementPass.frame = s.frame := by simp [State.placementPass]

@[simp] theorem State.withdraw_frame (s : State) (i : Nat) (k : OutcomeKind) (c : Cause) (b : Bool) :
    (s.withdraw i k c b).frame = s.frame := by simp [State.withdraw]

@[simp] theorem State.readPicks_frame (s : State) (f : Nat → Bool) : (s.readPicks f).frame = s.frame :=
  s.handlePicks_frame _

@[simp] theorem State.checkPick_frame (s : State) (i : Nat) : (s.checkPick i).frame = s.frame := s.readPicks_frame _

@[simp] theorem State.checkPicks_frame (s : State) : s.checkPicks.frame = s.frame := s.readPicks_frame _

@[simp] theorem State.takeFences_frame (s : State) (fs : List Fence) : (s.takeFences fs).frame = s.frame := by
  induction fs generalizing s with
  | nil => rfl
  | cons f fs ih =>
    unfold State.takeFences
    split
    · rw [ih]
      simp [State.setPm_frame]
    · rfl

@[simp] theorem State.judgeFences_frame (s : State) : s.judgeFences.frame = s.frame := by
  unfold State.judgeFences
  split <;> simp

/-! ### The context table -/

@[simp] theorem State.faultVictim_frame (s : State) (i : Nat) : (s.faultVictim i).frame = s.frame := by
  simp [State.faultVictim]

@[simp] theorem State.darkenIfCold_frame (s : State) (c : Context) : (s.darkenIfCold c).frame = s.frame := by
  unfold State.darkenIfCold
  split <;> simp

@[simp] theorem State.emptyContext_frame (s : State) (ci : Nat) (c : Context) : (s.emptyContext ci c).frame = s.frame := by
  unfold State.emptyContext
  dsimp only
  split <;> simp [foldl_frame _ State.faultVictim_frame]

@[simp] theorem State.damageContext_frame (s : State) (c : Nat) : (s.damageContext c).frame = s.frame := by
  unfold State.damageContext
  split <;> simp

@[simp] theorem State.damageInTurn_frame (s : State) (c : Nat) : (s.damageInTurn c).frame = s.frame := by
  unfold State.damageInTurn
  split <;> simp

@[simp] theorem State.damagePickInTurn_frame (s : State) (i : Nat) : (s.damagePickInTurn i).frame = s.frame := by
  unfold State.damagePickInTurn
  split <;> simp

@[simp] theorem State.damageContexts_frame (s : State) (bad : List Nat) : (s.damageContexts bad).frame = s.frame := by
  unfold State.damageContexts
  dsimp only
  split
  · rw [foldl_frame _ State.damagePickInTurn_frame, foldl_frame _ State.damageInTurn_frame]
  · rw [foldl_frame _ State.damageInTurn_frame]

@[simp] theorem State.closeClaim_frame (s : State) (c n : Nat) : (s.closeClaim c n).frame = s.frame := by
  unfold State.closeClaim
  split <;> simp

@[simp] theorem State.closeBundle_frame (s : State) (n : Nat) (b : Bool) (p : Nat) (is cs : List Nat) :
    (s.closeBundle n b p is cs).frame = s.frame := by
  induction is generalizing s p cs with
  | nil => unfold State.closeBundle; rfl
  | cons i is ih =>
    cases cs with
    | nil => unfold State.closeBundle; rfl
    | cons c cs => unfold State.closeBundle; rw [ih]; simp

@[simp] theorem State.confirm_frame (s : State) (c : Nat) (k : Claim) (n : Nat) (b : Bool) :
    (s.confirm c k n b).frame = s.frame := by
  unfold State.confirm
  dsimp only
  split <;> simp

/-! ### Presses -/

@[simp] theorem State.strayPress_frame (s : State) (n a : Nat) (e : PressEvent) (c : Cause) (slot l : Nat) :
    (s.strayPress n a e c slot l).frame = s.frame := by
  unfold State.strayPress
  repeat' split
  all_goals simp

@[simp] theorem State.adjustPress_frame (s : State) (n a : Nat) (e : PressEvent) (c : Nat) (k : Claim) :
    (s.adjustPress n a e c k).frame = s.frame := by
  unfold State.adjustPress
  repeat' split
  all_goals simp

@[simp] theorem State.confirmPress_frame (s : State) (c : Nat) (k : Claim) (q : Nat) :
    (s.confirmPress c k q).frame = s.frame := by
  unfold State.confirmPress
  repeat' split
  all_goals simp

@[simp] theorem State.checkPressed_frame (s : State) (n a : Nat) (e : PressEvent) :
    (s.checkPressed n a e).frame = s.frame := by
  unfold State.checkPressed
  split
  · simp
  · rfl

@[simp] theorem State.attributePress_frame (s : State) (n a : Nat) (e : PressEvent) :
    (s.attributePress n a e).frame = s.frame := by
  unfold State.attributePress
  dsimp only
  repeat' split
  all_goals simp

@[simp] theorem State.attributeAll_frame (s : State) (n a : Nat) (es : List PressEvent) :
    (s.attributeAll n a es).frame = s.frame :=
  foldl_frame (fun s e => State.attributePress s n a e) (fun s e => State.attributePress_frame s n a e) es s

/-! ### String controllers -/

@[simp] theorem StringCtl.enterQuiet_size (x : StringCtl) : x.enterQuiet.modules = x.modules := rfl
@[simp] theorem StringCtl.wake_size (x : StringCtl) : x.wake.modules = x.modules := rfl
@[simp] theorem StringCtl.enterActive_size (x : StringCtl) : x.enterActive.modules = x.modules := rfl
@[simp] theorem StringCtl.enterSurvey_size (x : StringCtl) (p : Purpose) (b : Bool) :
    (x.enterSurvey p b).modules = x.modules := rfl
@[simp] theorem StringCtl.enterSettling_size (x : StringCtl) (p : Purpose) : (x.enterSettling p).modules = x.modules := rfl
@[simp] theorem StringCtl.enterTest_size (x : StringCtl) (k : Nat) : (x.enterTest k).modules = x.modules := rfl

@[simp] theorem StringCtl.enterDormant_size (x : StringCtl) : x.enterDormant.modules = x.modules := by
  unfold StringCtl.enterDormant
  split <;> rfl

@[simp] theorem State.settleMode_frame (s : State) (n : Nat) : (s.settleMode n).frame = s.frame := by
  unfold State.settleMode
  dsimp only
  repeat' split
  all_goals first | simp [State.setString_frame] | (rw [State.setString_frame _ _ _ (by simp)]; try simp)

@[simp] theorem State.offerModule_frame (s : State) (n a : Nat) (k : RecordKind) (c : Cause) :
    (s.offerModule n a k c).frame = s.frame := by
  unfold State.offerModule
  split <;> simp

@[simp] theorem State.offerString_frame (s : State) (n : Nat) (k : RecordKind) (c : Cause) (m : Nat) :
    (s.offerString n k c m).frame = s.frame := by
  unfold State.offerString
  split <;> simp

@[simp] theorem State.closeSurvey_frame (s : State) (n m : Nat) : (s.closeSurvey n m).frame = s.frame := by
  unfold State.closeSurvey
  split <;> simp

@[simp] theorem State.startBroadcast_frame (s : State) (n : Nat) (b : Broadcast) :
    (s.startBroadcast n b).frame = s.frame := by simp [State.startBroadcast, State.setString_frame]

@[simp] theorem State.startPoll_frame (s : State) (n a : Nat) (w : Bool) : (s.startPoll n a w).frame = s.frame := by
  simp [State.startPoll, State.setString_frame]

@[simp] theorem State.startDark_frame (s : State) (n a : Nat) (w : Bool) : (s.startDark n a w).frame = s.frame := by
  simp [State.startDark, State.setString_frame]

@[simp] theorem State.stringAt_setContext (s : State) (c : Nat) (x : Option Context) (n : Nat) :
    (s.setContext c x).stringAt n = s.stringAt n := rfl

@[simp] theorem State.startFaces_frame (s : State) (n a ci : Nat) (c : Context) :
    (s.startFaces n a ci c).frame = s.frame := by
  unfold State.startFaces
  rw [State.emit_frame, State.setString_frame _ _ _ (by simp), State.setContext_frame]

@[simp] theorem State.hotTurn_frame (s : State) (n a : Nat) : (s.hotTurn n a).frame = s.frame := by
  unfold State.hotTurn
  dsimp only
  repeat' split
  all_goals simp [State.setString_frame]

@[simp] theorem State.coldTurnAt_frame (s : State) (n a : Nat) : (s.coldTurnAt n a).frame = s.frame := by
  unfold State.coldTurnAt
  dsimp only
  split <;> simp [State.setString_frame]

@[simp] theorem State.roundTurn_frame (s : State) (n : Nat) : (s.roundTurn n).frame = s.frame := by
  unfold State.roundTurn
  dsimp only
  repeat' split
  all_goals simp [State.setString_frame]

@[simp] theorem State.sweepTurn_frame (s : State) (n : Nat) (w : Sweep) : (s.sweepTurn n w).frame = s.frame := by
  unfold State.sweepTurn
  split <;> simp

@[simp] theorem State.quietTurn_frame (s : State) (n : Nat) : (s.quietTurn n).frame = s.frame := by
  unfold State.quietTurn
  dsimp only
  repeat' split
  all_goals simp [State.setString_frame]

@[simp] theorem State.endSurvey_frame (s : State) (n : Nat) (w : Sweep) : (s.endSurvey n w).frame = s.frame := by
  unfold State.endSurvey
  dsimp only
  split <;> first | simp [State.setString_frame] | (rw [State.setString_frame _ _ _ (by simp)]; try simp)

@[simp] theorem State.endSweep_frame (s : State) (n : Nat) : (s.endSweep n).frame = s.frame := by
  unfold State.endSweep
  dsimp only
  repeat' split
  all_goals first | simp | (rw [State.setString_frame _ _ _ (by simp)]; try simp)

@[simp] theorem State.turn_frame (s : State) (n : Nat) : (s.turn n).frame = s.frame := by
  unfold State.turn
  dsimp only
  repeat' split
  all_goals simp

@[simp] theorem State.runLine_frame (s : State) (n : Nat) : (s.runLine n).frame = s.frame := by
  unfold State.runLine
  dsimp only
  repeat' split
  all_goals simp [State.setString_frame]

theorem State.eachString_frame (s : State) (f : State → Nat → State) (hf : ∀ s n, (f s n).frame = s.frame) :
    (s.eachString f).frame = s.frame := foldl_frame _ hf _ _

@[simp] theorem State.kick_frame (s : State) : s.kick.frame = s.frame := State.eachString_frame s _ State.runLine_frame

@[simp] theorem State.checkContexts_frame (s : State) : s.checkContexts.frame = s.frame := by
  unfold State.checkContexts
  split <;> simp

@[simp] theorem State.releaseContext_frame (s : State) (c : Nat) : (s.releaseContext c).frame = s.frame := by
  unfold State.releaseContext
  repeat' split
  all_goals simp

@[simp] theorem State.reportContext_frame (s : State) (ci : Nat) (c : Context) : (s.reportContext ci c).frame = s.frame := by
  simp [State.reportContext]

@[simp] theorem State.displayReport_frame (s : State) (c : Nat) (b : Bool) (g : Nat) :
    (s.displayReport c b g).frame = s.frame := by
  unfold State.displayReport
  split <;> simp

@[simp] theorem State.restartDormancy_frame (s : State) (n a : Nat) (r : Reply) :
    (s.restartDormancy n a r).frame = s.frame := by
  unfold State.restartDormancy
  split <;> simp [State.setString_frame]

@[simp] theorem State.hearPresses_frame (s : State) (n a : Nat) (k : ExchangeKind) (r : Reply) :
    (s.hearPresses n a k r).frame = s.frame := by
  unfold State.hearPresses
  rw [apply_ite State.frame]
  simp

@[simp] theorem State.hearStatus_frame (s : State) (n a : Nat) (b : Bool) (r : Reply) :
    (s.hearStatus n a b r).frame = s.frame := by
  unfold State.hearStatus
  dsimp only
  repeat' split
  all_goals simp

@[simp] theorem State.handleReply_frame (s : State) (n a : Nat) (k : ExchangeKind) (r : Reply) :
    (s.handleReply n a k r).frame = s.frame := by simp [State.handleReply]

@[simp] theorem State.sweepHeard_frame (s : State) (n a : Nat) (k : ExchangeKind) (r : Reply) :
    (s.sweepHeard n a k r).frame = s.frame := by
  unfold State.sweepHeard
  dsimp only
  split <;> simp [State.setString_frame]

@[simp] theorem State.reportLost_frame (s : State) (n a : Nat) : (s.reportLost n a).frame = s.frame := by
  unfold State.reportLost
  repeat' split
  all_goals simp

@[simp] theorem State.becomeLost_frame (s : State) (n a : Nat) :
    (s.becomeLost n a).frame = s.frame := by simp [State.becomeLost]

@[simp] theorem State.dropPending_frame (s : State) (n a : Nat) : (s.dropPending n a).frame = s.frame := by
  unfold State.dropPending
  repeat' split
  all_goals simp

@[simp] theorem State.missHot_frame (s : State) (n a : Nat) (k : ExchangeKind) : (s.missHot n a k).frame = s.frame := by
  unfold State.missHot
  dsimp only
  repeat' split
  all_goals simp

@[simp] theorem State.handleMiss_frame (s : State) (n a : Nat) (k : ExchangeKind) (w : Bool) :
    (s.handleMiss n a k w).frame = s.frame := by
  unfold State.handleMiss
  split <;> simp

@[simp] theorem State.sweepMissed_frame (s : State) (n a : Nat) (k : ExchangeKind) :
    (s.sweepMissed n a k).frame = s.frame := by
  unfold State.sweepMissed
  dsimp only
  split <;> simp [State.setString_frame]

@[simp] theorem State.endLine_frame (s : State) (n : Nat) : (s.endLine n).frame = s.frame := by
  simp [State.endLine, State.setString_frame]

@[simp] theorem State.exchangeHeard_frame (s : State) (n a : Nat) (k : ExchangeKind) (w : Bool) (r : Reply) :
    (s.exchangeHeard n a k w r).frame = s.frame := by
  unfold State.exchangeHeard
  dsimp only
  split <;> simp

@[simp] theorem State.exchangeMissed_frame (s : State) (n a : Nat) (k : ExchangeKind) (w : Bool) :
    (s.exchangeMissed n a k w).frame = s.frame := by
  unfold State.exchangeMissed
  dsimp only
  split <;> simp

@[simp] theorem State.feedCloses_frame (s : State) (n : Nat) : (s.feedCloses n).frame = s.frame := by
  unfold State.feedCloses
  split <;> simp

@[simp] theorem State.feedModules_length (s : State) (n a : Nat) (l : List ModuleLink) :
    (s.feedModules n a l).length = l.length := by
  induction l generalizing a with
  | nil => rfl
  | cons m l ih => simp [State.feedModules, ih]

@[simp] theorem State.dropInFlight_frame (s : State) (n : Nat) : (s.dropInFlight n).frame = s.frame := by
  unfold State.dropInFlight
  split <;> simp

@[simp] theorem State.feedLoses_frame (s : State) (n a : Nat) : (s.feedLoses n a).frame = s.frame := by
  simp [State.feedLoses]

/-- Controllers of states of one frame have address tables of one size. -/
theorem State.stringAt_size_of_frame {s t : State} (h : t.frame = s.frame) (n : Nat) :
    (t.stringAt n).modules.length = (s.stringAt n).modules.length := by
  have hm := State.modules_of_frame h
  have hn := congrArg (fun l => l[n]?) hm
  simp only [List.getElem?_map] at hn
  unfold State.stringAt List.getD
  cases ht : t.strings[n]? <;> cases hs : s.strings[n]? <;> simp_all

@[simp] theorem State.takeFeedFault_frame (s : State) (n : Nat) : (s.takeFeedFault n).frame = s.frame := by
  unfold State.takeFeedFault
  dsimp only
  have h : ((s.dropInFlight n).feedCloses n).frame = s.frame := by simp
  rw [State.raise_frame, foldl_frame (fun (t : State) a => t.feedLoses n a) fun t a => by simp]
  rw [State.setString_frame, h]
  simp [StringCtl.trip, State.stringAt_size_of_frame h]

@[simp] theorem State.judgeFeed_frame (s : State) (n : Nat) : (s.judgeFeed n).frame = s.frame := by
  unfold State.judgeFeed
  dsimp only
  repeat' split
  all_goals simp [State.setString_frame]

end Sys2Proof.Machine
end

