-- ==== Sys2Proof/Laws/Turns.lean ====
section
/-! SUPPORT. What the controllers leave unchanged when they take up their lines, said once for each shared operation: every block
but the strings, the contexts' pending sets, the report list and the output; and that entries with good parity are read unchanged. -/

namespace Sys2Proof.Machine

/-- What the taking up of the lines leaves unchanged. -/
structure Still where
  pending : List Instr
  freeIndex : Nat
  lrc : RunControl
  iu : Intake
  ac : Cache
  pm : PickManager
  tiu : Integrity
  lost : Nat

/-- The part of the state that the taking up of the lines leaves unchanged. -/
def State.still (s : State) : Still :=
  { pending := s.pending, freeIndex := s.freeIndex, lrc := s.lrc, iu := s.iu, ac := s.ac, pm := s.pm, tiu := s.tiu,
    lost := s.jw.lost }

section Shared

variable {s t : State} (h : t.still = s.still)
include h

theorem State.lrc_of_still : t.lrc = s.lrc := congrArg Still.lrc h
theorem State.iu_of_still : t.iu = s.iu := congrArg Still.iu h
theorem State.ac_of_still : t.ac = s.ac := congrArg Still.ac h
theorem State.pm_of_still : t.pm = s.pm := congrArg Still.pm h
theorem State.tiu_of_still : t.tiu = s.tiu := congrArg Still.tiu h
theorem State.lost_of_still : t.jw.lost = s.jw.lost := congrArg Still.lost h

end Shared

@[simp] theorem State.emit_still (s : State) (o : Output) : (s.emit o).still = s.still := rfl
@[simp] theorem State.setString_still (s : State) (n : Nat) (x : StringCtl) : (s.setString n x).still = s.still := rfl
@[simp] theorem State.setStrings_still (s : State) (x : List StringCtl) : (s.setStrings x).still = s.still := rfl
@[simp] theorem State.setLink_still (s : State) (n a : Nat) (m : ModuleLink) : (s.setLink n a m).still = s.still := rfl
@[simp] theorem State.setContext_still (s : State) (c : Nat) (x : Option Context) : (s.setContext c x).still = s.still := rfl
@[simp] theorem State.setContexts_still (s : State) (x : List ContextEntry) : (s.setContexts x).still = s.still := rfl
@[simp] theorem State.offerClosing_still (s : State) (r : OutcomeRecord) : (s.offerClosing r).still = s.still := rfl

@[simp] theorem State.settleMode_still (s : State) (n : Nat) : (s.settleMode n).still = s.still := by
  unfold State.settleMode
  dsimp only
  repeat' split
  all_goals simp

@[simp] theorem State.offerString_still (s : State) (n : Nat) (k : RecordKind) (c : Cause) (m : Nat) :
    (s.offerString n k c m).still = s.still := by
  unfold State.offerString
  split <;> simp

@[simp] theorem State.closeSurvey_still (s : State) (n m : Nat) : (s.closeSurvey n m).still = s.still := by
  unfold State.closeSurvey
  split <;> simp

@[simp] theorem State.startBroadcast_still (s : State) (n : Nat) (b : Broadcast) :
    (s.startBroadcast n b).still = s.still := rfl

@[simp] theorem State.startPoll_still (s : State) (n a : Nat) (w : Bool) : (s.startPoll n a w).still = s.still := rfl
@[simp] theorem State.startDark_still (s : State) (n a : Nat) (w : Bool) : (s.startDark n a w).still = s.still := rfl
@[simp] theorem State.startFaces_still (s : State) (n a ci : Nat) (c : Context) :
    (s.startFaces n a ci c).still = s.still := rfl

@[simp] theorem State.hotTurn_still (s : State) (n a : Nat) : (s.hotTurn n a).still = s.still := by
  unfold State.hotTurn
  dsimp only
  repeat' split
  all_goals simp

@[simp] theorem State.coldTurnAt_still (s : State) (n a : Nat) : (s.coldTurnAt n a).still = s.still := by
  unfold State.coldTurnAt
  dsimp only
  split <;> simp

@[simp] theorem State.roundTurn_still (s : State) (n : Nat) : (s.roundTurn n).still = s.still := by
  unfold State.roundTurn
  dsimp only
  repeat' split
  all_goals simp

@[simp] theorem State.sweepTurn_still (s : State) (n : Nat) (w : Sweep) : (s.sweepTurn n w).still = s.still := by
  unfold State.sweepTurn
  split <;> simp

@[simp] theorem State.quietTurn_still (s : State) (n : Nat) : (s.quietTurn n).still = s.still := by
  unfold State.quietTurn
  dsimp only
  repeat' split
  all_goals simp

@[simp] theorem State.endSurvey_still (s : State) (n : Nat) (w : Sweep) : (s.endSurvey n w).still = s.still := by
  unfold State.endSurvey
  dsimp only
  split <;> simp

@[simp] theorem State.endSweep_still (s : State) (n : Nat) : (s.endSweep n).still = s.still := by
  unfold State.endSweep
  dsimp only
  repeat' split
  all_goals simp

@[simp] theorem State.turn_still (s : State) (n : Nat) : (s.turn n).still = s.still := by
  unfold State.turn
  dsimp only
  repeat' split
  all_goals simp

@[simp] theorem State.runLine_still (s : State) (n : Nat) : (s.runLine n).still = s.still := by
  unfold State.runLine
  dsimp only
  repeat' split
  all_goals simp

@[simp] theorem State.kick_still (s : State) : s.kick.still = s.still := by
  simp [State.kick, State.eachString]

/-! ### The taking up of the lines, block by block -/

@[simp] theorem State.kick_pending (s : State) : s.kick.pending = s.pending := congrArg Still.pending s.kick_still
@[simp] theorem State.kick_freeIndex (s : State) : s.kick.freeIndex = s.freeIndex := congrArg Still.freeIndex s.kick_still
@[simp] theorem State.kick_lrc (s : State) : s.kick.lrc = s.lrc := State.lrc_of_still s.kick_still
@[simp] theorem State.kick_iu (s : State) : s.kick.iu = s.iu := State.iu_of_still s.kick_still
@[simp] theorem State.kick_ac (s : State) : s.kick.ac = s.ac := State.ac_of_still s.kick_still
@[simp] theorem State.kick_pm (s : State) : s.kick.pm = s.pm := State.pm_of_still s.kick_still
@[simp] theorem State.kick_tiu (s : State) : s.kick.tiu = s.tiu := State.tiu_of_still s.kick_still
@[simp] theorem State.kick_lost (s : State) : s.kick.jw.lost = s.jw.lost := State.lost_of_still s.kick_still
@[simp] theorem State.kick_sealed (s : State) : s.kick.jw.sealed = s.jw.sealed := State.sealed_of_frame s.kick_frame
@[simp] theorem State.kick_released (s : State) : s.kick.jw.released = s.jw.released := State.released_of_frame s.kick_frame
@[simp] theorem State.kick_written (s : State) : s.kick.jw.written = s.jw.written := State.written_of_frame s.kick_frame

/-! ### Entries with good parity -/

theorem placesFrom_none {α : Type} (test : α → Bool) (l : List α) (n : Nat) (h : ∀ x ∈ l, test x = false) :
    placesFrom test n l = [] := by
  induction l generalizing n with
  | nil => rfl
  | cons x xs ih =>
    rw [placesFrom, h x (by simp)]
    exact ih (n + 1) fun y hy => h y (by simp [hy])

/-- No context entry fails its check: the context table is read unchanged. -/
theorem State.checkContexts_of_intact (s : State) (h : ∀ e ∈ s.contexts, e.parity = true) : s.checkContexts = s := by
  unfold State.checkContexts State.badContexts
  rw [placesFrom_none _ _ _ fun x hx => by simp [h x hx]]
  rfl

/-- No pick entry fails its check: none is damaged. -/
theorem State.badPicks_of_intact (s : State) (h : ∀ e ∈ s.pm.entries, e.parity = true) : s.badPicks = [] :=
  placesFrom_none _ _ _ fun x hx => by simp [h x hx]

/-- No pick entry fails its check: any entries are read unchanged. -/
theorem State.readPicks_of_intact (s : State) (h : ∀ e ∈ s.pm.entries, e.parity = true) (f : Nat → Bool) :
    s.readPicks f = s := by
  unfold State.readPicks State.found
  rw [s.badPicks_of_intact h]
  rfl

/-- No pick entry fails its check: the pick table is scanned unchanged. -/
theorem State.checkPicks_of_intact (s : State) (h : ∀ e ∈ s.pm.entries, e.parity = true) : s.checkPicks = s :=
  s.readPicks_of_intact h _

/-- An entry of a table with good parity is read unchanged. -/
theorem State.checkPick_of_intact (s : State) (h : ∀ e ∈ s.pm.entries, e.parity = true) (i : Nat) : s.checkPick i = s :=
  s.readPicks_of_intact h _

/-- With good parity a placement pass is its walk of the deferred list. -/
theorem State.placementPass_of_intact (s : State) (h : ∀ e ∈ s.pm.entries, e.parity = true) :
    s.placementPass = s.walkDeferred := by
  unfold State.placementPass
  rw [s.badPicks_of_intact h]
  rfl

/-- An entry of a table with good parity passes its check. -/
theorem State.pickIntact_of_intact (s : State) (h : ∀ e ∈ s.pm.entries, e.parity = true) (i : Nat) :
    s.pickIntact i = true := by
  unfold State.pickIntact
  cases hi : s.pm.entries[i]? with
  | none => rfl
  | some e => simpa using h e (List.mem_of_getElem? hi)

/-- With good parity no deferred pick would join a damaged entry. -/
theorem State.joinsDamaged_of_intact (s : State) (h : ∀ e ∈ s.pm.entries, e.parity = true) (i : Nat) :
    s.joinsDamaged i = false := by
  unfold State.joinsDamaged
  cases s.pickAt i with
  | none => rfl
  | some p => simp only [s.pickIntact_of_intact h]; cases _ : Option.bind _ _ <;> simp

/-- With good parity no deferred pick is held up: a placement pass tries each of them. -/
theorem State.heldUp_of_intact (s : State) (h : ∀ e ∈ s.pm.entries, e.parity = true) (i : Nat) : s.heldUp i = false := by
  simp [State.heldUp, s.joinsDamaged_of_intact h]

/-- Tables with good parity are read unchanged. -/
theorem State.checkTables_of_intact (s : State) (h : s.Intact) : s.checkTables = s := by
  unfold State.checkTables
  rw [s.checkContexts_of_intact h.2.1, s.checkPicks_of_intact h.1]

/-- A way of a cache with good parity is read unchanged. -/
theorem State.checkWay_of_intact (s : State) (h : ∀ w ∈ s.ac.ways, w.parity = true) (i : Nat)
    (hi : i < s.ac.ways.length) : s.checkWay i = s := by
  unfold State.checkWay State.wayAt
  rw [if_pos]
  simp [List.getD, hi, h]

end Sys2Proof.Machine
end

