-- ==== Sys2Proof/Laws/Fetches.lean ====
section
/-! SUPPORT. What the Atlas Cache's lookups and fetches, and the record fetches, leave unchanged, said once for each shared
operation: the tables, the strings, the journal, the intake's queue and counts, run control but for NOTICE, the cache's sizes. -/

namespace Sys2Proof.Machine

/-- What lookups and fetches leave unchanged. -/
structure Outside where
  pending : List Instr
  freeIndex : Nat
  control : RunControl
  pm : PickManager
  contexts : List ContextEntry
  strings : List StringCtl
  jw : Journal
  queue : List TaskRecord
  posted : Count
  taken : Count
  qualifiers : QualifierSet
  poll : ReadState
  consumed : Bool
  ways : Nat
  lru : Nat

/-- The part of the state that lookups and fetches leave unchanged. -/
def State.outside (s : State) : Outside :=
  { pending := s.pending, freeIndex := s.freeIndex, control := { s.lrc with notice := 0 }, pm := s.pm, contexts := s.contexts
    strings := s.strings, jw := s.jw, queue := s.iu.queue, posted := s.iu.posted, taken := s.iu.taken
    qualifiers := s.iu.qualifiers, poll := s.iu.poll, consumed := s.iu.consumed, ways := s.ac.ways.length
    lru := s.ac.lru.length }

section Shared

variable {s t : State} (h : t.outside = s.outside)
include h

theorem State.pending_of_outside : t.pending = s.pending := congrArg Outside.pending h
theorem State.freeIndex_of_outside : t.freeIndex = s.freeIndex := congrArg Outside.freeIndex h
theorem State.pm_of_outside : t.pm = s.pm := congrArg Outside.pm h
theorem State.contexts_of_outside : t.contexts = s.contexts := congrArg Outside.contexts h
theorem State.strings_of_outside : t.strings = s.strings := congrArg Outside.strings h
theorem State.jw_of_outside : t.jw = s.jw := congrArg Outside.jw h
theorem State.queue_of_outside : t.iu.queue = s.iu.queue := congrArg Outside.queue h
theorem State.posted_of_outside : t.iu.posted = s.iu.posted := congrArg Outside.posted h
theorem State.taken_of_outside : t.iu.taken = s.iu.taken := congrArg Outside.taken h
theorem State.qualifiers_of_outside : t.iu.qualifiers = s.iu.qualifiers := congrArg Outside.qualifiers h
theorem State.ways_of_outside : t.ac.ways.length = s.ac.ways.length := congrArg Outside.ways h
theorem State.lru_of_outside : t.ac.lru.length = s.ac.lru.length := congrArg Outside.lru h
theorem State.run_of_outside : t.lrc.run = s.lrc.run := congrArg (fun f => f.control.run) h
theorem State.setup_of_outside : t.lrc.setup = s.lrc.setup := congrArg (fun f => f.control.setup) h
theorem State.mask_of_outside : t.lrc.mask = s.lrc.mask := congrArg (fun f => f.control.mask) h
theorem State.clock_of_outside : t.lrc.clock = s.lrc.clock := congrArg (fun f => f.control.clock) h

end Shared

@[simp] theorem State.emit_outside (s : State) (o : Output) : (s.emit o).outside = s.outside := rfl
@[simp] theorem State.setTiu_outside (s : State) (x : Integrity) : (s.setTiu x).outside = s.outside := rfl

@[simp] theorem State.linkWrite_outside (s : State) (o : Nat) (d : List Byte) : (s.linkWrite o d).outside = s.outside := by
  unfold State.linkWrite
  split <;> rfl

@[simp] theorem State.linkRead_outside (s : State) (o b : Nat) : (s.linkRead o b).outside = s.outside := by
  unfold State.linkRead
  split <;> rfl

@[simp] theorem State.partLine_outside (s : State) : s.partLine.outside = s.outside := by simp [State.partLine]

theorem State.setAc_outside (s : State) (x : Cache) (h1 : x.ways.length = s.ac.ways.length)
    (h2 : x.lru.length = s.ac.lru.length) : (s.setAc x).outside = s.outside := by
  simp [State.outside, h1, h2]

theorem State.setIu_outside (s : State) (x : Intake) (h1 : x.queue = s.iu.queue) (h2 : x.posted = s.iu.posted)
    (h3 : x.taken = s.iu.taken) (h4 : x.qualifiers = s.iu.qualifiers) (h5 : x.poll = s.iu.poll)
    (h6 : x.consumed = s.iu.consumed) : (s.setIu x).outside = s.outside := by
  simp [State.outside, h1, h2, h3, h4, h5, h6]

@[simp] theorem State.setNotices_outside (s : State) (n : BitVec 6) : (s.setNotices n s.lrc.mask).outside = s.outside := by
  unfold State.setNotices
  split <;> simp [State.outside]

@[simp] theorem State.raise_outside (s : State) (n : Notice) : (s.raise n).outside = s.outside := by simp [State.raise]
@[simp] theorem State.lower_outside (s : State) (n : Notice) : (s.lower n).outside = s.outside := by simp [State.lower]

@[simp] theorem State.judgeJournal_outside (s : State) (b : Bool) : (s.judgeJournal b).outside = s.outside := by
  unfold State.judgeJournal
  repeat' split
  all_goals simp

@[simp] theorem State.reportFault_outside (s : State) (t : FaultTable) (i : Nat) :
    (s.reportFault t i).outside = s.outside := by
  unfold State.reportFault
  split <;> simp

@[simp] theorem State.setWay_outside (s : State) (i : Nat) (w : Way) : (s.setWay i w).outside = s.outside :=
  s.setAc_outside _ (by simp) rfl

@[simp] theorem State.setLru_outside (s : State) (i : Nat) (b : Bool) : (s.setLru i b).outside = s.outside :=
  s.setAc_outside _ rfl (by simp)

@[simp] theorem State.invalidateWay_outside (s : State) (i : Nat) : (s.invalidateWay i).outside = s.outside := by
  simp [State.invalidateWay]

@[simp] theorem State.checkWay_outside (s : State) (i : Nat) : (s.checkWay i).outside = s.outside := by
  unfold State.checkWay
  split <;> simp

@[simp] theorem State.checkSet_outside (s : State) (slot : Nat) : (s.checkSet slot).outside = s.outside := by
  simp [State.checkSet]

@[simp] theorem State.install_outside (s : State) (slot : Nat) (f : AtlasFields) :
    (s.install slot f).outside = s.outside := by simp [State.install]

@[simp] theorem State.lookup_outside (s : State) (slot : Nat) : (s.lookup slot).1.outside = s.outside := by
  unfold State.lookup
  dsimp only
  repeat' split
  all_goals simp [State.setAc_outside]

@[simp] theorem State.demand_outside (s : State) (slot : Nat) : (s.demand slot).outside = s.outside := by
  unfold State.demand State.readEntry
  split <;> simp [State.setAc_outside, State.setIu_outside]

@[simp] theorem State.askAtlas_outside (s : State) (slot : Nat) : (s.askAtlas slot).1.outside = s.outside := by
  unfold State.askAtlas
  have h := s.lookup_outside slot
  split <;> simp_all

@[simp] theorem State.offerHead_outside (s : State) : s.offerHead.outside = s.outside := by
  unfold State.offerHead
  repeat' split
  all_goals simp

@[simp] theorem State.startAhead_outside (s : State) (slot : Nat) : (s.startAhead slot).outside = s.outside := by
  simp [State.startAhead, State.readEntry, State.setAc_outside]

@[simp] theorem State.seekCandidate_outside (s : State) (l : List TaskRecord) :
    (s.seekCandidate l).outside = s.outside := by
  induction l generalizing s with
  | nil => rfl
  | cons r l ih =>
    unfold State.seekCandidate
    dsimp only
    repeat' split
    all_goals simp [ih]

@[simp] theorem State.candidateSearch_outside (s : State) : s.candidateSearch.outside = s.outside := by
  unfold State.candidateSearch
  split <;> simp

@[simp] theorem State.startRecordFetch_outside (s : State) : s.startRecordFetch.outside = s.outside := by
  unfold State.startRecordFetch
  repeat' split
  · rfl
  · rw [State.setIu_outside] <;> simp [State.linkRead]
    all_goals split <;> rfl
  · rfl

@[simp] theorem State.afterHead_outside (s : State) : s.afterHead.outside = s.outside := by simp [State.afterHead]

@[simp] theorem State.dropWay_outside (a b : Nat) (s : State) (i : Nat) : (s.dropWay a b i).outside = s.outside := by
  unfold State.dropWay
  dsimp only
  split <;> simp

/-- A fold of operations that each keep the outside keeps it. -/
theorem foldl_outside {α : Type} (f : State → α → State) (hf : ∀ s a, (f s a).outside = s.outside) (l : List α) (s : State) :
    (l.foldl f s).outside = s.outside := by
  induction l generalizing s with
  | nil => rfl
  | cons a l ih => rw [List.foldl_cons, ih, hf]

end Sys2Proof.Machine
end

