-- ==== Sys2Proof/Laws/Notices.lean ====
section
/-! SUPPORT. What a change of the notices and a write or read of host memory does, said once for each shared operation and field. -/

namespace Sys2Proof.Machine

variable (s : State)

/-! ### Notices -/

/-- A change of the notices writes the flags and the mask. -/
@[simp] theorem State.setNotices_lrc (n m : BitVec 6) :
    (s.setNotices n m).lrc = { s.lrc with notice := n, mask := m } := by
  unfold State.setNotices
  dsimp only
  split <;> rfl

/-- A change of the notices sends one message when the enabled set goes from empty to non-empty (R161). -/
theorem State.setNotices_out (n m : BitVec 6) :
    (s.setNotices n m).out =
      s.out ++ (if s.lrc.notice &&& s.lrc.mask = 0 ∧ n &&& m ≠ 0 then [.message] else []) := by
  unfold State.setNotices
  dsimp only
  by_cases h : s.lrc.notice &&& s.lrc.mask = 0 ∧ n &&& m ≠ 0
  · rw [if_pos h, if_pos (by simpa using h)]; rfl
  · rw [if_neg h, if_neg (by simpa using h)]; simp

/-- A change of the notices touches run control and the output alone. -/
theorem State.setNotices_eq (n m : BitVec 6) :
    s.setNotices n m = { s with lrc := { s.lrc with notice := n, mask := m }, out := (s.setNotices n m).out } := by
  unfold State.setNotices
  dsimp only
  split <;> rfl

@[simp] theorem State.setNotices_pending (n m : BitVec 6) : (s.setNotices n m).pending = s.pending := by rw [State.setNotices_eq]
@[simp] theorem State.setNotices_freeIndex (n m : BitVec 6) : (s.setNotices n m).freeIndex = s.freeIndex := by rw [State.setNotices_eq]
@[simp] theorem State.setNotices_iu (n m : BitVec 6) : (s.setNotices n m).iu = s.iu := by rw [State.setNotices_eq]
@[simp] theorem State.setNotices_ac (n m : BitVec 6) : (s.setNotices n m).ac = s.ac := by rw [State.setNotices_eq]
@[simp] theorem State.setNotices_pm (n m : BitVec 6) : (s.setNotices n m).pm = s.pm := by rw [State.setNotices_eq]
@[simp] theorem State.setNotices_contexts (n m : BitVec 6) : (s.setNotices n m).contexts = s.contexts := by rw [State.setNotices_eq]
@[simp] theorem State.setNotices_strings (n m : BitVec 6) : (s.setNotices n m).strings = s.strings := by rw [State.setNotices_eq]
@[simp] theorem State.setNotices_jw (n m : BitVec 6) : (s.setNotices n m).jw = s.jw := by rw [State.setNotices_eq]
@[simp] theorem State.setNotices_tiu (n m : BitVec 6) : (s.setNotices n m).tiu = s.tiu := by rw [State.setNotices_eq]

/-- A raise sets one flag. -/
@[simp] theorem State.raise_lrc (n : Notice) : (s.raise n).lrc = { s.lrc with notice := s.lrc.notice ||| n.bit } := by
  simp [State.raise]

@[simp] theorem State.raise_pending (n : Notice) : (s.raise n).pending = s.pending := by simp [State.raise]
@[simp] theorem State.raise_freeIndex (n : Notice) : (s.raise n).freeIndex = s.freeIndex := by simp [State.raise]
@[simp] theorem State.raise_iu (n : Notice) : (s.raise n).iu = s.iu := by simp [State.raise]
@[simp] theorem State.raise_ac (n : Notice) : (s.raise n).ac = s.ac := by simp [State.raise]
@[simp] theorem State.raise_pm (n : Notice) : (s.raise n).pm = s.pm := by simp [State.raise]
@[simp] theorem State.raise_contexts (n : Notice) : (s.raise n).contexts = s.contexts := by simp [State.raise]
@[simp] theorem State.raise_strings (n : Notice) : (s.raise n).strings = s.strings := by simp [State.raise]
@[simp] theorem State.raise_jw (n : Notice) : (s.raise n).jw = s.jw := by simp [State.raise]
@[simp] theorem State.raise_tiu (n : Notice) : (s.raise n).tiu = s.tiu := by simp [State.raise]

/-- JOURNAL as it is judged (R159). -/
def State.journalFlag (s : State) (atSeal : Bool) : BitVec 6 :=
  match s.lrc.setup with
  | none => s.lrc.notice
  | some u =>
    if u.threshold ≤ s.jw.unreleased then
      if u.latch && !atSeal then s.lrc.notice else s.lrc.notice ||| Notice.journal.bit
    else if u.latch then s.lrc.notice else s.lrc.notice &&& ~~~Notice.journal.bit

/-- Judging JOURNAL changes NOTICE alone in run control. -/
@[simp] theorem State.judgeJournal_lrc (b : Bool) :
    (s.judgeJournal b).lrc = { s.lrc with notice := s.journalFlag b } := by
  unfold State.judgeJournal State.journalFlag
  cases hs : s.lrc.setup with
  | none => rfl
  | some u =>
    dsimp only
    split
    · cases hl : u.latch <;> cases b <;> simp
    · cases hl : u.latch <;> simp [State.lower]

@[simp] theorem State.judgeJournal_pending (b : Bool) : (s.judgeJournal b).pending = s.pending := by
  unfold State.judgeJournal
  repeat' split
  all_goals simp [State.lower]

@[simp] theorem State.judgeJournal_freeIndex (b : Bool) : (s.judgeJournal b).freeIndex = s.freeIndex := by
  unfold State.judgeJournal
  repeat' split
  all_goals simp [State.lower]

@[simp] theorem State.judgeJournal_iu (b : Bool) : (s.judgeJournal b).iu = s.iu := by
  unfold State.judgeJournal
  repeat' split
  all_goals simp [State.lower]

@[simp] theorem State.judgeJournal_ac (b : Bool) : (s.judgeJournal b).ac = s.ac := by
  unfold State.judgeJournal
  repeat' split
  all_goals simp [State.lower]

@[simp] theorem State.judgeJournal_pm (b : Bool) : (s.judgeJournal b).pm = s.pm := by
  unfold State.judgeJournal
  repeat' split
  all_goals simp [State.lower]

@[simp] theorem State.judgeJournal_contexts (b : Bool) : (s.judgeJournal b).contexts = s.contexts := by
  unfold State.judgeJournal
  repeat' split
  all_goals simp [State.lower]

@[simp] theorem State.judgeJournal_strings (b : Bool) : (s.judgeJournal b).strings = s.strings := by
  unfold State.judgeJournal
  repeat' split
  all_goals simp [State.lower]

@[simp] theorem State.judgeJournal_jw (b : Bool) : (s.judgeJournal b).jw = s.jw := by
  unfold State.judgeJournal
  repeat' split
  all_goals simp [State.lower]

@[simp] theorem State.judgeJournal_tiu (b : Bool) : (s.judgeJournal b).tiu = s.tiu := by
  unfold State.judgeJournal
  repeat' split
  all_goals simp [State.lower]

/-! ### Host memory -/

/-- A write with a base is put out; everything else stands. -/
theorem State.linkWrite_of_base (b : Addr) (h : s.lrc.base = some b) (o : Nat) (d : List Byte) :
    s.linkWrite o d = s.emit (.linkWrite (Addr.plus b o) d) := by
  simp [State.linkWrite, h]

/-- A read with a base is put out; everything else stands. -/
theorem State.linkRead_of_base (b : Addr) (h : s.lrc.base = some b) (o n : Nat) :
    s.linkRead o n = s.emit (.linkRead (Addr.plus b o) n) := by
  simp [State.linkRead, h]

@[simp] theorem State.linkWrite_pending (o : Nat) (d : List Byte) : (s.linkWrite o d).pending = s.pending := by unfold State.linkWrite; split <;> rfl
@[simp] theorem State.linkWrite_freeIndex (o : Nat) (d : List Byte) : (s.linkWrite o d).freeIndex = s.freeIndex := by unfold State.linkWrite; split <;> rfl
@[simp] theorem State.linkWrite_lrc (o : Nat) (d : List Byte) : (s.linkWrite o d).lrc = s.lrc := by unfold State.linkWrite; split <;> rfl
@[simp] theorem State.linkWrite_iu (o : Nat) (d : List Byte) : (s.linkWrite o d).iu = s.iu := by unfold State.linkWrite; split <;> rfl
@[simp] theorem State.linkWrite_ac (o : Nat) (d : List Byte) : (s.linkWrite o d).ac = s.ac := by unfold State.linkWrite; split <;> rfl
@[simp] theorem State.linkWrite_pm (o : Nat) (d : List Byte) : (s.linkWrite o d).pm = s.pm := by unfold State.linkWrite; split <;> rfl
@[simp] theorem State.linkWrite_contexts (o : Nat) (d : List Byte) : (s.linkWrite o d).contexts = s.contexts := by unfold State.linkWrite; split <;> rfl
@[simp] theorem State.linkWrite_strings (o : Nat) (d : List Byte) : (s.linkWrite o d).strings = s.strings := by unfold State.linkWrite; split <;> rfl
@[simp] theorem State.linkWrite_jw (o : Nat) (d : List Byte) : (s.linkWrite o d).jw = s.jw := by unfold State.linkWrite; split <;> rfl
@[simp] theorem State.linkWrite_tiu (o : Nat) (d : List Byte) : (s.linkWrite o d).tiu = s.tiu := by unfold State.linkWrite; split <;> rfl

@[simp] theorem State.linkRead_pending (o n : Nat) : (s.linkRead o n).pending = s.pending := by unfold State.linkRead; split <;> rfl
@[simp] theorem State.linkRead_freeIndex (o n : Nat) : (s.linkRead o n).freeIndex = s.freeIndex := by unfold State.linkRead; split <;> rfl
@[simp] theorem State.linkRead_lrc (o n : Nat) : (s.linkRead o n).lrc = s.lrc := by unfold State.linkRead; split <;> rfl
@[simp] theorem State.linkRead_iu (o n : Nat) : (s.linkRead o n).iu = s.iu := by unfold State.linkRead; split <;> rfl
@[simp] theorem State.linkRead_ac (o n : Nat) : (s.linkRead o n).ac = s.ac := by unfold State.linkRead; split <;> rfl
@[simp] theorem State.linkRead_pm (o n : Nat) : (s.linkRead o n).pm = s.pm := by unfold State.linkRead; split <;> rfl
@[simp] theorem State.linkRead_contexts (o n : Nat) : (s.linkRead o n).contexts = s.contexts := by unfold State.linkRead; split <;> rfl
@[simp] theorem State.linkRead_strings (o n : Nat) : (s.linkRead o n).strings = s.strings := by unfold State.linkRead; split <;> rfl
@[simp] theorem State.linkRead_jw (o n : Nat) : (s.linkRead o n).jw = s.jw := by unfold State.linkRead; split <;> rfl
@[simp] theorem State.linkRead_tiu (o n : Nat) : (s.linkRead o n).tiu = s.tiu := by unfold State.linkRead; split <;> rfl

@[simp] theorem State.partLine_pending : s.partLine.pending = s.pending := by simp [State.partLine]
@[simp] theorem State.partLine_freeIndex : s.partLine.freeIndex = s.freeIndex := by simp [State.partLine]
@[simp] theorem State.partLine_lrc : s.partLine.lrc = s.lrc := by simp [State.partLine]
@[simp] theorem State.partLine_iu : s.partLine.iu = s.iu := by simp [State.partLine]
@[simp] theorem State.partLine_ac : s.partLine.ac = s.ac := by simp [State.partLine]
@[simp] theorem State.partLine_pm : s.partLine.pm = s.pm := by simp [State.partLine]
@[simp] theorem State.partLine_contexts : s.partLine.contexts = s.contexts := by simp [State.partLine]
@[simp] theorem State.partLine_strings : s.partLine.strings = s.strings := by simp [State.partLine]
@[simp] theorem State.partLine_jw : s.partLine.jw = s.jw := by simp [State.partLine]
@[simp] theorem State.partLine_tiu : s.partLine.tiu = s.tiu := by simp [State.partLine]

/-- A seal in run control, the journal and the blocks it does not touch (R155). -/
theorem State.sealBlock_eq (u : Setup) (h : s.lrc.setup = some u) :
    s.sealBlock.jw = { s.jw with sealTimer := none, sealed := s.jw.sealed + 1, written := 0 } ∧
      s.sealBlock.lrc = { s.lrc with notice := s.sealBlock.lrc.notice } ∧ s.sealBlock.iu = s.iu ∧ s.sealBlock.ac = s.ac ∧
      s.sealBlock.pm = s.pm ∧ s.sealBlock.contexts = s.contexts ∧ s.sealBlock.strings = s.strings ∧
      s.sealBlock.tiu = s.tiu ∧ s.sealBlock.pending = s.pending ∧ s.sealBlock.freeIndex = s.freeIndex := by
  simp [State.sealBlock, h]

end Sys2Proof.Machine
end

