-- ==== Sys2Proof/Laws/Lines.lean ====
section
/-! SUPPORT. What the controllers leave of contexts and strings when they take up their lines: a context changes in its pending set
alone, a controller keeps its modules, feed, items and pins, no line work touches another string, and the report list only grows. -/

namespace Sys2Proof.Machine

/-! ### Contexts and controllers -/

/-- A context but for its pending set. -/
def Context.core (c : Context) : Context := { c with pending := none }

/-- The contexts of the table but for their pending sets. -/
def State.cores (s : State) : List (Option Context) := s.contexts.map fun e => e.context.map Context.core

/-- What the lines leave of a controller. -/
structure Wire where
  modules : List ModuleLink
  feed : Bool
  items : Option StringItems
  attentionLow : Bool
  feedFaultInput : Bool

/-- The part of a controller that the lines leave. -/
def StringCtl.wire (x : StringCtl) : Wire :=
  { modules := x.modules, feed := x.feed, items := x.items, attentionLow := x.attentionLow, feedFaultInput := x.feedFaultInput }

/-- What the lines leave of contexts and strings. -/
structure Lasting where
  cores : List (Option Context)
  wires : List Wire

/-- The part of contexts and strings that the lines leave. -/
def State.lasting (s : State) : Lasting := { cores := s.cores, wires := s.strings.map StringCtl.wire }

@[simp] theorem State.emit_lasting (s : State) (o : Output) : (s.emit o).lasting = s.lasting := rfl
@[simp] theorem State.setJw_lasting (s : State) (x : Journal) : (s.setJw x).lasting = s.lasting := rfl

/-- A controller's write that keeps its modules, feed, items and pins. -/
theorem State.setString_lasting (s : State) (n : Nat) (x : StringCtl) (h : x.wire = (s.stringAt n).wire) :
    (s.setString n x).lasting = s.lasting := by
  have hm : ((s.strings.set n x).map StringCtl.wire) = s.strings.map StringCtl.wire := by
    rw [List.map_set]
    apply List.ext_getElem?
    intro i
    by_cases hi : i = n
    · subst hi
      by_cases hn : i < s.strings.length
      · simp [h, State.stringAt, hn]
      · simp at hn
        simp [hn]
    · simp [Ne.symm hi]
  simp [State.lasting, State.cores, State.setString, hm]

/-- A context's write that changes its pending set alone. -/
theorem State.setContext_lasting (s : State) (ci : Nat) (c : Context) (h : s.contextAt ci = some c) (x : Option FaceSet) :
    (s.setContext ci (some { c with pending := x })).lasting = s.lasting := by
  have hm : (s.setContext ci (some { c with pending := x })).cores = s.cores := by
    simp only [State.cores, State.setContext, State.setContexts_contexts]
    rw [List.map_set]
    apply List.ext_getElem?
    intro i
    by_cases hi : i = ci
    · subst hi
      by_cases hn : i < s.contexts.length
      · have := h
        simp [State.contextAt, hn] at this
        simp [hn, this, Context.core]
      · simp at hn
        simp [hn]
    · simp [Ne.symm hi]
  simp [State.lasting, hm]

@[simp] theorem StringCtl.enterQuiet_wire (x : StringCtl) : x.enterQuiet.wire = x.wire := rfl
@[simp] theorem StringCtl.wake_wire (x : StringCtl) : x.wake.wire = x.wire := rfl
@[simp] theorem StringCtl.enterActive_wire (x : StringCtl) : x.enterActive.wire = x.wire := rfl
@[simp] theorem StringCtl.enterDormant_wire (x : StringCtl) : x.enterDormant.wire = x.wire := by
  unfold StringCtl.enterDormant
  split <;> rfl

@[simp] theorem State.settleMode_lasting (s : State) (n : Nat) : (s.settleMode n).lasting = s.lasting := by
  unfold State.settleMode
  dsimp only
  repeat' split
  all_goals first | rfl | (rw [State.setString_lasting _ _ _ (by simp)])

@[simp] theorem State.offerString_lasting (s : State) (n : Nat) (k : RecordKind) (c : Cause) (m : Nat) :
    (s.offerString n k c m).lasting = s.lasting := by
  unfold State.offerString
  split <;> rfl

@[simp] theorem State.closeSurvey_lasting (s : State) (n m : Nat) : (s.closeSurvey n m).lasting = s.lasting := by
  unfold State.closeSurvey
  split <;> simp

@[simp] theorem State.startBroadcast_lasting (s : State) (n : Nat) (b : Broadcast) :
    (s.startBroadcast n b).lasting = s.lasting := by
  rw [State.startBroadcast, State.emit_lasting, State.setString_lasting _ _ _ (by rfl)]

@[simp] theorem State.startPoll_lasting (s : State) (n a : Nat) (w : Bool) : (s.startPoll n a w).lasting = s.lasting := by
  rw [State.startPoll, State.emit_lasting, State.setString_lasting _ _ _ (by rfl)]

@[simp] theorem State.startDark_lasting (s : State) (n a : Nat) (w : Bool) : (s.startDark n a w).lasting = s.lasting := by
  rw [State.startDark, State.emit_lasting, State.setString_lasting _ _ _ (by rfl)]

theorem State.startFaces_lasting (s : State) (n a ci : Nat) (c : Context) (h : s.contextAt ci = some c) :
    (s.startFaces n a ci c).lasting = s.lasting := by
  rw [State.startFaces, State.emit_lasting, State.setString_lasting _ _ _ (by rfl), State.setContext_lasting _ _ _ h]

@[simp] theorem State.contextAt_setString (s : State) (n : Nat) (x : StringCtl) (ci : Nat) :
    (s.setString n x).contextAt ci = s.contextAt ci := rfl

@[simp] theorem State.hotTurn_lasting (s : State) (n a : Nat) : (s.hotTurn n a).lasting = s.lasting := by
  unfold State.hotTurn
  dsimp only
  have h := s.setString_lasting n { s.stringAt n with roundPosition := a } rfl
  repeat' split
  all_goals first
    | (rw [State.startFaces_lasting _ _ _ _ _ (by assumption), h])
    | simp [h]

@[simp] theorem State.coldTurnAt_lasting (s : State) (n a : Nat) : (s.coldTurnAt n a).lasting = s.lasting := by
  unfold State.coldTurnAt
  dsimp only
  have h := s.setString_lasting n { s.stringAt n with coldWalk := a } rfl
  split <;> simp [h]

@[simp] theorem State.roundTurn_lasting (s : State) (n : Nat) : (s.roundTurn n).lasting = s.lasting := by
  unfold State.roundTurn
  dsimp only
  have h := s.setString_lasting n { s.stringAt n with roundPosition := 0 } rfl
  repeat' split
  all_goals simp [h]

@[simp] theorem State.sweepTurn_lasting (s : State) (n : Nat) (w : Sweep) : (s.sweepTurn n w).lasting = s.lasting := by
  unfold State.sweepTurn
  split <;> simp

@[simp] theorem State.quietTurn_lasting (s : State) (n : Nat) : (s.quietTurn n).lasting = s.lasting := by
  unfold State.quietTurn
  dsimp only
  have h := s.setString_lasting n { s.stringAt n with turnDue := false } rfl
  repeat' split
  all_goals simp [h]

@[simp] theorem State.endSurvey_lasting (s : State) (n : Nat) (w : Sweep) : (s.endSurvey n w).lasting = s.lasting := by
  unfold State.endSurvey
  dsimp only
  rw [State.setString_lasting _ _ _ (by split <;> rfl)]
  simp

@[simp] theorem State.endSweep_lasting (s : State) (n : Nat) : (s.endSweep n).lasting = s.lasting := by
  unfold State.endSweep
  dsimp only
  repeat' split
  all_goals first | simp | rfl | (rw [State.setString_lasting _ _ _ (by rfl)])

@[simp] theorem State.turn_lasting (s : State) (n : Nat) : (s.turn n).lasting = s.lasting := by
  unfold State.turn
  dsimp only
  repeat' split
  all_goals simp

@[simp] theorem State.runLine_lasting (s : State) (n : Nat) : (s.runLine n).lasting = s.lasting := by
  unfold State.runLine
  dsimp only
  repeat' split
  all_goals first
    | (rw [State.startBroadcast_lasting, State.setString_lasting _ _ _ (by rfl), State.settleMode_lasting])
    | (simp)

@[simp] theorem State.kick_lasting (s : State) : s.kick.lasting = s.lasting := by
  simp [State.kick, State.eachString]

/-! ### What two states of one lasting part share -/

/-- The context of an entry, but for its pending set. -/
theorem State.core_of_lasting {s t : State} (h : t.lasting = s.lasting) (ci : Nat) :
    (t.contextAt ci).map Context.core = (s.contextAt ci).map Context.core := by
  have := congrArg (fun l => l.cores[ci]?) h
  simp only [State.lasting, State.cores, List.getElem?_map] at this
  unfold State.contextAt
  cases hs : s.contexts[ci]? <;> cases ht : t.contexts[ci]? <;> simp_all

/-- A context is there after as before, with a pending set of its own. -/
theorem State.contextAt_of_lasting {s t : State} (h : t.lasting = s.lasting) {ci : Nat} {c : Context}
    (hc : s.contextAt ci = some c) : ∃ x, t.contextAt ci = some { c with pending := x } := by
  have := State.core_of_lasting h ci
  rw [hc] at this
  cases ht : t.contextAt ci with
  | none => simp [ht] at this
  | some d =>
    rw [ht] at this
    simp only [Option.map_some, Option.some.injEq] at this
    refine ⟨d.pending, ?_⟩
    rw [show d = { Context.core d with pending := d.pending } from rfl, this]
    rfl

/-- An entry not in use is not in use after. -/
theorem State.contextAt_none_of_lasting {s t : State} (h : t.lasting = s.lasting) {ci : Nat}
    (hc : s.contextAt ci = none) : t.contextAt ci = none := by
  have := State.core_of_lasting h ci
  rw [hc] at this
  simpa using this

/-- The lasting part of a controller. -/
theorem State.wire_of_lasting {s t : State} (h : t.lasting = s.lasting) (n : Nat) :
    (t.stringAt n).wire = (s.stringAt n).wire := by
  have := congrArg (fun l => l.wires[n]?) h
  simp only [State.lasting, List.getElem?_map] at this
  unfold State.stringAt
  rw [List.getD_eq_getElem?_getD, List.getD_eq_getElem?_getD]
  cases hs : s.strings[n]? <;> cases ht : t.strings[n]? <;> simp_all

theorem State.modulesAt_of_lasting {s t : State} (h : t.lasting = s.lasting) (n : Nat) :
    (t.stringAt n).modules = (s.stringAt n).modules := congrArg Wire.modules (State.wire_of_lasting h n)
theorem State.feed_of_lasting {s t : State} (h : t.lasting = s.lasting) (n : Nat) :
    (t.stringAt n).feed = (s.stringAt n).feed := congrArg Wire.feed (State.wire_of_lasting h n)
theorem State.items_of_lasting {s t : State} (h : t.lasting = s.lasting) (n : Nat) :
    (t.stringAt n).items = (s.stringAt n).items := congrArg Wire.items (State.wire_of_lasting h n)
theorem State.attentionLow_of_lasting {s t : State} (h : t.lasting = s.lasting) (n : Nat) :
    (t.stringAt n).attentionLow = (s.stringAt n).attentionLow := congrArg Wire.attentionLow (State.wire_of_lasting h n)
theorem State.feedFaultInput_of_lasting {s t : State} (h : t.lasting = s.lasting) (n : Nat) :
    (t.stringAt n).feedFaultInput = (s.stringAt n).feedFaultInput := congrArg Wire.feedFaultInput (State.wire_of_lasting h n)

/-- The per-address state of a module. -/
theorem State.link_of_lasting {s t : State} (h : t.lasting = s.lasting) (n a : Nat) : t.link n a = s.link n a := by
  simp [State.link, StringCtl.link, State.modulesAt_of_lasting h]

/-! ### One string at a time -/

theorem State.settleMode_stringAt_of_ne (s : State) {n m : Nat} (h : n ≠ m) : (s.settleMode n).stringAt m = s.stringAt m := by
  unfold State.settleMode
  dsimp only
  repeat' split
  all_goals first | rfl | (rw [State.stringAt_setString_of_ne _ _ _ _ h])

@[simp] theorem State.emit_stringAt (s : State) (o : Output) (n : Nat) : (s.emit o).stringAt n = s.stringAt n := rfl
@[simp] theorem State.setContext_stringAt (s : State) (i : Nat) (c : Option Context) (n : Nat) :
    (s.setContext i c).stringAt n = s.stringAt n := rfl
@[simp] theorem State.offerString_stringAt (s : State) (n : Nat) (k : RecordKind) (c : Cause) (m x : Nat) :
    (s.offerString n k c m).stringAt x = s.stringAt x := by
  unfold State.offerString
  split <;> rfl
@[simp] theorem State.closeSurvey_stringAt (s : State) (n g m : Nat) : (s.closeSurvey n g).stringAt m = s.stringAt m := by
  unfold State.closeSurvey
  split <;> simp

section OneString

variable (s : State) {n m : Nat} (h : n ≠ m)
include h

theorem State.startPoll_stringAt_of_ne (a : Nat) (w : Bool) : (s.startPoll n a w).stringAt m = s.stringAt m := by
  simp [State.startPoll, State.stringAt_setString_of_ne _ _ _ _ h]

theorem State.startDark_stringAt_of_ne (a : Nat) (w : Bool) : (s.startDark n a w).stringAt m = s.stringAt m := by
  simp [State.startDark, State.stringAt_setString_of_ne _ _ _ _ h]

theorem State.startFaces_stringAt_of_ne (a ci : Nat) (c : Context) : (s.startFaces n a ci c).stringAt m = s.stringAt m := by
  simp [State.startFaces, State.stringAt_setString_of_ne _ _ _ _ h]

theorem State.startBroadcast_stringAt_of_ne (b : Broadcast) : (s.startBroadcast n b).stringAt m = s.stringAt m := by
  simp [State.startBroadcast, State.stringAt_setString_of_ne _ _ _ _ h]

theorem State.hotTurn_stringAt_of_ne (a : Nat) : (s.hotTurn n a).stringAt m = s.stringAt m := by
  unfold State.hotTurn
  dsimp only
  repeat' split
  all_goals simp [State.startDark_stringAt_of_ne _ h, State.startFaces_stringAt_of_ne _ h, State.startPoll_stringAt_of_ne _ h,
    State.stringAt_setString_of_ne _ _ _ _ h]

theorem State.coldTurnAt_stringAt_of_ne (a : Nat) : (s.coldTurnAt n a).stringAt m = s.stringAt m := by
  unfold State.coldTurnAt
  dsimp only
  split <;> simp [State.startDark_stringAt_of_ne _ h, State.startPoll_stringAt_of_ne _ h,
    State.stringAt_setString_of_ne _ _ _ _ h]

theorem State.roundTurn_stringAt_of_ne : (s.roundTurn n).stringAt m = s.stringAt m := by
  unfold State.roundTurn
  dsimp only
  repeat' split
  all_goals simp [State.hotTurn_stringAt_of_ne _ h, State.coldTurnAt_stringAt_of_ne _ h,
    State.stringAt_setString_of_ne _ _ _ _ h]

theorem State.quietTurn_stringAt_of_ne : (s.quietTurn n).stringAt m = s.stringAt m := by
  unfold State.quietTurn
  dsimp only
  repeat' split
  all_goals simp [State.coldTurnAt_stringAt_of_ne _ h, State.stringAt_setString_of_ne _ _ _ _ h]

theorem State.sweepTurn_stringAt_of_ne (w : Sweep) : (s.sweepTurn n w).stringAt m = s.stringAt m := by
  unfold State.sweepTurn
  split <;> simp [State.startDark_stringAt_of_ne _ h, State.startPoll_stringAt_of_ne _ h]

theorem State.endSweep_stringAt_of_ne : (s.endSweep n).stringAt m = s.stringAt m := by
  unfold State.endSweep State.endSurvey
  dsimp only
  repeat' split
  all_goals simp [State.stringAt_setString_of_ne _ _ _ _ h]

theorem State.turn_stringAt_of_ne : (s.turn n).stringAt m = s.stringAt m := by
  unfold State.turn
  dsimp only
  repeat' split
  all_goals simp [State.sweepTurn_stringAt_of_ne _ h, State.quietTurn_stringAt_of_ne _ h, State.roundTurn_stringAt_of_ne _ h]

/-- The taking up of one line touches no other controller. -/
theorem State.runLine_stringAt_of_ne : (s.runLine n).stringAt m = s.stringAt m := by
  unfold State.runLine
  dsimp only
  repeat' split
  all_goals simp [State.settleMode_stringAt_of_ne _ h, State.startBroadcast_stringAt_of_ne _ h, State.turn_stringAt_of_ne _ h,
    State.endSweep_stringAt_of_ne _ h, State.stringAt_setString_of_ne _ _ _ _ h]

end OneString

/-- A string after the taking up of the lines is that string after the taking up of its own line, from a state that differs from `s`
in other strings and in pending sets alone. -/
theorem State.kick_stringAt (s : State) {n : Nat} (h : n < 4) :
    ∃ t : State, t.lasting = s.lasting ∧ t.still = s.still ∧ t.stringAt n = s.stringAt n ∧
      s.kick.stringAt n = (t.runLine n).stringAt n := by
  have : n = 0 ∨ n = 1 ∨ n = 2 ∨ n = 3 := by omega
  simp only [State.kick, State.eachString, List.foldl]
  rcases this with rfl | rfl | rfl | rfl
  · exact ⟨s, rfl, rfl, rfl, by simp [State.runLine_stringAt_of_ne]⟩
  · exact ⟨s.runLine 0, by simp, by simp, by simp [State.runLine_stringAt_of_ne], by simp [State.runLine_stringAt_of_ne]⟩
  · exact ⟨(s.runLine 0).runLine 1, by simp, by simp, by simp [State.runLine_stringAt_of_ne],
      by simp [State.runLine_stringAt_of_ne]⟩
  · exact ⟨((s.runLine 0).runLine 1).runLine 2, by simp, by simp, by simp [State.runLine_stringAt_of_ne], rfl⟩

/-! ### The report list only grows -/

theorem State.offerString_report (s : State) (n : Nat) (k : RecordKind) (c : Cause) (m : Nat) :
    s.jw.report <+: (s.offerString n k c m).jw.report := by
  unfold State.offerString State.offerClosing State.appendItem
  split <;> simp

theorem State.closeSurvey_report (s : State) (n m : Nat) : s.jw.report <+: (s.closeSurvey n m).jw.report := by
  unfold State.closeSurvey
  split <;> first | exact s.offerString_report _ _ _ _ | exact List.prefix_rfl

theorem State.settleMode_jw (s : State) (n : Nat) : (s.settleMode n).jw = s.jw := by
  unfold State.settleMode
  dsimp only
  repeat' split
  all_goals rfl

@[simp] theorem State.hotTurn_jw (s : State) (n a : Nat) : (s.hotTurn n a).jw = s.jw := by
  unfold State.hotTurn State.startDark State.startFaces State.startPoll
  dsimp only
  repeat' split
  all_goals rfl

@[simp] theorem State.coldTurnAt_jw (s : State) (n a : Nat) : (s.coldTurnAt n a).jw = s.jw := by
  unfold State.coldTurnAt State.startDark State.startPoll
  dsimp only
  split <;> rfl

theorem State.turn_jw (s : State) (n : Nat) : (s.turn n).jw = s.jw := by
  unfold State.turn State.roundTurn State.quietTurn State.sweepTurn State.startDark State.startPoll
  dsimp only
  repeat' split
  all_goals simp

theorem State.endSweep_report (s : State) (n : Nat) : s.jw.report <+: (s.endSweep n).jw.report := by
  unfold State.endSweep State.endSurvey
  dsimp only
  repeat' split
  all_goals first | exact List.prefix_rfl | exact s.closeSurvey_report _ _

/-- The taking up of a line appends to the report list, if anything. -/
theorem State.runLine_report (s : State) (n : Nat) : s.jw.report <+: (s.runLine n).jw.report := by
  unfold State.runLine
  dsimp only
  have h := s.settleMode_jw n
  repeat' split
  · simp [State.startBroadcast, h]
  · rw [State.turn_jw]
    have := (s.settleMode n).endSweep_report n
    rwa [h] at this
  · simp [h]

/-- The taking up of the lines appends to the report list, if anything. -/
theorem State.kick_report (s : State) : s.jw.report <+: s.kick.jw.report := by
  simp only [State.kick, State.eachString, List.foldl]
  exact (((s.runLine_report 0).trans (State.runLine_report _ 1)).trans (State.runLine_report _ 2)).trans
    (State.runLine_report _ 3)

end Sys2Proof.Machine
end

