-- ==== Sys2Proof/Laws/PerInstr.lean ====
section
/-! SUPPORT. A law of every command as syntax, one lemma per constructor: the data that a well-formed arrival brings are the whole
bytes of the read it answers, in units of 16 and at most 256 (R100, R108, R112, R121, R126). -/

namespace Sys2Proof.Laws.Payload

/-- The data of the link reads whose completion the command is. -/
def linkData : Instr → List (List Byte)
  | .startReadArrival h b => [h, b]
  | .headerPollArrival h => [h]
  | .recordFetchArrival d => [d]
  | .atlasDemandArrival e => [e]
  | .atlasLookaheadArrival e => [e]
  | _ => []

/-- Each read of a well-formed command brings a positive multiple of 16 bytes, at most 256. -/
def Statement (i : Instr) : Prop :=
  i.wf = true → ∀ d ∈ linkData i, d.length % 16 = 0 ∧ 16 ≤ d.length ∧ d.length ≤ 256

theorem powerOn : Statement Instr.powerOn := fun _ _ m => nomatch m

theorem linkReset : Statement Instr.linkReset := fun _ _ m => nomatch m

theorem sweepDone : Statement Instr.sweepDone := fun _ _ m => nomatch m

theorem start : Statement Instr.start := fun _ _ m => nomatch m

theorem halt : Statement Instr.halt := fun _ _ m => nomatch m

theorem resume : Statement Instr.resume := fun _ _ m => nomatch m

theorem clear : Statement Instr.clear := fun _ _ m => nomatch m

theorem reset : Statement Instr.reset := fun _ _ m => nomatch m

theorem prompt : Statement Instr.prompt := fun _ _ m => nomatch m

theorem actionOutOfRange (v : Word) : Statement (Instr.actionOutOfRange v) := fun _ _ m => nomatch m

theorem exbaseWrite (h : Bool) (v : Word) : Statement (Instr.exbaseWrite h v) := fun _ _ m => nomatch m

theorem noticeWrite (v : Word) : Statement (Instr.noticeWrite v) := fun _ _ m => nomatch m

theorem noticeMaskWrite (v : Word) : Statement (Instr.noticeMaskWrite v) := fun _ _ m => nomatch m

theorem faultWhereWrite (v : Word) : Statement (Instr.faultWhereWrite v) := fun _ _ m => nomatch m

theorem stateRead : Statement Instr.stateRead := fun _ _ m => nomatch m

theorem registerWriteIgnored (o : Nat) (v : Word) : Statement (Instr.registerWriteIgnored o v) := fun _ _ m => nomatch m

theorem startReadArrival (h : List Byte) (b : List Byte) : Statement (Instr.startReadArrival h b) := by
  intro w d m
  simp [linkData, Instr.wf] at w m
  rcases m with m | m <;> subst m <;> omega

theorem linkReadError (r : ReadRef) : Statement (Instr.linkReadError r) := fun _ _ m => nomatch m

theorem linkReadTimeout (r : ReadRef) : Statement (Instr.linkReadTimeout r) := fun _ _ m => nomatch m

theorem voidedReadArrival (p : Nat) : Statement (Instr.voidedReadArrival p) := fun _ _ m => nomatch m

theorem headerPollIssue : Statement Instr.headerPollIssue := fun _ _ m => nomatch m

theorem headerPollArrival (h : List Byte) : Statement (Instr.headerPollArrival h) := by
  intro w d m
  simp [linkData, Instr.wf] at w m
  subst m; omega

theorem recordFetchArrival (d : List Byte) : Statement (Instr.recordFetchArrival d) := by
  intro w d m
  simp [linkData, Instr.wf] at w m
  subst m; omega

theorem atlasDemandArrival (e : List Byte) : Statement (Instr.atlasDemandArrival e) := by
  intro w d m
  simp [linkData, Instr.wf] at w m
  subst m; omega

theorem atlasLookaheadArrival (e : List Byte) : Statement (Instr.atlasLookaheadArrival e) := by
  intro w d m
  simp [linkData, Instr.wf] at w m
  subst m; omega

theorem pick : Statement Instr.pick := fun _ _ m => nomatch m

theorem qualifier : Statement Instr.qualifier := fun _ _ m => nomatch m

theorem cancel : Statement Instr.cancel := fun _ _ m => nomatch m

theorem amend : Statement Instr.amend := fun _ _ m => nomatch m

theorem laneSetup : Statement Instr.laneSetup := fun _ _ m => nomatch m

theorem atlasDrop : Statement Instr.atlasDrop := fun _ _ m => nomatch m

theorem fence : Statement Instr.fence := fun _ _ m => nomatch m

theorem lightTest : Statement Instr.lightTest := fun _ _ m => nomatch m

theorem census : Statement Instr.census := fun _ _ m => nomatch m

theorem skip : Statement Instr.skip := fun _ _ m => nomatch m

theorem unknownKind : Statement Instr.unknownKind := fun _ _ m => nomatch m

theorem moduleReply (n : Fin 4) (f : List Byte) : Statement (Instr.moduleReply n f) := fun _ _ m => nomatch m

theorem exchangeMiss (n : Fin 4) : Statement (Instr.exchangeMiss n) := fun _ _ m => nomatch m

theorem broadcastEnd (n : Fin 4) : Statement (Instr.broadcastEnd n) := fun _ _ m => nomatch m

theorem settlingEnd (n : Fin 4) : Statement (Instr.settlingEnd n) := fun _ _ m => nomatch m

theorem lightTestEnd (n : Fin 4) : Statement (Instr.lightTestEnd n) := fun _ _ m => nomatch m

theorem quietPeriod (n : Fin 4) : Statement (Instr.quietPeriod n) := fun _ _ m => nomatch m

theorem dormancyTimeout (n : Fin 4) : Statement (Instr.dormancyTimeout n) := fun _ _ m => nomatch m

theorem attentionWake (n : Fin 4) (l : Bool) : Statement (Instr.attentionWake n l) := fun _ _ m => nomatch m

theorem feedFault (n : Fin 4) (l : Bool) : Statement (Instr.feedFault n l) := fun _ _ m => nomatch m

theorem abandonTimeout (e : Nat) : Statement (Instr.abandonTimeout e) := fun _ _ m => nomatch m

theorem lingerExpiry (c : Nat) (n : Nat) : Statement (Instr.lingerExpiry c n) := fun _ _ m => nomatch m

theorem pinTimeout (c : Nat) : Statement (Instr.pinTimeout c) := fun _ _ m => nomatch m

theorem sealTimeout : Statement Instr.sealTimeout := fun _ _ m => nomatch m

theorem journalWrite : Statement Instr.journalWrite := fun _ _ m => nomatch m

end Sys2Proof.Laws.Payload
end

