-- ==== Sys2Proof/Tests/Slice0.lean ====
section
/-! SUPPORT. Tests of the model's writer: the operand checks refuse ill-formed commands; each command acts on a small state; and for
every statement with hypotheses, states and operands that meet them, each clause at a boundary of its range. -/

namespace Sys2Proof.Tests

set_option Elab.async false

open Sys2Proof Sys2Proof.Machine

/-! ### Small states -/

/-- The next state of an outcome passes a test. -/
def shows (r : Result) (p : State → Bool) : Bool :=
  match r with
  | .next t => p t
  | _ => false

/-- The outcome is a refusal as ill formed. -/
def refusedIllFormed (r : Result) : Bool :=
  match r with
  | .refused .illFormed => true
  | _ => false

/-- A setup copy with the least sizes; strings 0 and 1 enabled. -/
def small : Setup :=
  { capacity := 64, blocks := 2, records := 8, atlasSize := 100, threshold := 1, latch := false, stray := true, sealDelay := 5
    brisk := 1, idle := 20, pinTimeout := 3, rotation := 200
    strings := [{ enabled := true, ceiling := 120, quietMs := 25, dormancy := true },
      { enabled := true, ceiling := 1, quietMs := 50, dormancy := false },
      { enabled := false, ceiling := 0, quietMs := 25, dormancy := false },
      { enabled := false, ceiling := 0, quietMs := 25, dormancy := false }] }

/-- Run control of a run. -/
def runControl (run : RunState) : RunControl :=
  { RunControl.powerOn with run := run, verdict := .accepted, setup := some small, base := some 0x1000 }

/-- A run state of the part with its tables intact and empty, and every string as it starts. -/
def at_ (run : RunState) : State :=
  { State.reset with
    lrc := runControl run, ac := Cache.empty true, pm := PickManager.empty true, contexts := emptyContexts true
    strings := [0, 1, 2, 3].map fun n => { StringCtl.powerOn with items := some (small.items n) } }

/-- A part in RUNNING. -/
def running : State := at_ .running

/-- A part in HALTED. -/
def halted : State := at_ .halted

/-- A part in UNSET, with no setup copy. -/
def unset : State := { at_ .unset with lrc := { RunControl.powerOn with run := .unset } }

/-- The decidable form of the two premises on the tables. -/
def sound (s : State) : Bool :=
  s.pm.entries.all PickEntry.parity && s.contexts.all ContextEntry.parity && s.ac.ways.all Way.parity &&
    s.pm.entries.length == 256 && s.contexts.length == 96 && s.ac.ways.length == 128 && s.ac.lru.length == 64 &&
    s.pm.lanes.length == 6 && s.strings.length == 4 && s.strings.all fun x => x.modules.length == 120

/-- The tables are intact and have their sizes when the decidable form says so. -/
theorem good {s : State} (h : sound s = true) : s.Intact ∧ s.Shape := by
  simp only [sound, Bool.and_eq_true, List.all_eq_true, beq_iff_eq] at h
  simp only [State.Intact, State.Shape]
  tauto

/-- A task record. -/
def task (kind lane code : Byte) (tag : Word) (slot quantity : BitVec 16) (arg1 : Word) : TaskRecord :=
  { kind := kind, lane := lane, qualifier := code, tag := tag, slot := slot, quantity := quantity, arg1 := arg1, arg2 := 0 }

/-- Records that stand in the intake queue, all posted. -/
def ask (s : State) (rs : List TaskRecord) : State :=
  { s with iu := { s.iu with queue := rs, fetched := BitVec.ofNat 32 rs.length, posted := BitVec.ofNat 32 rs.length } }

/-- A pick of slot 5 on lane 1 asking for 10. -/
def onePick (tag : Word) (stage : Stage) : Pick :=
  { tag := tag, lane := 1, slot := 5, requested := 10, intakeSequence := 0, timeAccepted := 0, urgent := false, quiet := false
    abandon := none, overdueReported := false, stage := stage }

/-- Picks in the first entries of the table. -/
def hold (s : State) (ps : List Pick) : State :=
  { s with pm := { s.pm with
    entries := ps.map (fun p => { parity := true, pick := some p }) ++ s.pm.entries.drop ps.length
    free := 256 - ps.length } }

/-- The atlas copy of string 0, address 1. -/
def firstModule : AtlasCopy := { string := 0, address := 1, limit := 9, solo := false }

/-- Atlas fields of string 0, address 1. -/
def firstFields : AtlasFields := { usable := true, string := 0, address := 1, limit := 9, solo := false }

/-- A face of claim 0. -/
def oneFace : Face := { index := 0, serial := 0, colour := 1, quantity := 10, blink := .steady, adjust := false }

/-- A claim of lane 1, shown on face 0, with entry 0 in its bundle. -/
def oneClaim : Claim :=
  { lane := 1, urgent := false, serial := 0, face := some 0, linger := none, lingerExpired := false, bundle := [0], sum := 10 }

/-- A context of slot 5 whose only claim is shown and displayed. -/
def oneContext : Context :=
  { slot := 5, atlas := firstModule, claims := [oneClaim], nextSerial := 1, generation := 1
    desired := { generation := 1, faces := [oneFace], paused := false, pinned := none }, pending := none
    displayed := { generation := 1, faces := [oneFace], paused := false, pinned := none }, pin := none }

/-- A context in entry 0 of the context table. -/
def light (s : State) (c : Context) : State :=
  { s with contexts := { parity := true, context := some c } :: s.contexts.drop 1 }

/-- The part with one placed pick, shown on its module. -/
def lit : State := light (hold running [onePick 7 .placed]) oneContext

/-- String 0 changed. -/
def withString (s : State) (x : StringCtl) : State := { s with strings := s.strings.set 0 x }

/-- String 0 in a mode, with its feed on. -/
def fed (mode : Mode) : StringCtl := { StringCtl.powerOn with items := some (small.items 0), feed := true, mode := mode }

/-- Lane 1 OPEN with colour 1. -/
def openLane : List Lane := [{ colour := some 1, linger := 1, abandon := 1 }, Lane.off, Lane.off, Lane.off, Lane.off, Lane.off]

/-- Lane 1 of the part is OPEN. -/
def opened (s : State) : State := { s with pm := { s.pm with lanes := openLane } }

/-- An outcome of a REPORTING pick. -/
def oneOutcome : Outcome :=
  { kind := .full, cause := .none, confirmed := 10, timeClosed := 0, bundleSize := 1, bundlePosition := 1, adjusted := false
    suspectTag := false }

/-- A setup block with these sizes, and zeros else. -/
def block (c n r a : Nat) : List Byte := bytesLE 2 c ++ bytesLE 2 n ++ bytesLE 2 r ++ bytesLE 2 a ++ List.replicate 56 0

/-- A host line with these counts. -/
def hostLine (posted released : Nat) : List Byte := bytesLE 4 posted ++ bytesLE 4 released ++ List.replicate 56 0

/-! ### Ill-formed commands are refused -/

theorem test_ill_formed_action : (Instr.actionOutOfRange 6).wf = false ∧ refusedIllFormed (exec (.actionOutOfRange 1) unset) := by
  decide +kernel

theorem test_ill_formed_ignored_write : (Instr.registerWriteIgnored 0x08 0).wf = false ∧
    (Instr.registerWriteIgnored 0x10 1).wf = false ∧ refusedIllFormed (exec (.registerWriteIgnored 0x20 0) unset) := by
  decide +kernel

theorem test_ill_formed_start_read : (Instr.startReadArrival (hostLine 0 0) []).wf = false ∧
    refusedIllFormed (exec (.startReadArrival [] (block 64 2 8 1)) unset) := by decide +kernel

theorem test_ill_formed_poll : refusedIllFormed (exec (.headerPollArrival (List.replicate 63 0)) running) := by decide +kernel

theorem test_ill_formed_fetch : refusedIllFormed (exec (.recordFetchArrival []) running) ∧
    refusedIllFormed (exec (.recordFetchArrival (List.replicate 33 0)) running) ∧
    refusedIllFormed (exec (.recordFetchArrival (List.replicate 288 0)) running) := by decide +kernel

theorem test_ill_formed_atlas_entries : refusedIllFormed (exec (.atlasDemandArrival (List.replicate 15 0)) running) ∧
    refusedIllFormed (exec (.atlasLookaheadArrival (List.replicate 17 0)) running) := by decide +kernel

theorem test_ill_formed_timers : refusedIllFormed (exec (.abandonTimeout 256) running) ∧
    refusedIllFormed (exec (.lingerExpiry 96 0) running) ∧ refusedIllFormed (exec (.lingerExpiry 0 256) running) ∧
    refusedIllFormed (exec (.pinTimeout 96) running) := by decide +kernel

/-! ### One step of each command -/

theorem test_power_on : shows (exec .powerOn running) fun t => t.lrc == RunControl.powerOn && t.pm == PickManager.empty false := by
  decide +kernel

theorem test_link_reset : shows (exec .linkReset running) fun t =>
    t.lrc.run == .sweeping && t.lrc.causeLink && t.lrc.causePower && !t.lrc.causeSoft := by decide +kernel

theorem test_sweep_done : shows (exec .sweepDone { State.reset with tiu := { State.reset.tiu with sweepPosition := 479 } })
    fun t => t.lrc.run == .unset && (t.wayAt 127).parity := by decide +kernel

theorem test_start : shows (exec .start { unset with lrc := { unset.lrc with exbaseLo := 0x5000, exbaseHi := 1 } }) fun t =>
    t.lrc.run == .starting && t.out == [.linkRead 0x100005000 64, .linkRead 0x100005100 64] := by decide +kernel

theorem test_halt : shows (exec .halt lit) fun t =>
    t.lrc.run == .halted && ((t.contextAt 0).map fun c => c.desired.paused && c.desired.generation == 2) == some true := by
  decide +kernel

theorem test_resume : shows (exec .resume { halted with iu := { halted.iu with poll := .held 0 } }) fun t =>
    t.lrc.run == .running && t.iu.poll == .underWay 0 0 && t.out == [.linkRead 0x1000 64] := by decide +kernel

theorem test_clear : shows (exec .clear { halted with iu := { halted.iu with poll := .underWay 0 7 } }) fun t =>
    t.lrc.run == .unset && t.lrc.voided == [.poll] && t.iu == Intake.empty && t.lrc.verdict == .accepted := by decide +kernel

theorem test_reset : shows (exec .reset { running with ac := { running.ac with demand := .underWay 5 0 } }) fun t =>
    t.lrc.run == .sweeping && t.lrc.causeSoft && t.lrc.voided == [.demand] := by decide +kernel

theorem test_prompt : shows (exec .prompt { running with iu := { running.iu with poll := .underWay 0 7 } }) fun t =>
    t.iu.promptOwed && t.out == [] := by decide +kernel

theorem test_action_out_of_range : shows (exec (.actionOutOfRange 7) unset) fun t => t.lrc.actionRefused := by decide +kernel

theorem test_exbase_write : shows (exec (.exbaseWrite false 0x12345FFF) unset) fun t => t.lrc.exbaseLo == 0x12345000 := by
  decide +kernel

theorem test_notice_write : shows (exec (.noticeWrite 0x3) { unset with lrc := { unset.lrc with notice := 0x3F } }) fun t =>
    t.lrc.notice == 0x3C := by decide +kernel

theorem test_notice_write_level : shows (exec (.noticeWrite 0x3) { running with lrc := { running.lrc with notice := 0x3F } })
    fun t => t.lrc.notice == 0x3D := by decide +kernel

theorem test_notice_mask_write : shows (exec (.noticeMaskWrite 0x20) { unset with lrc := { unset.lrc with notice := 0x3F } })
    fun t => t.lrc.mask == 0x20 && t.out == [.message] := by decide +kernel

theorem test_fault_where_write : shows (exec (.faultWhereWrite 0) (running.reportFault .pick 3)) fun t =>
    t.tiu.capture == Capture.empty && t.lrc.notice == Notice.fault.bit := by decide +kernel

theorem test_state_read : shows (exec .stateRead State.reset) fun t =>
    t.out == [.registerRead 0x0C 0x1000] && !t.lrc.causePower := by decide +kernel

theorem test_register_write_ignored : shows (exec (.registerWriteIgnored 0x0C 5) running) fun t => t == running := by
  decide +kernel

/-- A part that waits for its START read. -/
def starting : State := { unset with lrc := { unset.lrc with run := .starting, base := some 0x1000, startRead := some 0 } }

theorem test_start_read_arrival : shows (exec (.startReadArrival (hostLine 0 0) (block 64 2 8 100)) starting) fun t =>
    t.lrc.run == .running && t.lrc.verdict == .accepted && (t.lrc.setup.map Setup.sealDelay) == some 5 := by decide +kernel

theorem test_start_read_arrival_counters : shows (exec (.startReadArrival (hostLine 1 0) (block 64 2 8 100)) starting) fun t =>
    t.lrc.run == .unset && t.lrc.verdict == .counters && t.lrc.notice == Notice.setup.bit := by decide +kernel

/-- A part with a header poll under way for 50 ms. -/
def polling (run : RunState) : State := { at_ run with iu := { Intake.empty with poll := .underWay 0 50 } }

theorem test_link_read_error : shows (exec (.linkReadError .headerPoll) (polling .running)) fun t =>
    t.lrc.run == .halted && t.lrc.notice == Notice.link.bit && t.iu.poll == .held 0 := by decide +kernel

theorem test_link_read_timeout : exec (.linkReadTimeout .headerPoll) (polling .running) =
    exec (.linkReadError .headerPoll) (polling .running) := rfl

theorem test_voided_read_arrival :
    shows (exec (.voidedReadArrival 0) { unset with lrc := { unset.lrc with voided := [.poll, .record] } }) fun t =>
      t.lrc.voided == [.record] := by decide +kernel

theorem test_header_poll_issue :
    shows (exec .headerPollIssue { running with lrc := { running.lrc with clock := 20 } }) fun t =>
      t.iu.poll == .underWay 0 0 && t.out == [.linkRead 0x1000 64] := by decide +kernel

theorem test_header_poll_arrival : shows (exec (.headerPollArrival (hostLine 3 0)) (polling .running)) fun t =>
    t.iu.posted == 3 && t.iu.fetch == .underWay 3 0 && t.out == [.linkRead 0x6000 96] := by decide +kernel

theorem test_header_poll_arrival_post_fault : shows (exec (.headerPollArrival (hostLine 65 0)) (polling .halted)) fun t =>
    t.iu.posted == 64 && t.lrc.causePost && t.lrc.notice == Notice.exchange.bit := by decide +kernel

/-- A part with a fetch of one record under way. -/
def fetching (run : RunState) : State :=
  { at_ run with iu := { Intake.empty with posted := 1, fetched := 1, fetch := .underWay 1 0 } }

theorem test_record_fetch_arrival : shows (exec (.recordFetchArrival (7 :: List.replicate 31 0)) (fetching .running)) fun t =>
    t.iu.queue == [task 7 0 0 0 0 0 0] && t.iu.fetch == .idle := by decide +kernel

/-- A PICK of slot 5 on lane 1 for 10. -/
def pickTask : TaskRecord := task 1 1 0 7 5 10 0

/-- A part whose head is a PICK that waits for its demand fetch. -/
def demanding : State := { opened (ask running [pickTask]) with ac := { running.ac with demand := .underWay 5 0 } }

/-- An atlas entry: usable, string 0, address 1, limit 9. -/
def entryBytes : List Byte := [1, 0, 1, 9] ++ List.replicate 12 0

theorem test_atlas_demand_arrival : shows (exec (.atlasDemandArrival entryBytes) demanding) fun t =>
    t.ac.demand == .idle && (t.wayAt 10).fields == firstFields && t.lruOf 5 := by decide +kernel

/-- A part with a lookahead fetch under way. -/
def looking : State := { running with ac := { running.ac with ahead := .underWay 6 0 } }

theorem test_atlas_lookahead_arrival : shows (exec (.atlasLookaheadArrival entryBytes) looking) fun t =>
    t.ac.lookahead == some { slot := 6, fields := firstFields } && t.ac.ahead == .idle := by decide +kernel

/-- A part whose head is a PICK with its fields in way 0 of set 5. -/
def found : State :=
  { opened (ask running [pickTask]) with
    ac := { running.ac with ways := running.ac.ways.set 10 { parity := true, valid := true, tag := 0, fields := firstFields } } }

theorem test_pick : shows (exec .pick found) fun t =>
    t.pickState 0 == .shown && t.iu.taken == 1 && t.pm.free == 255 &&
      ((t.contextAt 0).map fun c => c.desired.faces == [oneFace] && c.desired.generation == 1) == some true := by decide +kernel

theorem test_pick_refused : shows (exec .pick (ask running [task 1 1 0 7 100 10 0])) fun t =>
    t.pickState 0 == .reporting && t.jw.report == [.pick 0] := by decide +kernel

theorem test_qualifier : shows (exec .qualifier (ask running [task 2 0 1 0 0 0 0, pickTask])) fun t =>
    t.iu.qualifiers == { QualifierSet.empty with urgent := true, count := 1 } && t.iu.taken == 1 := by decide +kernel

theorem test_cancel : shows (exec .cancel (ask lit [task 3 0 0 7 0 0 0])) fun t =>
    t.pickState 0 == .reporting && ((t.contextAt 0).map Context.draining) == some true && t.jw.report == [.pick 0] := by
  decide +kernel

theorem test_amend : shows (exec .amend (ask lit [task 4 0 0 7 0 999 0])) fun t =>
    ((t.pickAt 0).map Pick.requested) == some 999 &&
      ((t.contextAt 0).map fun c => c.desired.faces.map Face.quantity) == some [999] := by decide +kernel

theorem test_lane_setup : shows (exec .laneSetup (ask running [task 5 6 0 0 0 0 0x3C780701])) fun t =>
    t.lane 6 == { colour := some 7, linger := 120, abandon := 60 } := by decide +kernel

theorem test_atlas_drop : shows (exec .atlasDrop { found with
    iu := { found.iu with queue := [task 6 0 0 0 5 1 0] } }) fun t => !(t.wayAt 10).valid && t.iu.taken == 1 := by decide +kernel

theorem test_fence : shows (exec .fence (ask running [task 7 0 0 0 0 0 9])) fun t =>
    t.pm.fences == [] && t.jw.reserved == 0 &&
      t.jw.report == [.advisory { running.advisory .fenceReached .none 1024 9 with timeAccepted := 0 }] := by decide +kernel

theorem test_light_test : shows (exec .lightTest (withString (ask running [task 8 0 0 0 0 0 0x0100]) (fed .quiet))) fun t =>
    t.modeOf 0 == .test && t.jw.reserved == 1 && t.out.length == 2 && (t.stringAt 0).line == .broadcast (.test 1) 1 := by
  decide +kernel

theorem test_census : shows (exec .census (withString (ask running [task 9 0 0 0 0 0 0]) (fed .dormant))) fun t =>
    t.modeOf 0 == .surveying && (t.stringAt 0).purpose == some .census && t.jw.reserved == 1 := by decide +kernel

theorem test_skip : shows (exec .skip (ask running [task 0 0 0 0 0 0 0])) fun t => t.iu.taken == 1 && t.iu.queue == [] := by
  decide +kernel

theorem test_unknown_kind : shows (exec .unknownKind (ask running [task 10 0 0 0 0 0 0])) fun t =>
    t.jw.report == [.advisory (running.refusal (task 10 0 0 0 0 0 0) .unknownKind)] := by decide +kernel

/-- A string that waits for the answer of address 1 to a POLL. -/
def heard (mode : Mode) : StringCtl := { fed mode with line := .exchange 1 .poll false 0 }

/-- A reply with a CONFIRM of face 0, generation 1, sequence 0. -/
def confirmReply : List Byte := frameBytes [1, 0x80, 1, 1, 0x00, 0x01]

theorem test_module_reply : shows (exec (.moduleReply 0 confirmReply) (withString lit (heard .active))) fun t =>
    t.pickState 0 == .reporting && (t.link 0 1).presence == .present && (t.link 0 1).lastSequence == some 0 := by
  decide +kernel

/-- String 0 waiting for the answer of address 1, which missed twice. -/
def missing (mode : Mode) : StringCtl :=
  { heard mode with modules := { ModuleLink.fresh with misses := 2, presence := .present } :: List.replicate 119 ModuleLink.fresh }

theorem test_exchange_miss : shows (exec (.exchangeMiss 0) (withString lit (missing .active))) fun t =>
    t.link 0 1 == { ModuleLink.fresh with misses := 3, presence := .lost } && t.jw.report.length == 1 := by
  decide +kernel

theorem test_broadcast_end : shows (exec (.broadcastEnd 0)
    (withString running { fed .test with line := .broadcast (.test 60) 0 })) fun t =>
      (t.stringAt 0).line == .idle && (t.stringAt 0).modeTimer == some 60000 := by decide +kernel

theorem test_settling_end : shows (exec (.settlingEnd 0)
    (withString running { fed .settling with modeTimer := some 0, purpose := some .start })) fun t =>
      t.modeOf 0 == .surveying && (t.stringAt 0).line == .broadcast .allDark 1 := by decide +kernel

theorem test_light_test_end : shows (exec (.lightTestEnd 0)
    (withString running { fed .test with modeTimer := some 0, purpose := some .test })) fun t =>
      t.modeOf 0 == .surveying && (t.stringAt 0).purpose == some .test := by decide +kernel

theorem test_quiet_period : shows (exec (.quietPeriod 0) (withString running { fed .quiet with modeTimer := some 0 })) fun t =>
    (t.stringAt 0).modeTimer == some 25 && (t.stringAt 0).line == .exchange 1 .poll false 1 := by decide +kernel

theorem test_dormancy_timeout :
    shows (exec (.dormancyTimeout 0) (withString running { fed .quiet with dormancyTimer := 60000, modeTimer := some 9 }))
      fun t => t.modeOf 0 == .dormant := by decide +kernel

theorem test_attention_wake : shows (exec (.attentionWake 0 true) (withString running (fed .dormant))) fun t =>
    t.modeOf 0 == .quiet && (t.stringAt 0).sweep == some Sweep.first := by decide +kernel

theorem test_feed_fault : shows (exec (.feedFault 0 true) (withString lit (fed .active))) fun t =>
    t.modeOf 0 == .feedFault && (t.link 0 1).presence == .lost && (t.link 0 2).presence == .absent && !(t.stringAt 0).feed := by
  decide +kernel

/-- The lit part with an abandon timer run out. -/
def late : State := light (hold running [{ onePick 7 .placed with abandon := some 0 }]) oneContext

theorem test_abandon_timeout : shows (exec (.abandonTimeout 0) late) fun t =>
    ((t.pickAt 0).map fun p => p.overdueReported && p.abandon == none) == some true && t.jw.report.length == 1 := by
  decide +kernel

/-- The lit part with its linger timer run out. -/
def lingering : State := light lit { oneContext with claims := [{ oneClaim with linger := some 0 }] }

theorem test_linger_expiry : shows (exec (.lingerExpiry 0 0) lingering) fun t =>
    ((t.contextAt 0).map fun c => c.desired.faces.map Face.blink) == some [.fast] := by decide +kernel

/-- The lit part with a pin on claim 0 whose timer has run out. -/
def pinned : State := light lit { oneContext with pin := some { serial := 0, count := 9, timer := 0 } }

theorem test_pin_timeout : shows (exec (.pinTimeout 0) pinned) fun t =>
    ((t.contextAt 0).map Context.pin) == some none := by decide +kernel

/-- A part with one record in the open block and the seal timer run out. -/
def sealing : State := { running with jw := { Journal.empty with written := 1, sealTimer := some 0 } }

theorem test_seal_timeout : shows (exec .sealTimeout sealing) fun t =>
    t.jw.sealed == 1 && t.jw.written == 0 && t.lrc.notice == Notice.journal.bit && t.out.length == 2 := by decide +kernel

/-- A part with a REPORTING pick on its report list. -/
def reporting : State := { hold running [onePick 7 (.reporting oneOutcome)] with jw := { Journal.empty with report := [.pick 0] } }

theorem test_journal_write : shows (exec .journalWrite reporting) fun t =>
    t.pickAt 0 == none && t.pm.free == 256 && t.jw.written == 1 && t.jw.sealTimer == some 5 := by decide +kernel

theorem test_clock_counts : running.countClock.lrc.clock = 1 ∧ unset.countClock.lrc.clock = 0 := by decide +kernel

theorem test_step_front : step { unset with pending := [.actionOutOfRange 0, .start] } =
    exec (.actionOutOfRange 0) { unset with pending := [.start] } := rfl

/-! ### States that meet the premises of the statements -/

theorem test_premises_StepTakesTheFrontCommand :
    ({ unset with pending := [.halt, .start] } : State).pending = .halt :: [.start] := rfl

theorem test_premises_IdleStepIsOneMillisecond :
    unset.pending = [] ∧ unset.inRun = false ∧ sealing.pending = [] ∧ sealing.inRun = true := by decide +kernel

theorem test_premises_EveryWellFormedCommandAnswersANextState :
    (Instr.recordFetchArrival (List.replicate 256 0)).wf = true ∧ (Instr.recordFetchArrival (List.replicate 288 0)).wf = false ∧
      (Instr.lingerExpiry 95 255).wf = true ∧ (Instr.lingerExpiry 95 256).wf = false := by decide +kernel

theorem test_premises_IllegalActionsOnlySetActionRefused :
    running.lrc.run ≠ .unset ∧ halted.lrc.run ≠ .running ∧ running.lrc.run ≠ .halted ∧
      (unset.lrc.run ≠ .running ∧ unset.lrc.run ≠ .halted) ∧ (0#32).toNat = 0 ∧ 6 < (7#32).toNat := by decide +kernel

theorem test_premises_StartTakesTheBaseAndIssuesItsReads : unset.lrc.run = .unset := rfl

theorem test_premises_StartChecksDecideTheStart :
    starting.lrc.run = .starting ∧ starting.lrc.startRead.isSome = true ∧ (hostLine 0 1).length = 64 ∧
      (∀ b ∈ [block 63 2 8 1, block 64 65 8 1, block 64 2 65 1, block 64 2 8 0, block 64 2 8 1025, block 64 2 8 1,
        block 4096 64 64 1024], b.length = 64) ∧
      fieldAt (block 63 2 8 1) 0 2 ∉ [64, 128, 256, 512, 1024, 2048, 4096] ∧
      fieldAt (block 64 65 8 1) 2 2 ∉ [2, 4, 8, 16, 32, 64] ∧ fieldAt (block 64 2 65 1) 4 2 ∉ [8, 16, 32, 64] ∧
      fieldAt (block 64 2 8 0) 6 2 = 0 ∧ 1024 < fieldAt (block 64 2 8 1025) 6 2 ∧ fieldAt (block 64 2 8 1) 6 2 = 1 ∧
      fieldAt (hostLine 1 0) 0 4 ≠ 0 ∧ fieldAt (hostLine 0 1) 4 4 ≠ 0 ∧
      startVerdict (hostLine 0 0) (block 4096 64 64 1024) = .accepted ∧ starting.lrc.base = some 0x1000 := by decide +kernel

theorem test_premises_StartChecksDecideTheStart_resets :
    shows (exec .powerOn running) (fun _ => true) ∧ shows (exec .reset running) (fun _ => true) ∧
      shows (exec .linkReset running) (fun _ => true) ∧ shows (exec .clear halted) (fun _ => true) := by decide +kernel

/-- A setup block with a threshold, a seal delay, strings 0 and 1 enabled with ceilings 120 and 1, string 2's ceiling at 121. -/
def fullBlock (threshold delay : Nat) : List Byte :=
  bytesLE 2 64 ++ bytesLE 2 4 ++ bytesLE 2 8 ++ bytesLE 2 100 ++ bytesLE 2 threshold ++ [0, 0] ++ bytesLE 2 delay ++
    [0, 0, 0, 0, 0, 7, 0, 0, 0, 0, 120, 1, 121, 0] ++ List.replicate 36 0

theorem test_premises_AcceptedStartBringsTheStringsUp_fields :
    1 ≤ (setupCopy (fullBlock 1 5)).blocks ∧ 1 ≤ fieldAt (fullBlock 1 5) 8 2 ∧
      fieldAt (fullBlock 4 5) 8 2 ≤ (setupCopy (fullBlock 4 5)).blocks ∧ 5 ≤ fieldAt (fullBlock 1 5) 0x0C 2 ∧
      fieldAt (fullBlock 1 250) 0x0C 2 ≤ 250 ∧ ((setupCopy (fullBlock 1 5)).string 0).enabled = true ∧
      ((setupCopy (fullBlock 1 5)).string 1).enabled = true ∧ ((setupCopy (fullBlock 1 5)).string 2).enabled = false := by
  decide +kernel

/-- A starting part: string 0 dark, string 1 lit and its feed fault asserted. -/
def startingStrings : State :=
  { starting with strings := [StringCtl.powerOn, { StringCtl.powerOn with feed := true, feedFaultInput := true }, StringCtl.powerOn,
      StringCtl.powerOn] }

theorem test_premises_AcceptedStartBringsTheStringsUp :
    startingStrings.lrc.run = .starting ∧ startingStrings.lrc.startRead.isSome = true ∧ (fullBlock 1 5).length = 64 ∧
      startVerdict (hostLine 0 0) (fullBlock 1 5) = .accepted ∧ startingStrings.strings.length = 4 ∧
      ((setupCopy (fullBlock 1 5)).string 2).enabled = false ∧ ((setupCopy (fullBlock 1 5)).string 0).enabled = true ∧
      (startingStrings.stringAt 0).feedFaultInput = false ∧ (startingStrings.stringAt 0).feed = false ∧
      (startingStrings.stringAt 1).feedFaultInput = true ∧
      (withString starting { StringCtl.powerOn with feed := true }).stringAt 0 = { StringCtl.powerOn with feed := true } := by
  decide +kernel

theorem test_premises_HaltPausesTheRun :
    sealing.Intact ∧ sealing.lrc.run = .running ∧ sealing.lrc.setup = some small ∧ 0 < sealing.jw.written ∧ lit.Intact ∧
      lit.lrc.run = .running ∧ lit.lrc.setup = some small ∧ lit.jw.written = 0 ∧
      lit.contextAt 0 = some oneContext :=
  ⟨(good (by decide +kernel)).1, rfl, rfl, by decide +kernel, (good (by decide +kernel)).1, rfl, rfl, rfl, rfl⟩

theorem test_premises_ResumeRunsAgain :
    halted.Intact ∧ halted.lrc.run = .halted ∧ halted.iu.poll = .idle ∧ (polling .halted).Intact ∧
      (polling .halted).lrc.run = .halted ∧ (polling .halted).iu.poll = .underWay 0 50 ∧
      ({ halted with iu := { halted.iu with poll := .held 0 } } : State).iu.poll = .held 0 :=
  ⟨(good (by decide +kernel)).1, rfl, rfl, (good (by decide +kernel)).1, rfl, rfl, rfl⟩

theorem test_premises_ClearDiscardsTheRun : halted.lrc.run = .halted ∧ (polling .halted).lrc.run = .halted := ⟨rfl, rfl⟩

theorem test_premises_ResetsReturnToSweeping : running.strings.length = 4 ∧ State.reset.strings.length = 4 := by decide +kernel

/-- A part whose sweep has written every entry but the last. -/
def sweptState : State :=
  { unset with
    lrc := RunControl.powerOn, tiu := { capture := Capture.empty, sweepPosition := 479 }
    ac := { Cache.empty true with ways := (Cache.empty true).ways.set 127 Way.unswept } }

theorem test_premises_SweepDoneLeavesTheTablesEmpty :
    sweptState.lrc.run = .sweeping ∧ sweptState.tiu.sweepPosition = 479 ∧
      (∀ e ∈ sweptState.pm.entries, e = { parity := true, pick := none }) ∧
      (∀ e ∈ sweptState.contexts, e = { parity := true, context := none }) ∧
      (∀ i < 127, sweptState.wayAt i = { Way.unswept with parity := true }) ∧ unset.lrc.run ≠ .sweeping ∧
      State.reset.tiu.sweepPosition ≠ 479 := by decide +kernel

theorem test_premises_SweepDoneLeavesTheTablesEmpty_shape : sweptState.Shape := by
  simp only [State.Shape]; decide +kernel

theorem test_premises_PromptIssuesOrOwesOnePoll :
    running.inRun = true ∧ running.iu.poll = .idle ∧ running.lrc.base = some 0x1000 ∧ (polling .running).inRun = true ∧
      (polling .running).iu.poll = .underWay 0 50 ∧ (polling .running).lrc.setup = some small ∧ (hostLine 0 0).length = 64 ∧
      (polling .running).Intact ∧ ({ halted with iu := { halted.iu with poll := .held 0 } } : State).inRun = true ∧
      halted.lrc.run = .halted :=
  ⟨rfl, rfl, rfl, rfl, rfl, rfl, by decide +kernel, (good (by decide +kernel)).1, rfl, rfl⟩

theorem test_premises_RegisterAccessesDoWhatTheTableSays :
    unset.lrc.run = .unset ∧ (0x12345FC0#32).toNat % 64 = 0 ∧ (running.reportFault .pick 255).tiu.capture.index < 256 ∧
      running.journalLevel = true ∧ unset.journalLevel = false := by decide +kernel

theorem test_premises_MessageIsSentWhenTheEnabledSetFills :
    (0x20#6 : BitVec 6) &&& Notice.setup.bit ≠ 0 ∧ unset.lrc.notice &&& unset.lrc.mask = 0 ∧
      unset.lrc.notice &&& (0x20#6 : BitVec 6) = 0 ∧ unset.lrc.mask &&& Notice.setup.bit = 0 := by decide +kernel

theorem test_premises_FirstFaultIsCaptured :
    running.tiu.capture.frozen = false ∧ (running.reportFault .atlas 127).tiu.capture.frozen = true ∧
      shows (exec .clear halted) (fun _ => true) ∧ shows (exec .reset running) (fun _ => true) ∧
      shows (exec .linkReset running) (fun _ => true) ∧ shows (exec .powerOn running) (fun _ => true) := by decide +kernel

theorem test_premises_RegisterAccessesLeaveTheBlocksAlone :
    ∀ c ∈ [Instr.actionOutOfRange 0, .exbaseWrite true 1, .exbaseWrite false 1, .noticeWrite 0x3F, .noticeMaskWrite 0x3F,
      .faultWhereWrite 0, .stateRead, .registerWriteIgnored 0x1C 1], shows (exec c unset) (fun _ => true) := by
  decide +kernel

/-- A part with every read of a run under way, one at the limit of its age and one below. -/
def reading : State :=
  { running with
    iu := { running.iu with poll := .underWay 0 50, fetch := .underWay 8 49 }
    ac := { running.ac with demand := .underWay 5 0, ahead := .underWay 6 1 } }

theorem test_premises_FailedReadsAreHeldAndHaltThePart :
    reading.Intact ∧ starting.Intact ∧ reading.iu.poll = .underWay 0 50 ∧ reading.iu.fetch = .underWay 8 49 ∧
      reading.ac.demand = .underWay 5 0 ∧ reading.ac.ahead = .underWay 6 1 ∧ starting.lrc.startRead = some 0 ∧
      reading.ageOf .headerPoll = some 50 ∧ reading.ageOf .recordFetch = some 49 ∧ reading.ageOf .startRead = none :=
  ⟨(good (by decide +kernel)).1, (good (by decide +kernel)).1, rfl, rfl, rfl, rfl, rfl, rfl, rfl, rfl⟩

/-- A part that awaits a voided demand fetch and a voided poll. -/
def voiding : State := { running with lrc := { running.lrc with voided := [.demand, .poll] } }

theorem test_premises_VoidedReadsAreDiscardedOnArrival :
    (voiding.Intact ∧ voiding.Shape) ∧ voiding.lrc.voided[1]? ≠ some .demand ∧ voiding.lrc.voided[1]? ≠ some .lookahead ∧
      voiding.lrc.voided[0]? = some .demand ∧ voiding.ac.ahead = .idle :=
  ⟨good (by decide +kernel), by decide +kernel⟩

/-- The part at a moment of its clock. -/
def clocked (s : State) (clock : Clock) : State := { s with lrc := { s.lrc with clock := clock } }

theorem test_premises_HeaderPollsFollowTheCadence :
    running.lrc.setup = some small ∧ running.inRun = true ∧ running.iu.poll = .idle ∧ lit.pm.free < 256 ∧
      ((clocked lit 1).lrc.clock - lit.iu.lastPoll).toNat = small.brisk ∧ (lit.lrc.clock - lit.iu.lastPoll).toNat < small.brisk ∧
      running.pm.free = 256 ∧ running.iu.lastNew = none ∧ (running.jw.sealed - running.jw.released).toNat < small.blocks ∧
      ((clocked running 20).lrc.clock - running.iu.lastPoll).toNat = small.idle ∧
      ((clocked running 19).lrc.clock - running.iu.lastPoll).toNat < small.idle ∧ unset.inRun = false ∧
      (polling .running).iu.poll ≠ .idle := by decide +kernel

/-- A polling part with two blocks sealed and three records fetched, in LEVEL or LATCH mode. -/
def judging (latch : Bool) : State :=
  { polling .running with
    lrc := { runControl .running with setup := some { small with latch := latch } }
    iu := { (polling .running).iu with posted := 3, fetched := 3, fetch := .underWay 3 0 }
    jw := { Journal.empty with sealed := 2 } }

theorem test_premises_CountsAreJudgedAtEachPoll :
    ∀ latch, (judging latch).lrc.setup = some { small with latch := latch } ∧ (judging latch).inRun = true ∧
      (judging latch).iu.poll = .underWay 0 50 ∧ (hostLine 65 3).length = 64 ∧
      small.capacity < (BitVec.ofNat 32 (fieldAt (hostLine 65 3) 0 4) - (judging latch).iu.taken).toNat ∧
      ¬small.capacity < (BitVec.ofNat 32 (fieldAt (hostLine 64 2) 0 4) - (judging latch).iu.taken).toNat ∧
      (BitVec.ofNat 32 (fieldAt (hostLine 2 2) 0 4) - (judging latch).iu.taken).toNat <
        ((judging latch).iu.fetched - (judging latch).iu.taken).toNat ∧
      ((judging latch).jw.sealed - (judging latch).jw.released).toNat <
        (BitVec.ofNat 32 (fieldAt (hostLine 65 3) 4 4) - (judging latch).jw.released).toNat ∧
      ¬((judging latch).jw.sealed - (judging latch).jw.released).toNat <
        (BitVec.ofNat 32 (fieldAt (hostLine 64 2) 4 4) - (judging latch).jw.released).toNat := by decide +kernel

/-- A part that may fetch records: one is posted. -/
def mayFetch : State := { running with iu := { Intake.empty with posted := 1 } }

theorem test_premises_RecordsAreFetchedIntoTheQueue :
    mayFetch.lrc.setup = some small ∧ mayFetch.lrc.base = some 0x1000 ∧ mayFetch.iu.fetch = .idle ∧
      mayFetch.iu.queue.length < 8 ∧ 1 ≤ (mayFetch.iu.posted - mayFetch.iu.fetched).toNat ∧
      ¬1 ≤ (running.iu.posted - running.iu.fetched).toNat ∧ (fetching .running).inRun = true ∧
      (fetching .running).iu.fetch = .underWay 1 0 ∧ (List.replicate 32 (0 : Byte)).length = 32 * 1 ∧
      reading.iu.fetch = .underWay 8 49 ∧ (List.replicate 256 (0 : Byte)).length = 32 * 8 ∧
      (fetching .halted).lrc.run = .halted := by decide +kernel

theorem test_premises_RecordsAreFetchedIntoTheQueue_intact :
    (fetching .running).Intact ∧ (fetching .halted).Intact ∧ reading.Intact :=
  ⟨(good (by decide +kernel)).1, (good (by decide +kernel)).1, (good (by decide +kernel)).1⟩

/-- A part with ways of set 63 as given. -/
def withWays (w0 w1 : Way) (ahead : Option Lookahead) : State :=
  { running with ac := { running.ac with ways := (running.ac.ways.set 126 w0).set 127 w1, lookahead := ahead } }

/-- A way with a tag. -/
def tagged (valid : Bool) (tag : Nat) : Way := { parity := true, valid := valid, tag := tag, fields := firstFields }

theorem test_premises_HeadLookupFindsTheFields :
    (∀ w ∈ (withWays (tagged true 15) (tagged true 0) none).ac.ways, w.parity = true) ∧ 1023 < 1024 ∧ 1023 % 64 = 63 ∧
      ((withWays (tagged true 15) (tagged true 0) none).wayAt 126).tag = 1023 / 64 ∧
      ((withWays (tagged false 15) (tagged true 15) none).wayAt 126).valid = false ∧
      ((withWays (tagged false 15) (tagged true 15) none).wayAt 127).tag = 1023 / 64 ∧
      (withWays (tagged true 0) (tagged true 1) (some { slot := 1023, fields := firstFields })).ac.lookahead =
        some { slot := 1023, fields := firstFields } ∧
      (withWays (tagged true 0) (tagged true 1) none).ac.lookahead = none ∧
      ((withWays (tagged true 0) { tagged true 1 with parity := false } none).wayAt 127).parity = false ∧
      running.tiu.capture.frozen = false := by decide +kernel

theorem test_premises_HeadLookupFindsTheFields_shape :
    (withWays (tagged true 15) (tagged true 0) none).Shape ∧ (withWays (tagged false 15) (tagged true 15) none).Shape ∧
      (withWays (tagged true 0) (tagged true 1) (some { slot := 1023, fields := firstFields })).Shape :=
  ⟨(good (by decide +kernel)).2, (good (by decide +kernel)).2, (good (by decide +kernel)).2⟩

/-- A part whose head waits on the lookahead fetch of its slot. -/
def waitingAhead : State :=
  { ask running [pickTask] with
    iu := { (ask running [pickTask]).iu with onLookahead := true }
    ac := { running.ac with ahead := .underWay 5 0 } }

theorem test_premises_AtlasFetchesBringTheFields :
    (demanding.Intact ∧ demanding.Shape) ∧ (looking.Intact ∧ looking.Shape) ∧ (waitingAhead.Intact ∧ waitingAhead.Shape) ∧
      demanding.HeadIs pickTask .pick ∧ waitingAhead.HeadIs pickTask .pick :=
  ⟨good (by decide +kernel), good (by decide +kernel), good (by decide +kernel), ⟨rfl, rfl, rfl⟩, ⟨rfl, rfl, rfl⟩⟩

theorem test_premises_AtlasFetchesBringTheFields_rest :
    demanding.ac.demand = .underWay pickTask.slot.toNat 0 ∧ demanding.iu.onLookahead = false ∧
      demanding.needsFields pickTask.slot.toNat = true ∧ entryBytes.length = 16 ∧ demanding.wayOf pickTask.slot.toNat = none ∧
      looking.inRun = true ∧ looking.ac.ahead = .underWay 6 0 ∧ looking.iu.onLookahead = false ∧
      waitingAhead.iu.onLookahead = true ∧ waitingAhead.ac.ahead = .underWay 5 0 ∧ waitingAhead.ac.demand = .idle ∧
      waitingAhead.needsFields 5 = true ∧ waitingAhead.wayOf 5 = none := by decide +kernel

theorem test_premises_ReadArrivalsLeaveTheTablesAlone :
    (polling .running).Intact ∧ (polling .running).inRun = true ∧
      shows (exec (.headerPollArrival (hostLine 3 0)) (polling .running)) (fun _ => true) ∧
      shows (exec (.recordFetchArrival (List.replicate 32 0)) (fetching .running)) (fun _ => true) ∧
      shows (exec (.atlasDemandArrival entryBytes) demanding) (fun _ => true) ∧
      shows (exec (.atlasLookaheadArrival entryBytes) looking) (fun _ => true) ∧
      shows (exec (.voidedReadArrival 0) voiding) (fun _ => true) ∧ shows (exec .headerPollIssue running) (fun _ => true) :=
  ⟨(good (by decide +kernel)).1, rfl, by decide +kernel⟩

/-- A part whose pick table is full, its head a PICK of a slot at or above A. -/
def full : State := ask (hold running (List.replicate 256 (onePick 7 .placed))) [task 1 1 0 7 100 10 0]

theorem test_premises_PickIsConsumedIntoTheLowestFreeEntry :
    ((ask lit [pickTask]).Intact ∧ (ask lit [pickTask]).Shape) ∧ (full.Intact ∧ full.Shape) ∧
      (ask lit [pickTask]).HeadIs pickTask .pick ∧ full.HeadIs (task 1 1 0 7 100 10 0) .pick :=
  ⟨good (by decide +kernel), good (by decide +kernel), ⟨rfl, rfl, rfl⟩, ⟨rfl, rfl, rfl⟩⟩

theorem test_premises_PickIsConsumedIntoTheLowestFreeEntry_rest :
    (ask lit [pickTask]).headWaits = false ∧ (ask lit [pickTask]).needsFields 5 = false ∧
      (ask lit [pickTask]).pickAt 1 = none ∧ (∀ j < 1, (ask lit [pickTask]).pickAt j ≠ none) ∧ full.headWaits = false ∧
      full.needsFields 100 = false ∧ (∀ i < 256, full.pickAt i ≠ none) := by decide +kernel

/-- A part whose head is a PICK with its fields in the lookahead. -/
def ahead : State :=
  { ask running [pickTask] with ac := { running.ac with lookahead := some { slot := 5, fields := firstFields } } }

/-- A part whose head is a PICK whose lookahead fetch is under way. -/
def aheadUnderWay : State := { ask running [pickTask] with ac := { running.ac with ahead := .underWay 5 0 } }

theorem test_premises_PickWaitsForItsAtlasFields :
    (found.Intact ∧ found.Shape) ∧ (ahead.Intact ∧ ahead.Shape) ∧
      (aheadUnderWay.Intact ∧ aheadUnderWay.Shape) ∧ (demanding.Intact ∧ demanding.Shape) ∧ found.HeadIs pickTask .pick ∧
      ahead.HeadIs pickTask .pick ∧ aheadUnderWay.HeadIs pickTask .pick ∧ demanding.HeadIs pickTask .pick :=
  ⟨good (by decide +kernel), good (by decide +kernel), good (by decide +kernel), good (by decide +kernel),
    ⟨rfl, rfl, rfl⟩, ⟨rfl, rfl, rfl⟩, ⟨rfl, rfl, rfl⟩, ⟨rfl, rfl, rfl⟩⟩

theorem test_premises_PickWaitsForItsAtlasFields_rest :
    (∀ s ∈ [found, ahead, aheadUnderWay, demanding], s.needsFields 5 = true) ∧
      (∀ s ∈ [found, ahead, aheadUnderWay, ask running [pickTask]], s.headWaits = false) ∧ demanding.headWaits = true ∧
      found.pickAt 0 = none ∧ found.wayOf 5 = some 10 ∧ ahead.pickAt 0 = none ∧ ahead.wayOf 5 = none ∧
      ahead.ac.lookahead = some { slot := 5, fields := firstFields } ∧ aheadUnderWay.ac.lookahead = none ∧
      aheadUnderWay.wayOf 5 = none ∧ aheadUnderWay.ac.ahead.reads 5 = true ∧
      (ask running [pickTask]).ac.ahead.reads 5 = false ∧ running.lrc.base = some 0x1000 := by decide +kernel

/-- A qualifier set with a count and an override of the lane. -/
def overriding (count lane : Nat) : QualifierSet := { QualifierSet.empty with count := count, lane := some lane }

theorem test_premises_PickChecksDecideInOrder_qualifiers :
    (overriding 5 1).count = 5 ∧ (overriding 4 0).lane = some 0 ∧ (overriding 4 7).lane = some 7 ∧ (overriding 4 7).count ≠ 5 ∧
      (overriding 4 6).badCode = false ∧ (overriding 4 6).lane = some 6 ∧ running.lrc.setup = some small := by decide +kernel

theorem test_premises_PickChecksDecideInOrder :
    (∀ q : BitVec 16, q = 0 ∨ q = 1000 → ¬(1 ≤ q.toNat ∧ q.toNat ≤ 999)) ∧
      (1 ≤ (999#16).toNat ∧ (999#16).toNat ≤ 999) ∧ ((opened running).lane 2).colour = none ∧
      ((opened running).lane 1).colour ≠ none ∧ ¬(100#16).toNat < small.atlasSize ∧ (99#16).toNat < small.atlasSize ∧
      (∃ e ∈ lit.pm.entries, (e.pick.map Pick.tag) = some 7) ∧ (∀ e ∈ running.pm.entries, e.pick = none) ∧
      (running.contextOfSlot 5).isSome = false ∧ (lit.contextOfSlot 5).isSome = true ∧
      AtlasFields.zero.resolves small = false ∧ firstFields.resolves small = true ∧
      (lit.contextOfModule firstFields.string firstFields.address).isSome = true ∧
      (running.contextOfModule firstFields.string firstFields.address).isSome = false :=
  ⟨by rintro q (rfl | rfl) <;> decide, by decide +kernel⟩

/-- A part with a QUALIFIER of a code at its head, and what stands behind it. -/
def qualified (code : Byte) (rest : List TaskRecord) : State := ask running (task 2 6 code 0 0 0 0 :: rest)

theorem test_premises_QualifierIsGathered :
    (∀ r ∈ [task 2 6 0 0 0 0 0, task 2 6 1 0 0 0 0, task 2 6 2 0 0 0 0, task 2 6 3 0 0 0 0, task 2 6 4 0 0 0 0],
      ∀ rest ∈ [[], [pickTask]], sound (ask running (r :: rest)) = true ∧ (ask running (r :: rest)).inRun = true ∧
        (ask running (r :: rest)).head = some r ∧ r.task = .qualifier) ∧ 2 ≤ (qualified 1 [pickTask]).iu.queue.length ∧
      (qualified 1 []).iu.queue.length < 2 := by decide +kernel

/-- A part with its advisory queue full of reservations. -/
def noSpare : State := { running with jw := { Journal.empty with reserved := 16 } }

/-- A fence with an intake sequence. -/
def fenceAt (n : Count) : Fence := { id := 9, intakeSequence := n, timeAccepted := 0 }

theorem test_premises_DirectivesWaitPassOrAreRefused :
    noSpare.jw.spare = 0 ∧
      ({ running with pm := { running.pm with fences := List.replicate 4 (fenceAt 0) } } : State).pm.fences.length = 4 ∧
      sound (ask running [task 10 0 0 0 0 0 0]) = true ∧ 0 < (ask running [task 10 0 0 0 0 0 0]).jw.spare ∧
      (task 10 0 0 0 0 0 0).task = .unknown ∧ (task 0 0 0 0 0 0 0).task = .skip ∧ (ask running [task 0 0 0 0 0 0 0]).inRun = true ∧
      (ask running [task 0 0 0 0 0 0 0]).head = some (task 0 0 0 0 0 0 0) := by decide +kernel

/-- A CANCEL of a tag. -/
def cancelTask (tag : Word) : TaskRecord := task 3 0 0 tag 0 0 0

/-- The lit part with a REPORTING pick of tag 8 and a DEFERRED one of tag 9. -/
def mixed : State :=
  let s := hold running [onePick 7 .placed, onePick 8 (.reporting oneOutcome), onePick 9 (.deferred firstModule)]
  light { s with pm := { s.pm with deferred := [2] } } oneContext

theorem test_premises_CancelTakesThePickItFinds :
    (∀ r ∈ [cancelTask 0, cancelTask 7, cancelTask 8, cancelTask 9], sound (ask mixed [r]) = true ∧
      0 < (ask mixed [r]).jw.spare ∧ (ask mixed [r]).inRun = true ∧ (ask mixed [r]).head = some r ∧ r.task = .cancel) ∧
      mixed.findTag 0 = .notFound ∧ mixed.findTag 8 = .reporting ∧
      mixed.findTag 9 = .live 2 (onePick 9 (.deferred firstModule)) ∧ mixed.findTag 7 = .live 0 (onePick 7 .placed) ∧
      mixed.holder 0 = some (0, oneClaim) ∧ mixed.pickAt 0 = some (onePick 7 .placed) ∧
      mixed.pickAt 1 = some (onePick 8 (.reporting oneOutcome)) := by decide +kernel

/-- An AMEND of a tag to a quantity. -/
def amendTask (tag : Word) (quantity : BitVec 16) : TaskRecord := task 4 0 0 tag 0 quantity 0

/-- The lit part whose claim has two picks, 500 and 499, and a DEFERRED pick. -/
def paired : State :=
  let s := hold running [{ onePick 7 .placed with requested := 500 }, { onePick 8 .placed with requested := 499 },
    onePick 9 (.deferred firstModule)]
  light { s with pm := { s.pm with deferred := [2] } } { oneContext with claims := [{ oneClaim with bundle := [0, 1], sum := 999 }] }

theorem test_premises_AmendChangesTheRequestedQuantity :
    (∀ r ∈ [amendTask 7 0, amendTask 7 1000, amendTask 0 1, amendTask 8 999, amendTask 9 1, amendTask 7 500, amendTask 7 501],
      sound (ask paired [r]) = true ∧ 0 < (ask paired [r]).jw.spare ∧ (ask paired [r]).inRun = true ∧
      (ask paired [r]).head = some r ∧ r.task = .amend) ∧ paired.findTag 0 = .notFound ∧ mixed.findTag 8 = .reporting ∧
      paired.findTag 9 = .live 2 (onePick 9 (.deferred firstModule)) ∧ paired.holder 2 = none ∧
      paired.findTag 7 = .live 0 { onePick 7 .placed with requested := 500 } ∧
      paired.holder 0 = some (0, { oneClaim with bundle := [0, 1], sum := 999 }) ∧ paired.sumWith [0, 1] 0 500 = 999 ∧
      paired.sumWith [0, 1] 0 501 = 1000 := by decide +kernel

/-- A LANE-SETUP of a lane with its four argument bytes. -/
def laneTask (lane : Byte) (target colour linger abandon : Nat) : TaskRecord :=
  task 5 lane 0 0 0 0 (BitVec.ofNat 32 (target + 256 * colour + 65536 * linger + 16777216 * abandon))

theorem test_premises_LaneSetupIsCheckedInOrder :
    (∀ r ∈ [laneTask 0 0 0 0 0, laneTask 7 0 0 0 0, laneTask 1 2 0 0 0, laneTask 1 1 0 0 0, laneTask 1 1 8 0 0,
      laneTask 1 0 0 121 0, laneTask 1 0 0 0 61, laneTask 1 1 2 120 60, laneTask 1 0 0 0 0, laneTask 6 1 1 0 0,
      laneTask 6 1 7 120 60], sound (ask (opened lit) [r]) = true ∧ 0 < (ask (opened lit) [r]).jw.spare ∧
        (ask (opened lit) [r]).inRun = true ∧ (ask (opened lit) [r]).head = some r ∧ r.task = .laneSetup) ∧
      (∃ e ∈ (opened lit).pm.entries, e.pick = some (onePick 7 .placed)) ∧ ((opened lit).lane 1).colour = some 1 ∧
      ((opened lit).lane 1).colour ≠ some 2 ∧ (∀ m, 2 ≤ m → m ≤ 6 → ((opened lit).lane m).colour = none) := by
  refine ⟨by decide +kernel, by decide +kernel, by decide +kernel, by decide +kernel, fun m h1 h2 => ?_⟩
  interval_cases m <;> decide +kernel

/-- An ATLAS-DROP of a range. -/
def dropTask (first count : BitVec 16) : TaskRecord := task 6 0 0 0 first count 0

theorem test_premises_AtlasDropEmptiesItsRange :
    (∀ r ∈ [dropTask 1024 1, dropTask 0 0, dropTask 0 1025, dropTask 1023 1024, dropTask 0 1],
      sound (ask looking [r]) = true ∧ 0 < (ask looking [r]).jw.spare ∧ (ask looking [r]).inRun = true ∧
        (ask looking [r]).head = some r ∧ r.task = .atlasDrop) ∧ looking.ac.ahead = .underWay 6 0 ∧ running.ac.ahead = .idle := by
  decide +kernel

/-- A FENCE whose record is number 1 of the stream, on the lit part, behind given fences. -/
def fencing (fences : List Fence) (taken : Count) : State :=
  { lit with
    pm := { lit.pm with fences := fences }
    iu := { lit.iu with queue := [task 7 0 0 0 0 0 9], taken := taken, fetched := taken + 1, posted := taken + 1 } }

theorem test_premises_FencesAreReachedInOrder :
    (∀ s ∈ [fencing [] 0, fencing [] 1, fencing [fenceAt 1] 2, fencing (List.replicate 3 (fenceAt 1)) 5], sound s = true ∧
      0 < s.jw.spare ∧ s.pm.fences.length < 4 ∧ s.inRun = true ∧ s.head = some (task 7 0 0 0 0 0 9) ∧
      (task 7 0 0 0 0 0 9).task = .fence) ∧ lit.fenceReached (fenceAt 0) = true ∧ lit.fenceReached (fenceAt 1) = false ∧
      lit.fenceReached (fenceAt 0x7FFFFFFF) = false ∧ lit.fenceReached (fenceAt 0x80000000) = true := by decide +kernel

/-- A LIGHT-TEST or CENSUS of a string. -/
def stringTask (kind : Byte) (n seconds : Nat) : TaskRecord := task kind 0 0 0 0 0 (BitVec.ofNat 32 (n + 256 * seconds))

theorem test_premises_LightTestsAndCensusesAreJudgedAndStarted :
    (∀ m ∈ [Mode.quiet, .dormant, .active, .feedFault], ∀ r ∈ [stringTask 8 4 1, stringTask 8 0 0, stringTask 8 0 61,
      stringTask 8 3 60, stringTask 8 0 1], sound (withString (ask running [r]) (fed m)) = true ∧
        (withString (ask running [r]) (fed m)).head = some r ∧ r.task = .lightTest) ∧
      (∀ r ∈ [stringTask 9 4 0, stringTask 9 3 0, stringTask 9 0 0], sound (ask running [r]) = true ∧
        (ask running [r]).head = some r ∧ r.task = .census) ∧
      (small.string 3).enabled = false ∧ (small.string 0).enabled = true ∧
      (∀ m ∈ [Mode.quiet, .dormant, .active, .feedFault], (withString running (fed m)).modeOf 0 = m ∧
        (withString running (fed m)).anyHot 0 = false ∧ ((withString running (fed m)).stringAt 0).line = .idle ∧
        ((withString running (fed m)).stringAt 0).feedFaultInput = false) ∧
      ((withString running (heard .quiet)).stringAt 0).line ≠ .idle ∧ (withString lit (fed .quiet)).anyHot 0 = true ∧
      ((withString running { fed .feedFault with feedFaultInput := true }).stringAt 0).feedFaultInput = true := by
  decide +kernel

theorem test_premises_ConsumptionsLeaveTheJournalCountsAlone :
    ∀ c ∈ [Instr.pick, .qualifier, .cancel, .amend, .laneSetup, .atlasDrop, .fence, .lightTest, .census, .skip, .unknownKind],
      shows (exec c (ask running [pickTask])) (fun _ => true) := by decide +kernel

theorem test_premises_RepliesUpdateTheModule :
    ((withString lit (heard .active)).Intact ∧ (withString lit (heard .active)).Shape) ∧
      ((withString running (heard .quiet)).Intact ∧ (withString running (heard .quiet)).Shape) ∧
      ((withString lit (heard .active)).stringAt (0 : Fin 4)).line = .exchange 1 .poll false 0 ∧
      (decodeReply 1 confirmReply).isSome = true ∧
      decodeReply 1 (frameBytes [1, 0x80, 1, 0]) =
        some { generation := 1, fresh := false, overflow := false, lampFault := false, events := [] } ∧
      (withString lit (heard .active)).contextOfModule (0 : Fin 4) 1 = some 0 ∧ lit.contextAt 0 = some oneContext ∧
      oneContext.claims ≠ [] ∧ (withString running (heard .quiet)).contextOfModule (0 : Fin 4) 1 = none :=
  ⟨good (by decide +kernel), good (by decide +kernel), by decide +kernel⟩

theorem test_premises_RepliesUpdateTheModule_sequences :
    (0 + 16 - 12) % 16 ∈ [1, 2, 3, 4] ∧ (13 + 16 - 12) % 16 ∈ [1, 2, 3, 4] ∧ (12 + 16 - 12) % 16 ∉ [1, 2, 3, 4] ∧
      (1 + 16 - 12) % 16 ∉ [1, 2, 3, 4] := by decide

/-- String 0 waiting for the answer of address 120 in a sweep, LOST before. -/
def missingLost (sweep : Bool) : StringCtl :=
  { fed .quiet with
    line := .exchange 120 .poll sweep 0
    modules := List.replicate 119 ModuleLink.fresh ++ [{ ModuleLink.fresh with presence := .lost, misses := 3 }] }

theorem test_premises_MissesAreCountedOrMakeAbsent :
    ((withString lit (missing .active)).Intact ∧ (withString lit (missing .active)).Shape) ∧
      ((withString running (missingLost true)).Intact ∧ (withString running (missingLost true)).Shape) ∧
      ((withString lit (missing .active)).stringAt (0 : Fin 4)).line = .exchange 1 .poll false 0 ∧
      decodeReply 1 [] = none ∧ (withString lit (missing .active)).hot (0 : Fin 4) 1 = true ∧
      ((withString lit (missing .active)).link (0 : Fin 4) 1).misses = 2 ∧
      ((withString lit (missing .active)).link (0 : Fin 4) 1).presence ≠ .lost ∧
      (withString lit (missing .active)).inRun = true ∧ 0 < (withString lit (missing .active)).jw.spare ∧
      (withString running (missing .quiet)).hot (0 : Fin 4) 1 = false ∧
      (∀ sweep, ((withString running (missingLost sweep)).stringAt (0 : Fin 4)).line = .exchange 120 .poll sweep 0 ∧
        (withString running (missingLost sweep)).hot (0 : Fin 4) 120 = false ∧
        ((withString running (missingLost sweep)).link (0 : Fin 4) 120).presence = .lost) :=
  ⟨good (by decide +kernel), good (by decide +kernel), by decide +kernel⟩

/-- String 0 in a mode whose time has run out. -/
def timedOut (mode : Mode) (line : Line) : StringCtl := { fed mode with modeTimer := some 0, line := line, dormancyTimer := 60000 }

theorem test_premises_StringTimesEndAsTheModesSay_tables :
    (∀ m, ∀ l ∈ [Line.idle, .exchange 1 .poll false 1, .broadcast .pause 0, .broadcast (.test 1) 0],
      (withString running (timedOut m l)).Intact ∧ (withString running (timedOut m l)).Shape) ∧
      ((withString halted (timedOut .settling .idle)).Intact ∧ (withString halted (timedOut .settling .idle)).Shape) := by
  refine ⟨fun m l h => ?_, good (by decide +kernel)⟩
  simp only [List.mem_cons, List.not_mem_nil, or_false] at h
  rcases h with rfl | rfl | rfl | rfl <;> cases m <;> exact good (by decide +kernel)

theorem test_premises_StringTimesEndAsTheModesSay :
    (timedOut .settling .idle).modeTimer = some 0 ∧ (timedOut .quiet (.exchange 1 .poll false 1)).line.inExchange = true ∧
      (timedOut .quiet .idle).line.inExchange = false ∧ (fed .quiet).modeTimer ≠ some 0 ∧
      (timedOut .quiet .idle).items = some (small.items 0) ∧ (small.items 0).dormancy = true ∧ (small.items 1).dormancy = false ∧
      60000 ≤ (timedOut .quiet .idle).dormancyTimer ∧ (fed .quiet).dormancyTimer < 60000 ∧
      (withString running (timedOut .quiet .idle)).anyHot 0 = false ∧ (timedOut .quiet .idle).attentionLow = false ∧
      (timedOut .dormant .idle).due = [] ∧ 1 ≤ (timedOut .dormant .idle).ceiling ∧
      ({ timedOut .active (.broadcast .pause 0) with due := [.go] } : StringCtl).due = .go :: [] ∧
      (timedOut .test (.broadcast (.test 1) 0)).sweep = none := by decide +kernel

theorem test_premises_FeedFaultsTakeTheStringDown :
    ((withString lit (fed .active)).Intact ∧ (withString lit (fed .active)).Shape) ∧
      ((withString running (fed .off)).Intact ∧ (withString running (fed .off)).Shape) ∧ (running.Intact ∧ running.Shape) ∧
      ((withString lit (fed .active)).stringAt (0 : Fin 4)).feed = true ∧
      ((withString lit (fed .active)).stringAt (0 : Fin 4)).mode ≠ .off ∧
      ((withString running (fed .off)).stringAt (0 : Fin 4)).mode = .off ∧
      (running.stringAt (0 : Fin 4)).feed = false :=
  ⟨good (by decide +kernel), good (by decide +kernel), good (by decide +kernel), by decide +kernel⟩

theorem test_premises_PickAndContextTimersRunOut :
    late.Intact ∧ lingering.Intact ∧ pinned.Intact ∧ late.lrc.run = .running ∧
      late.pickAt 0 = some { onePick 7 .placed with abandon := some 0 } ∧ 0 < late.jw.spare ∧ noSpare.jw.spare = 0 ∧
      lingering.contextAt 0 = some { oneContext with claims := [{ oneClaim with linger := some 0 }] } ∧
      ({ oneContext with claims := [{ oneClaim with linger := some 0 }] } : Context).claim 0 =
        some { oneClaim with linger := some 0 } ∧
      pinned.contextAt 0 = some { oneContext with pin := some { serial := 0, count := 9, timer := 0 } } ∧
      halted.lrc.run ≠ .running :=
  ⟨(good (by decide +kernel)).1, (good (by decide +kernel)).1, (good (by decide +kernel)).1, by decide +kernel⟩

/-- A part with an advisory to write. -/
def advising (written : Nat) : State :=
  { running with jw := { Journal.empty with report := [.advisory (running.fenceRecord (fenceAt 1))], written := written } }

theorem test_premises_JournalWritesTheOldestItem :
    reporting.Intact ∧ (advising 7).Intact ∧ reporting.inRun = true ∧ reporting.lrc.setup = some small ∧
      reporting.lrc.base = some 0x1000 ∧ (reporting.jw.sealed - reporting.jw.released).toNat < small.blocks ∧
      reporting.jw.report = .pick 0 :: [] ∧ reporting.pickAt 0 = some (onePick 7 (.reporting oneOutcome)) ∧
      (advising 7).jw.report = .advisory (running.fenceRecord (fenceAt 1)) :: [] ∧ (advising 7).jw.written + 1 = small.records ∧
      ¬((judging false).jw.sealed - (judging false).jw.released).toNat < small.blocks ∧ running.jw.report = [] :=
  ⟨(good (by decide +kernel)).1, (good (by decide +kernel)).1, by decide +kernel⟩

theorem test_premises_SealTimeoutSealsTheBlock :
    sealing.inRun = true ∧ sealing.lrc.setup = some small ∧ sealing.lrc.base = some 0x1000 ∧ sealing.jw.sealTimer = some 0 ∧
      small.threshold ≤ (sealing.jw.sealed + 1 - sealing.jw.released).toNat ∧
      (sealing.jw.sealed + 1 - sealing.jw.released).toNat < { small with threshold := 2 }.threshold ∧
      reporting.jw.sealTimer ≠ some 0 := by decide +kernel

/-- The largest reply: four events. -/
def fourEvents : List PressEvent := List.replicate 4 { sequence := 15, button := .plus, face := 2, generation := 15 }

theorem test_premises_LayoutsStandByteForByte :
    255 < 256 ∧ 15 < 16 ∧ fourEvents.length ≤ 4 ∧ (∀ e ∈ fourEvents, e.sequence < 16 ∧ e.face < 3 ∧ e.generation < 16) ∧
      (decodeReply 1 confirmReply).isSome = true := by decide +kernel

theorem test_premises_ApportioningDividesTheConfirmedCount :
    (List.replicate 8 124) ≠ [] ∧ (List.replicate 8 124).length ≤ 8 ∧ 999 ≤ 999 ∧ (List.replicate 8 124).sum ≤ 999 ∧
      0 ≤ (List.replicate 8 124).sum ∧ 0 + 1 < (List.replicate 8 124).length ∧ 0 < (apportion 999 (List.replicate 8 124)).getD 7 0 := by
  decide +kernel

theorem test_premises_ConfirmationClosesTheBundle :
    (paired.Intact ∧ paired.Shape) ∧ ([0, 1] : List Nat).Nodup ∧
      paired.pickAt 0 = some { onePick 7 .placed with requested := 500 } ∧
      paired.pickAt 1 = some { onePick 8 .placed with requested := 499 } :=
  ⟨good (by decide +kernel), by decide +kernel⟩

theorem test_premises_AdjustPressesMoveTheCountWithinItsCeiling :
    oneContext.pin = none ∧ (oneContext.pin.map Pin.count).getD oneClaim.sum ≤ min 999 (oneClaim.sum + oneContext.atlas.limit) ∧
      (∀ count ∈ [0, 19], (({ oneContext with pin := some { serial := 0, count := count, timer := 1 } } : Context).pin.map
        Pin.count).getD oneClaim.sum ≤ min 999 (oneClaim.sum + oneContext.atlas.limit)) ∧ oneClaim.serial = 0 ∧
      (let c : Context := { oneContext with
        pin := some { serial := 0, count := 0, timer := 1 }
        desired := { generation := 1, faces := [{ oneFace with quantity := 0, adjust := true }], paused := false, pinned := some 0 } }
       c.rebuild openLane false = c) := by decide +kernel

theorem test_premises_RebuiltSetsTakeAFreshGeneration :
    oneContext.generation < 16 ∧ ({ oneContext with generation := 15 } : Context).generation < 16 ∧
      oneContext.facesNow openLane = oneContext.desired.faces ∧ oneContext.pinnedIndex = oneContext.desired.pinned ∧
      oneContext.desired.paused ≠ true ∧ oneContext.displayed.generation ≠ 1 % 15 + 1 ∧
      (let c : Context := { oneContext with generation := 15 }; c.displayed.generation = c.generation % 15 + 1) := by
  decide +kernel

theorem test_premises_RebuiltSetsTakeAFreshGeneration_law : oneContext.GenerationLaw := by
  refine ⟨by simp [oneContext], by decide +kernel, by simp [oneContext], by decide +kernel⟩

/-- Six claims of lane 1, none with room. -/
def sixClaims : List Claim := (List.range 6).map fun n => { oneClaim with serial := n, face := none, sum := 999 }

theorem test_premises_PicksJoinOrOpenClaims :
    oneContext.claims.length ≤ 6 ∧ (oneContext.claims.map Claim.serial).Nodup ∧ oneContext.displayed.faces.length ≤ 3 ∧
      oneContext.pending = none ∧ (oneContext.claims.filter fun k => k.lane == 1).getLast? = some oneClaim ∧
      oneClaim.bundle.length < 8 ∧ oneClaim.sum + (onePick 8 .placed).requested ≤ 999 ∧ sixClaims.length = 6 ∧
      (sixClaims.map Claim.serial).Nodup ∧ (sixClaims.filter fun k => k.lane == 1).getLast?.map Claim.sum = some 999 ∧
      (oneContext.claims.filter fun k => k.lane == 2).getLast? = none := by decide +kernel

/-- A press of face 0 of a set. -/
def press (generation face : Nat) : PressEvent := { sequence := 0, button := .confirm, face := face, generation := generation }

theorem test_premises_PressesAreMatchedOrStray :
    running.contextOfModule 0 1 = none ∧ lit.contextOfModule 0 1 = some 0 ∧ lit.contextAt 0 = some oneContext ∧
      (press 2 0).generation ≠ oneContext.displayed.generation ∧ oneContext.pending = none ∧
      oneContext.displayed.generation = (press 1 0).generation ∧ oneContext.displayed.faceAt (press 1 2).face = none ∧
      oneContext.displayed.faceAt (press 1 0).face = some oneFace ∧ oneContext.claim oneFace.serial = some oneClaim ∧
      ({ oneContext with claims := [] } : Context).claim oneFace.serial = none ∧ running.lrc.setup = some small ∧
      small.stray = true ∧ ({ small with stray := false } : Setup).stray = false ∧ noSpare.jw.spare = 0 ∧ 0 < running.jw.spare ∧
      running.matchPress 0 1 (press 1 0) = .stray .cold 1024 := by decide +kernel

/-- A part whose entries 0 to 3 fail their check: placed, reporting, deferred and FREE. -/
def damaged : State :=
  let bad : List PickEntry := [onePick 7 .placed, onePick 8 (.reporting oneOutcome), onePick 9 (.deferred firstModule)].map
    fun p => { parity := false, pick := some p }
  light { running with
    pm := { running.pm with
      entries := bad ++ { parity := false, pick := none } :: running.pm.entries.drop 4, free := 253, deferred := [2] }
    jw := { Journal.empty with report := [.pick 1] } } oneContext

theorem test_premises_DamagedEntriesAreHandledByTheirHolder :
    (∀ i < 4, damaged.pickIntact i = false) ∧ damaged.pickAt 0 = some (onePick 7 .placed) ∧
      damaged.holder 0 = some (0, oneClaim) ∧ damaged.pm.deferred.contains 0 = false ∧
      damaged.jw.report.contains (.pick 0) = false ∧ damaged.pickAt 1 = some (onePick 8 (.reporting oneOutcome)) ∧
      damaged.jw.report.contains (.pick 1) = true ∧ damaged.pm.deferred.contains 2 = true ∧ damaged.tiu.capture.frozen = false ∧
      (∀ j ∈ damaged.pm.deferred, j = 2) ∧ 3 < damaged.pm.entries.length ∧ damaged.holder 3 = none ∧
      damaged.jw.report.contains (.pick 3) = false ∧ 95 < damaged.contexts.length ∧ lit.contextAt 95 = none ∧
      lit.contextAt 0 = some oneContext ∧ (∀ e ∈ lit.pm.entries, e.parity = true) ∧ lit.pickAt 0 = some (onePick 7 .placed) := by
  decide +kernel

theorem test_premises_StringEventsAndTimersLeaveTheIntakeAlone :
    ∀ c ∈ [Instr.moduleReply 0 confirmReply, .exchangeMiss 1, .broadcastEnd 2, .settlingEnd 3, .lightTestEnd 0, .quietPeriod 0,
      .dormancyTimeout 0, .attentionWake 0 true, .feedFault 0 true, .abandonTimeout 255, .lingerExpiry 95 255, .pinTimeout 95],
      shows (exec c (withString lit (heard .active))) (fun _ => true) := by decide +kernel

theorem test_premises_StepsKeepSizesLanesAndTheLostCount :
    lit.Shape ∧ (opened lit).LaneLaw ∧ ({ lit with jw := { lit.jw with lost := 255 } } : State).LostLaw ∧
      step lit = .next lit.tick :=
  ⟨(good (by decide +kernel)).2, by simp only [State.LaneLaw]; decide +kernel, by simp only [State.LostLaw]; decide, rfl⟩

/-- An open block one record short of full, the last block free. -/
def nearlySealed : State := { sealing with jw := { sealing.jw with written := 7, sealed := 1 } }

theorem test_premises_StepsKeepTheJournalLaw : nearlySealed.JournalLaw :=
  have h : 1 ≤ small.blocks ∧ small.blocks ≤ 64 ∧ nearlySealed.jw.unreleased ≤ small.blocks ∧
      nearlySealed.jw.written < small.records ∧ (0 < nearlySealed.jw.written → nearlySealed.jw.unreleased < small.blocks) := by
    decide +kernel
  ⟨by decide +kernel, h⟩

/-- A fetch of eight records under way, the stream full. -/
def fetchingAll : State := { reading with iu := { reading.iu with posted := 64, fetched := 8 } }

theorem test_premises_StepsKeepTheIntakeLaw : fetchingAll.IntakeLaw :=
  have h : 1 ≤ small.capacity ∧ small.capacity ≤ 4096 ∧ (fetchingAll.iu.posted - fetchingAll.iu.taken).toNat ≤ small.capacity ∧
      fetchingAll.iu.queue.length + fetchingAll.iu.fetch.inFlight ≤ (fetchingAll.iu.posted - fetchingAll.iu.taken).toNat := by
    decide +kernel
  ⟨by decide +kernel, by decide +kernel, h⟩

theorem test_premises_CommandsKeepTheGenerationLaw : lit.GenerationLaw ∧ shows (exec .halt lit) (fun _ => true) := by
  refine ⟨fun e h c hc => ?_, by decide +kernel⟩
  simp only [lit, light, List.mem_cons] at h
  rcases h with rfl | h
  · cases hc; exact test_premises_RebuiltSetsTakeAFreshGeneration_law
  · have : ∀ e ∈ (hold running [onePick 7 .placed]).contexts.drop 1, e.context = none := by decide +kernel
    rw [this e h] at hc; cases hc


/-! ### States that meet the premises of the clauses added since -/

theorem test_premises_AcceptedStartBringsTheStringsUp_fields_ends :
    fieldAt (fullBlock 0 4) 8 2 < 1 ∧ fieldAt (fullBlock 0 4) 0x0C 2 < 5 ∧
      (setupCopy (fullBlock 5 251)).blocks < fieldAt (fullBlock 5 251) 8 2 ∧ 250 < fieldAt (fullBlock 5 251) 0x0C 2 ∧
      fieldAt (fullBlock 1 5) 0x0E 2 < 1 ∧ fieldAt (fullBlock 1 5) 0x10 2 < 20 ∧ fieldAt (fullBlock 1 5) 0x12 1 < 3 ∧
      fieldAt (fullBlock 1 5) 0x14 2 / 100 * 100 < 200 ∧ (setupCopy (fullBlock 0 4)).threshold = 1 ∧
      (setupCopy (fullBlock 5 251)).threshold = 4 ∧ (setupCopy (fullBlock 5 251)).sealDelay = 250 ∧
      (startingStrings.stringAt 1).feed = true := by decide +kernel

theorem test_premises_AcceptedStartBringsTheStringsUp_lit :
    (withString starting { fed .quiet with line := .exchange 1 .poll false 1 }).strings.length = 4 ∧
      ((withString starting { fed .quiet with line := .exchange 1 .poll false 1 }).stringAt 0).feed = true ∧
      ((withString starting { fed .quiet with line := .exchange 1 .poll false 1 }).stringAt 0).abandoned.line = .idle ∧
      ((withString starting { fed .quiet with line := .broadcast .go 1 }).stringAt 0).abandoned.line ≠ .idle := by decide +kernel

theorem test_premises_CommandsKeepTheTableLaws : lit.ModuleLaw ∧ shows (exec .halt lit) (fun _ => true) := by
  simp only [State.ModuleLaw]; decide +kernel

theorem test_premises_CommandsKeepTheTableLaws_picks : lit.PickLaw := by
  have none_ (i : Nat) (h : 1 ≤ i) : lit.pickAt i = none := by
    by_cases hi : i < 256
    · have : ∀ i < 256, 1 ≤ i → lit.pickAt i = none := by decide +kernel
      exact this i hi h
    · have : lit.pm.entries.length ≤ i := by
        have : lit.pm.entries.length = 256 := by decide +kernel
        omega
      simp [State.pickAt, List.getElem?_eq_none this]
  have zero : lit.pickAt 0 = some (onePick 7 .placed) := by decide +kernel
  have bundled : lit.bundledPicks = [0] := by decide +kernel
  have deferred : lit.pm.deferred = [] := rfl
  have reported : lit.reportedPicks = [] := rfl
  have only (p : Pick) (i : Nat) (h : lit.pickAt i = some p) : i = 0 ∧ p = onePick 7 .placed := by
    rcases Nat.eq_zero_or_pos i with rfl | hi
    · rw [zero] at h; exact ⟨rfl, (Option.some.inj h).symm⟩
    · rw [none_ i hi] at h; cases h
  refine ⟨by rw [bundled, deferred, reported]; decide, fun i => ⟨⟨by simp [deferred], ?_⟩, ⟨by simp [reported], ?_⟩, ?_, ?_⟩,
    by decide +kernel, by decide +kernel, by decide +kernel, fun e he c hc => ?_⟩
  · rintro ⟨p, atlas, h, hs⟩
    obtain ⟨-, rfl⟩ := only p i h
    cases hs
  · rintro ⟨p, o, h, hs⟩
    obtain ⟨-, rfl⟩ := only p i h
    cases hs
  · intro h
    rw [bundled] at h
    obtain rfl := List.mem_singleton.1 h
    exact ⟨_, zero, rfl⟩
  · rintro ⟨p, h, -⟩
    rw [bundled, (only p i h).1]
    exact List.mem_singleton.2 rfl
  · simp only [lit, light, List.mem_cons] at he
    rcases he with rfl | he
    · cases hc
      exact ⟨by decide +kernel, by decide +kernel, by decide +kernel, by decide +kernel, by decide +kernel, by decide +kernel,
        by simp [oneContext]⟩
    · have : ∀ e ∈ (hold running [onePick 7 .placed]).contexts.drop 1, e.context = none := by decide +kernel
      rw [this e he] at hc; cases hc

theorem test_premises_HaltPausesTheRun_broadcasts :
    ((withString lit (fed .active)).stringAt 0).mode = .active ∧ ((withString lit (fed .active)).stringAt 0).line = .idle ∧
      ((withString lit (heard .active)).stringAt 0).line ≠ .idle ∧ ((withString lit (fed .test)).stringAt 0).mode = .test := by
  decide +kernel

/-- A HALTED part whose record fetch is held, one record posted. -/
def heldFetch : State := { halted with iu := { Intake.empty with posted := 1, fetch := .held 1 } }

theorem test_premises_ResumeRunsAgain_fetch :
    heldFetch.Intact ∧ heldFetch.lrc.run = .halted ∧ heldFetch.lrc.setup = some small ∧ heldFetch.iu.queue.length < 8 ∧
      heldFetch.iu.posted ≠ heldFetch.iu.fetched ∧ halted.iu.posted = halted.iu.fetched ∧
      (fetching .halted).iu.fetch = .underWay 1 0 :=
  ⟨(good (by decide +kernel)).1, by decide +kernel⟩

theorem test_premises_ClearAndResets_broadcasts :
    (withString halted (fed .test)).lrc.run = .halted ∧ ((withString halted (fed .test)).stringAt 0).mode = .test ∧
      ((withString halted (fed .active)).stringAt 0).mode = .active ∧ ((withString halted (fed .settling)).stringAt 0).feed = true ∧
      ((withString halted (fed .settling)).stringAt 0).mode = .settling ∧
      ({ ((withString halted (heard .active)).stringAt 0).abandoned with due := [] } : StringCtl).line = .idle ∧
      ((withString halted { fed .active with line := .broadcast .pause 1 }).stringAt 0).abandoned.line ≠ .idle := by decide +kernel

/-- The worked sequence of 07 with fetch F1 under way: records 126 and 127, two QUALIFIERs. -/
def workedFetch : State :=
  { running with iu := { Intake.empty with taken := 126, posted := 132, fetched := 128, fetch := .underWay 2 0 } }

/-- Records 126 and 127 of the worked sequence. -/
def workedData : List Byte := [2, 0, 1] ++ List.replicate 29 0 ++ [2, 7, 3] ++ List.replicate 29 0

theorem test_worked_fetch : shows (exec (.recordFetchArrival workedData) workedFetch) fun t =>
    t.iu.fetch == .idle && t.iu.queue.length == 2 &&
      shows (exec .qualifier t) fun u => u.iu.taken == 127 && u.iu.fetch == .underWay 4 0 && u.iu.fetched == 132 := by
  decide +kernel

/-- A part that awaits a QUALIFIER while another record is posted behind it. -/
def loneQualifier : State := { fetching .running with iu := { (fetching .running).iu with posted := 2 } }

theorem test_premises_RecordsAreFetchedIntoTheQueue_heads :
    (loneQualifier.Intact ∧ loneQualifier.Shape) ∧ (workedFetch.Intact ∧ workedFetch.Shape) ∧
      shows (exec (.recordFetchArrival ([2] ++ List.replicate 31 0)) loneQualifier) (fun t =>
        t.iu.queue.length == 1 && (t.iu.queue.head?.map TaskRecord.task) == some .qualifier && t.iu.fetch == .underWay 1 0) ∧
      shows (exec (.recordFetchArrival ([7] ++ List.replicate 31 0))
        { loneQualifier with pm := { loneQualifier.pm with fences := List.replicate 4 (fenceAt 0) } }) (fun t =>
          (t.iu.queue.head?.map TaskRecord.task) == some .fence && t.iu.fetch == .underWay 1 0) ∧
      shows (exec (.recordFetchArrival ([3] ++ List.replicate 31 0)) loneQualifier) (fun t =>
        (t.iu.queue.head?.map TaskRecord.task) == some .cancel && t.iu.fetch == .idle) ∧
      loneQualifier.iu.posted ≠ loneQualifier.iu.fetched ∧ (∀ i < 256, full.pickAt i ≠ none) :=
  ⟨good (by decide +kernel), good (by decide +kernel), by decide +kernel⟩

/-- A part whose demand fetch arrives after the head's slot has gained a context. -/
def gained : State := light { demanding with pm := { lit.pm with lanes := openLane } } oneContext

theorem test_premises_AtlasFetchesBringTheFields_gained :
    (gained.Intact ∧ gained.Shape) ∧ gained.HeadIs pickTask .pick ∧ gained.needsFields 5 = false ∧
      gained.ac.demand = .underWay pickTask.slot.toNat 0 ∧ gained.wayOf 5 = none ∧ gained.iu.onLookahead = false :=
  ⟨good (by decide +kernel), ⟨rfl, rfl, rfl⟩, by decide +kernel⟩

/-- The lit part whose claim has two picks, and none deferred. -/
def twin : State :=
  { paired with pm := { paired.pm with
    entries := paired.pm.entries.set 2 { parity := true, pick := none }, deferred := [], free := 254 } }

theorem test_premises_CancelTakesThePickItFinds_context :
    sound (ask lit [cancelTask 7]) = true ∧ lit.pm.deferred = [] ∧ lit.holder 0 = some (0, oneClaim) ∧
      (oneClaim.bundle.filter fun j => j != 0) = [] ∧
      lit.freeable (oneContext.removeClaim lit.pm.lanes lit.paused 0) = false ∧
      (light lit { oneContext with displayed := FaceSet.nothing }).freeable
        ({ oneContext with displayed := FaceSet.nothing }.removeClaim lit.pm.lanes lit.paused 0) = true ∧
      sound (ask twin [cancelTask 7]) = true ∧ twin.pm.deferred = [] ∧
      (twin.holder 0).map (fun h => h.2.bundle.filter fun j => j != 0) = some [1] := by decide +kernel

theorem test_premises_FencesAreReachedInOrder_judged :
    (∀ e ∈ (fencing [fenceAt 1] 2).pm.entries, e.parity = true) ∧ (fencing [fenceAt 1] 2).pm.fences ≠ [] := by decide +kernel

/-- String 0 with an idle line and nothing due, in ACTIVE or QUIET, at a place of its round, its darkening as given. -/
def turning (mode : Mode) (place : Nat) (dark : Bool) : StringCtl :=
  { fed mode with
    roundPosition := place, turnDue := true
    modules := List.replicate 120 { ModuleLink.fresh with darkeningDue := dark } }

/-- The lit part with a desired set that is due. -/
def dueSet : State := light lit { oneContext with desired := { oneContext.desired with generation := 2 } }

theorem test_premises_StringTimesEndAsTheModesSay_turns :
    (∀ x ∈ [turning .active 0 false, turning .active 0 true, turning .active 1 false, turning .quiet 0 true],
      x.line = .idle ∧ x.due = [] ∧ x.sweep = none ∧ x.dormancyDue = false) ∧
      (withString lit (turning .active 0 true)).anyHot 0 = true ∧ (withString lit (turning .active 0 true)).hot 0 1 = true ∧
      (withString lit (turning .active 0 true)).contextOfModule 0 1 = some 0 ∧
      (withString running (turning .quiet 0 true)).anyHot 0 = false ∧
      dueSet.contextAt 0 = some { oneContext with desired := { oneContext.desired with generation := 2 } } ∧
      ((withString lit (turning .active 0 true)).link 0 1).darkeningDue = true ∧
      (withString lit (turning .active 1 false)).nextHot 0 1 = none ∧
      (withString lit (turning .active 1 false)).nextCold 0 = some 2 ∧
      (withString running (turning .quiet 0 true)).nextCold 0 = some 1 := by decide +kernel

theorem test_premises_StringTimesEndAsTheModesSay_next :
    (withString lit (turning .active 0 true)).NextHot 0 0 1 ∧ (withString lit (turning .active 1 false)).NextCold 0 2 ∧
      (withString running (turning .quiet 0 true)).NextCold 0 1 := by
  refine ⟨⟨by decide, by decide +kernel, fun b h1 h2 => by omega⟩,
    ⟨by decide, by decide +kernel, by decide +kernel, .inl ⟨by decide +kernel, fun b h1 h2 => ?_⟩⟩,
    ⟨by decide, by decide +kernel, by decide +kernel, .inl ⟨by decide +kernel, fun b h1 h2 => ?_⟩⟩⟩
  · have h1 : 0 < b := h1
    obtain rfl : b = 1 := by omega
    decide +kernel
  · have h1 : 0 < b := h1
    omega

theorem test_turns :
    ((((withString dueSet (turning .active 0 false)).runLine 0).stringAt 0).line == .exchange 1 .faces false 2 &&
      ((((withString lit (turning .active 0 true)).runLine 0).stringAt 0).line == .exchange 1 .dark false 2) &&
      ((((withString lit (turning .active 0 false)).runLine 0).stringAt 0).line == .exchange 1 .poll false 1) &&
      ((((withString lit (turning .active 1 false)).runLine 0).stringAt 0).line == .exchange 2 .poll false 1) &&
      ((((withString running (turning .quiet 0 true)).runLine 0).stringAt 0).line == .exchange 1 .dark false 2)) = true := by
  decide +kernel

/-- String 1, whose ceiling is 1, with its one address hot and its round at it. -/
def allHot : State :=
  light { lit with strings := lit.strings.set 1 { turning .active 1 false with items := some (small.items 1) } }
    { oneContext with atlas := { firstModule with string := 1 } }

theorem test_premises_StringTimesEndAsTheModesSay_all_hot :
    (∀ b, 1 ≤ b → b ≤ (allHot.stringAt 1).ceiling → allHot.hot 1 b = true) ∧ allHot.NextHot 1 0 1 := by
  refine ⟨fun b h1 h2 => ?_, by decide, by decide +kernel, fun b h1 h2 => by omega⟩
  have h2 : b ≤ 1 := h2
  obtain rfl : b = 1 := by omega
  decide +kernel

theorem test_premises_FeedFaultsTakeTheStringDown_flight :
    ((withString lit { fed .active with line := .exchange 1 .faces false 1 }).stringAt (0 : Fin 4)).line = .exchange 1 .faces false 1 ∧
      lit.contextOfModule 0 1 = some 0 ∧ lit.contextAt 0 = some oneContext ∧ oneContext.claims ≠ [] ∧
      ({ oneContext with claims := [], displayed := FaceSet.nothing } : Context).displayed.faces = [] ∧ lit.pm.deferred = [] := by
  decide +kernel

theorem test_premises_PickAndContextTimersRunOut_law : oneContext.ClaimLaw ∧
    Context.ClaimLaw { oneContext with claims := [{ oneClaim with linger := some 0 }] } ∧
    Context.ClaimLaw { oneContext with pin := some { serial := 0, count := 9, timer := 0 } } := by
  refine ⟨?_, ?_, ?_⟩ <;>
    exact ⟨by decide +kernel, by decide +kernel, by decide +kernel, by decide +kernel, by decide +kernel, by decide +kernel,
      by simp [oneContext]⟩

theorem test_premises_PickAndContextTimersRunOut_no_timer :
    (onePick 7 .placed).abandon ≠ some 0 ∧ (onePick 7 .placed).overdueReported = false ∧
      (∀ o, (onePick 7 .placed).stage ≠ .reporting o) ∧ (onePick 8 (.reporting oneOutcome)).stage = .reporting oneOutcome ∧
      noSpare.lrc.run = .running ∧ oneClaim.face = some 0 :=
  ⟨by decide, rfl, by rintro o ⟨⟩, rfl, rfl, rfl⟩

theorem test_premises_ConfirmationClosesTheBundle_context :
    (oneContext.claims.map Claim.serial).Nodup ∧ twin.pm.deferred = [] ∧ (twin.Intact ∧ twin.Shape) ∧
      (∀ i ∈ [0, 1], (twin.pickAt i).map Pick.stage = some .placed) ∧ twin.contextAt 0 = paired.contextAt 0 ∧
      lit.contextAt 0 = some oneContext :=
  ⟨by decide, rfl, good (by decide +kernel), by decide +kernel, rfl, rfl⟩

/-- A crowded part: every context entry but the last holds a context of a slot from 200 on, on string 1; entry 0 is the lit one; and
three picks are deferred: of slot 5, of slot 6 on module 2 of string 0, and of slot 7 on the lit module. -/
def crowd (free : Bool) : State :=
  let other (n : Nat) : ContextEntry :=
    { parity := true, context := some { oneContext with slot := 200 + n, atlas := { firstModule with string := 1, address := n } } }
  let picks := [onePick 7 .placed, onePick 8 (.deferred firstModule),
    { onePick 9 (.deferred { firstModule with address := 2 }) with slot := 6 }, { onePick 10 (.deferred firstModule) with slot := 7 }]
  let s := light (hold running picks) oneContext
  { s with
    pm := { s.pm with deferred := [1, 2, 3] }
    contexts := s.contexts.take 1 ++ (List.range 94).map other ++
      [if free then { parity := true, context := none } else other 94] }

theorem test_premises_PicksJoinOrOpenClaims_visits :
    (crowd true).contextOfSlot 5 = some 0 ∧ (crowd true).contextOfSlot 6 = none ∧ (crowd true).contextOfSlot 7 = none ∧
      (crowd true).contextAt 95 = none ∧ (∀ cj < 95, (crowd true).contextAt cj ≠ none) ∧
      (∀ ci < (crowd false).contexts.length, (crowd false).contextAt ci ≠ none) ∧
      (crowd true).contextOfModule 0 2 = none ∧ (crowd true).contextOfModule 0 1 = some 0 := by decide +kernel

theorem test_premises_PicksJoinOrOpenClaims_intact :
    sound (crowd true) = true ∧ sound (crowd false) = true ∧
      (crowd true).pickAt 3 = some { onePick 10 (.deferred firstModule) with slot := 7 } := by decide +kernel

theorem test_visits :
    (((crowd true).visitDeferred 1).pm.deferred == [2, 3] && ((crowd true).visitDeferred 2).pm.deferred == [1, 3] &&
      ((crowd false).visitDeferred 2).pm.deferred == [1, 2, 3] && ((crowd true).visitDeferred 3).jw.report == [.pick 3]) = true := by
  decide +kernel

/-- The lit part with a pin on its claim, or on another one. -/
def pinning (serial : Nat) : State := light lit { oneContext with pin := some { serial := serial, count := 3, timer := 9 } }

theorem test_premises_PressesAreMatchedOrStray_effects :
    lit.matchPress 0 1 (press 1 0) = .claim 0 oneClaim 10 ∧ (pinning 0).matchPress 0 1 (press 1 0) = .claim 0 oneClaim 10 ∧
      (pinning 1).matchPress 0 1 { press 1 0 with button := .plus } = .claim 0 oneClaim 10 ∧
      (∀ e ∈ lit.pm.entries, e.parity = true) ∧ (judgeEvents true none [press 1 0]).1 = [press 1 0] ∧
      (judgeEvents false (some 15) [press 1 0, press 1 1]).1 = [press 1 0] ∧
      (withString lit (heard .active)).matchPress 0 1 (press 1 0) = .claim 0 oneClaim 10 ∧
      (decodeReply 1 confirmReply).map Reply.events = some [press 1 0] ∧ oneClaim.bundle.Nodup ∧
      (withString lit (heard .active)).inRun = true := by decide +kernel

theorem test_premises_DamagedEntriesAreHandledByTheirHolder_context :
    0 < lit.contexts.length ∧ (∀ cj, cj ≠ 0 → ∀ x, lit.contextAt cj = some x → x.slot ≠ (onePick 7 .placed).slot) ∧
      (onePick 7 .placed).stage = .placed := by
  refine ⟨by decide +kernel, fun cj h x hx => ?_, rfl⟩
  exfalso
  by_cases hi : cj < 96
  · have : ∀ cj < 96, cj ≠ 0 → lit.contextAt cj = none := by decide +kernel
    rw [this cj hi h] at hx; cases hx
  · have : lit.contexts.length ≤ cj := by
      have : lit.contexts.length = 96 := by decide +kernel
      omega
    simp [State.contextAt, List.getElem?_eq_none this] at hx

/-! ### The sweep, surveys and replies, and damage, clause by clause -/

theorem test_premises_IdleStepIsOneMillisecond_sweeping :
    State.reset.pending = [] ∧ State.reset.lrc.run = .sweeping ∧ State.reset.tiu.sweepPosition = 0 ∧
      running.pending = [] ∧ running.lrc.run ≠ .sweeping := by decide +kernel

theorem test_sweep_places :
    let t := State.reset.sweep 255 353
    (!t.pickIntact 254 && t.pickIntact 255 && t.contextIntact 0 && t.contextIntact 95 && (t.wayAt 0).parity &&
      !(t.wayAt 1).parity) = true := by decide +kernel

/-- A START read's block with the journal in LATCH mode, or in LEVEL. -/
def journalBlock (latch : Byte) : List Byte :=
  bytesLE 2 64 ++ bytesLE 2 2 ++ bytesLE 2 8 ++ bytesLE 2 100 ++ [1, 0, latch, 0] ++ List.replicate 52 0

/-- The starting part with JOURNAL raised by the run before. -/
def noticed : State := { starting with lrc := { starting.lrc with notice := Notice.journal.bit } }

theorem test_premises_StartChecksDecideTheStart_journal :
    (∀ e ∈ noticed.contexts, e.context = none) ∧ noticed.lrc.notice.getLsbD 0 = true ∧
      (setupCopy (journalBlock 1)).latch = true ∧ (setupCopy (journalBlock 0)).latch = false ∧
      (journalBlock 1).length = 64 ∧ startVerdict (hostLine 0 0) (journalBlock 1) = .accepted ∧
      startVerdict (hostLine 0 0) (journalBlock 0) = .accepted := by decide +kernel

theorem test_start_judges_journal :
    (∀ latch ∈ [0, 1], shows (exec (.startReadArrival (hostLine 0 0) (journalBlock latch)) noticed) fun t =>
      t.lrc.notice.getLsbD 0 == (latch == 1) && t.jw.report == [] && t.jw.spare == 16) := by decide +kernel

theorem test_premises_FailedReadsAreHeldAndHaltThePart_halts :
    reading.lrc.run = .running ∧ (polling .halted).lrc.run ≠ .running ∧ (polling .halted).Intact ∧
      (polling .halted).iu.poll = .underWay 0 50 :=
  ⟨rfl, by decide, (good (by decide +kernel)).1, rfl⟩

theorem test_link_fault_halts : shows (exec (.linkReadError .headerPoll) { lit with iu := (polling .running).iu }) fun t =>
    t.lrc.run == .halted && ((t.contextAt 0).map fun c => c.desired.paused) == some true := by decide +kernel

/-- String 0 waiting for the answer of address 1 with this presence and this sweep. -/
def hearing (mode : Mode) (presence : Presence) (sweep : Option Sweep) : StringCtl :=
  { fed mode with
    line := .exchange 1 .poll sweep.isSome 0, sweep := sweep
    modules := { ModuleLink.fresh with presence := presence, bootNoted := true } :: List.replicate 119 ModuleLink.fresh }

/-- A reply of address 1 with these flags and no press. -/
def flagged (flags : Byte) : List Byte := frameBytes [1, 0x80, flags, 0]

/-- The lit part with nothing displayed. -/
def darkened : State := light lit { oneContext with displayed := FaceSet.nothing }

theorem test_premises_RepliesUpdateTheModule_advisories :
    sound (withString lit (hearing .active .lost none)) = true ∧ sound (withString running (hearing .quiet .lost none)) = true ∧
      sound (withString darkened (hearing .active .present none)) = true ∧
      sound (withString unset (hearing .quiet .lost none)) = true ∧ unset.inRun = false ∧
      (decodeReply 1 (flagged 0x21)).map Reply.overflow = some true ∧
      (decodeReply 1 (flagged 0x33)).map Reply.fresh = some true ∧ (judgeEvents false (some 3) []).1 = [] ∧
      (withString lit (hearing .active .lost none)).inRun = true ∧
      2 ≤ (withString lit (hearing .active .lost none)).jw.spare ∧
      (withString darkened (hearing .active .present none)).contextOfModule 0 1 = some 0 := by decide +kernel

theorem test_premises_RepliesUpdateTheModule_draining :
    (∀ c ∈ [({ oneContext with claims := [] } : Context), { oneContext with claims := [], displayed := FaceSet.nothing }],
      sound (withString (light lit c) (hearing .active .present none)) = true ∧
        (withString (light lit c) (hearing .active .present none)).contextOfModule 0 1 = some 0 ∧ c.pending = none) ∧
      oneContext.displayed.faces ≠ [] ∧ FaceSet.nothing.faces = [] ∧ lit.pm.deferred = [] := by decide +kernel

theorem test_module_back : shows (exec (.moduleReply 0 (flagged 0x21)) (withString lit (hearing .active .lost none))) fun t =>
    t.jw.report == [.advisory { lit.advisory .moduleBack .returned 5 0x1 with tag := locator 0 1 0 0 0 0 },
      .advisory { lit.advisory .pressOverflow .none 5 0x1 with tag := locator 0 1 0 0 0 0 }] := by decide +kernel

theorem test_module_back_reboot :
    shows (exec (.moduleReply 0 (flagged 0x10)) (withString lit { hearing .active .present none with
      modules := { ModuleLink.fresh with presence := .present } :: List.replicate 119 ModuleLink.fresh })) fun t =>
    t.jw.report.map (fun x => match x with | .advisory r => some (r.kind, r.cause) | _ => none) ==
      [some (.moduleBack, .reboot)] := by decide +kernel

theorem test_hot_darkening :
    shows (exec (.moduleReply 0 (flagged 0x03)) (withString darkened (hearing .active .present none))) fun t =>
      (t.link 0 1).darkeningDue := by decide +kernel

/-- A survey or attention sweep at address 1. -/
def atFirst (tries : Nat) (dark : Bool) : Sweep := { address := 1, tries := tries, dark := dark, lampsGood := 4 }

theorem test_premises_RepliesUpdateTheModule_sweep :
    sound (withString running (hearing .surveying .unknown (some (atFirst 0 false)))) = true ∧
      sound (withString running (hearing .quiet .unknown (some (atFirst 0 false)))) = true ∧
      (hearing .quiet .unknown (some (atFirst 0 false))).dormancyDue = false ∧
      (atFirst 0 false).address + 1 ≤ (hearing .surveying .unknown (some (atFirst 0 false))).ceiling := by decide +kernel

theorem test_survey_walks :
    (∀ mode ∈ [Mode.surveying, .quiet],
      (shows (exec (.moduleReply 0 (flagged 0)) (withString running (hearing mode .unknown (some (atFirst 0 false))))) fun t =>
        (t.stringAt 0).sweep == some { address := 2, tries := 0, dark := false, lampsGood := 5 } &&
          (t.stringAt 0).line == .exchange 2 .poll true 1) ∧
      shows (exec (.moduleReply 0 (flagged 0x41)) (withString running (hearing mode .unknown (some (atFirst 0 false))))) fun t =>
        (t.stringAt 0).sweep == some (atFirst 0 true) && (t.stringAt 0).line == .exchange 1 .dark true 2) := by decide +kernel

theorem test_premises_MissesAreCountedOrMakeAbsent_sweep :
    (∀ tries ∈ [0, 1, 2], sound (withString lit (hearing .surveying .present (some (atFirst tries false)))) = true) ∧
      sound (withString running (hearing .quiet .present (some (atFirst 0 false)))) = true ∧
      lit.hot 0 1 = true ∧ 1 < 2 ∧ ¬2 < 2 := by decide +kernel

theorem test_survey_retries :
    (∀ tries ∈ [0, 1],
      shows (exec (.exchangeMiss 0) (withString lit (hearing .surveying .present (some (atFirst tries false))))) fun t =>
        (t.stringAt 0).sweep == some (atFirst (tries + 1) false) && (t.stringAt 0).line == .exchange 1 .poll true 1) ∧
      shows (exec (.exchangeMiss 0) (withString lit (hearing .surveying .present (some (atFirst 2 false)))))
        fun t => (t.stringAt 0).sweep == some { atFirst 2 false with address := 2, tries := 0 } := by decide +kernel

/-- String 0 in a survey or an attention sweep, at an address, with its line idle. -/
def walking (mode : Mode) (purpose : Option Purpose) (address : Nat) (dark : Bool) : StringCtl :=
  { fed mode with
    purpose := purpose, sweep := some { atFirst 0 dark with address := address }
    modules := { ModuleLink.fresh with presence := .present } :: List.replicate 119 ModuleLink.fresh }

theorem test_premises_StringTimesEndAsTheModesSay_walk :
    (∀ mode ∈ [Mode.surveying, .quiet], ∀ address ∈ [1, 120, 121], ∀ dark ∈ [false, true],
      let x := walking mode none address dark
      x.line = .idle ∧ x.due = [] ∧ x.dormancyDue = false ∧ x.sweep = some { atFirst 0 dark with address := address }) ∧
      (walking .surveying none 120 false).ceiling = 120 ∧
      (withString running (walking .quiet none 121 false)).anyHot 0 = false ∧
      (withString lit (walking .surveying (some .start) 121 false)).anyHot 0 = true ∧ 0 < running.strings.length ∧
      running.inRun = true ∧ unset.inRun = false := by decide +kernel

theorem test_survey_ends :
    ((((withString running (walking .surveying (some .census) 121 false)).runLine 0).jw.report ==
        [.advisory { running.advisory .censusDone .none 1024 0 with confirmed := 1 }]) &&
      (((withString running (walking .surveying (some .test) 121 false)).runLine 0).jw.report ==
        [.advisory { running.advisory .testDone .none 1024 0 with confirmed := 4 }]) &&
      ((withString lit (walking .surveying (some .start) 121 false)).runLine 0).modeOf 0 == .active &&
      ((withString running (walking .surveying (some .start) 121 false)).runLine 0).modeOf 0 == .quiet &&
      (((withString running (walking .quiet none 121 false)).runLine 0).stringAt 0).dormancyTimer == 0) = true := by
  decide +kernel

theorem test_premises_LayoutsStandByteForByte_locator :
    3 < 4 ∧ 255 < 256 ∧ 15 < 16 ∧ bytesLE 4 (locator 3 120 15 2 2 9).toNat = [120, 3, 0xAF, 9] ∧
      bytesLE 4 (locator 0 0 0 0 0 0).toNat = [0, 0, 0, 0] := by decide +kernel

/-- Table entries that fail their check at these places. -/
def spoiled (s : State) (picks contexts : List Nat) : State :=
  { s with
    pm := { s.pm with entries := picks.foldl (fun l i => l.modify i fun e => { e with parity := false }) s.pm.entries }
    contexts := contexts.foldl (fun l i => l.modify i fun e => { e with parity := false }) s.contexts }

theorem test_premises_DamagedEntriesAreHandledByTheirHolder_reads :
    (spoiled paired [0, 1] []).bundled 0 = true ∧ ((spoiled paired [0, 1] []).holder 0).isSome = true ∧
      (spoiled paired [0, 1] []).found (fun i => i == 0) = [0, 1] ∧ (spoiled paired [] []).pickIntact 0 = true ∧
      (spoiled (crowd true) [0] []).passReads 0 = true ∧ (spoiled (crowd true) [1] []).passReads 1 = true ∧
      (spoiled (crowd true) [255] []).bundled 255 = false := by decide +kernel

theorem test_premises_DamagedEntriesAreHandledByTheirHolder_visits :
    (crowd true).pickAt 1 = some (onePick 8 (.deferred firstModule)) ∧
      (spoiled (crowd true) [1] []).pickIntact 1 = false ∧ (spoiled (crowd true) [0] []).contextOfSlot 5 = some 0 ∧
      (spoiled (crowd true) [0] []).contextAt 0 = some oneContext ∧ oneClaim ∈ oneContext.claims ∧ 0 ∈ oneClaim.bundle ∧
      (spoiled (crowd true) [0] []).pickIntact 0 = false ∧ (spoiled (crowd true) [] [0]).contextIntact 0 = false ∧
      (spoiled (crowd true) [] [0]).inRun = true ∧ (spoiled (crowd true) [] [0, 95]).badContexts = [0, 95] := by decide +kernel

theorem test_passes_leave_damage :
    ((spoiled (crowd true) [1] []).visitDeferred 1 == spoiled (crowd true) [1] [] &&
      (spoiled (crowd true) [0] []).visitDeferred 1 == spoiled (crowd true) [0] [] &&
      (spoiled (crowd true) [] [0]).visitDeferred 1 == spoiled (crowd true) [] [0]) = true := by decide +kernel

theorem test_damage_in_turn :
    let t := (spoiled paired [0, 1] []).checkPick 0
    (t.jw.report == [.pick 0, .pick 1] && t.tiu.capture.index == 0 && t.tiu.capture.further && t.pickIntact 1) = true ∧
      let u := (spoiled lit [0] [0]).checkContexts
      (u.tiu.capture.table == .context && u.tiu.capture.further && u.jw.report == [.pick 0] && u.pickIntact 0) = true := by
  decide +kernel

/-! ### Idle lines, heads that wait, and losses -/

theorem test_premises_RunStates_idle_lines :
    ∀ mode ∈ [Mode.off, .settling, .test, .feedFault], ∀ s ∈ [lit, halted],
      sound (withString s (fed mode)) = true ∧ ((withString s (fed mode)).stringAt 0).mode = mode ∧
        ((withString s (fed mode)).stringAt 0).line = .idle ∧ ((withString s (fed mode)).stringAt 0).due = [] := by decide +kernel

/-- A part that awaits one PICK record of slot 5 while another record is posted behind it, its atlas cache given. -/
def pickComing (ac : Cache) : State := { fetching .running with iu := { (fetching .running).iu with posted := 2 }, ac := ac }

/-- The bytes of a PICK of slot 5. -/
def pickBytes : List Byte := [1, 1, 0, 0, 7, 0, 0, 0, 5, 0, 10, 0] ++ List.replicate 20 0

/-- The part that awaits a PICK, its pick table full. -/
def crammed : State := { pickComing found.ac with pm := full.pm }

theorem test_premises_RecordsAreFetchedIntoTheQueue_picks :
    (∀ s ∈ [pickComing found.ac, pickComing running.ac, pickComing demanding.ac, crammed], sound s = true ∧
      s.lrc.setup = some small ∧ s.lrc.run = .running ∧ s.iu.queue = [] ∧ s.iu.posted ≠ s.iu.fetched) ∧
      (pickComing found.ac).wayOf 5 = some 10 ∧ (pickComing running.ac).wayOf 5 = none ∧
      (pickComing running.ac).needsFields 5 = true ∧ (pickComing running.ac).ac.lookahead = none ∧
      (pickComing demanding.ac).ac.demand ≠ .idle ∧ (∀ i < 256, crammed.pickAt i ≠ none) ∧
      (pickComing found.ac).pickAt 0 = none := by decide +kernel

theorem test_head_pick_at_arrival :
    (shows (exec (.recordFetchArrival pickBytes) (pickComing found.ac)) fun t =>
        t.iu.fetch == .idle && t.iu.queue == [pickTask]) ∧
      ∀ s ∈ [pickComing running.ac, crammed], shows (exec (.recordFetchArrival pickBytes) s) fun t => t.iu.fetch == .underWay 1 0 := by
  decide +kernel

theorem test_premises_DirectivesWaitPassOrAreRefused_waits :
    (∀ r ∈ [task 3 0 0 7 0 0 0, task 0 0 0 0 0 0 0, task 7 0 0 0 0 0 9], (ask noSpare [r]).inRun = true ∧
      (ask noSpare [r]).head = some r ∧ (ask noSpare [r]).jw.spare = 0) ∧
      (fencing (List.replicate 4 (fenceAt 0)) 5).head = some (task 7 0 0 0 0 0 9) ∧
      4 ≤ (fencing (List.replicate 4 (fenceAt 0)) 5).pm.fences.length := by decide +kernel

/-- A directive that stands at the head with no advisory entry spare, one more record posted, no fetch under way. -/
def stalled : State :=
  { noSpare with iu := { Intake.empty with queue := [task 3 0 0 7 0 0 0], fetched := 1, posted := 2 } }

theorem test_waiting_directive_fetches : shows (exec .cancel stalled) fun t =>
    t.iu.queue == stalled.iu.queue && t.iu.taken == 0 && t.iu.fetch == .underWay 1 0 && t.iu.fetched == 2 := by decide +kernel

theorem test_premises_AmendChangesTheRequestedQuantity_lowered :
    sound (ask twin [amendTask 7 1]) = true ∧ (ask twin [amendTask 7 1]).head = some (amendTask 7 1) ∧ twin.pm.deferred = [] ∧
      twin.findTag 7 = .live 0 { onePick 7 .placed with requested := 500 } ∧ twin.sumWith [0, 1] 0 1 = 500 := by decide +kernel

/-- A part whose head drops slots 5 and 6: both ways of set 5 hold slot 5, way 0 of set 6 holds slot 6 with bit 1 set, way 1 of
set 7 slot 7, and a PICK of slot 5 stands behind. -/
def dropping : State :=
  let way (n : Nat) (l : List Way) : List Way := l.set n { parity := true, valid := true, tag := 0, fields := firstFields }
  { ask running [dropTask 5 2, pickTask] with
    ac := { running.ac with ways := way 10 (way 11 (way 12 (way 15 running.ac.ways))), lru := running.ac.lru.set 6 true } }

theorem test_premises_AtlasDropEmptiesItsRange_lru :
    sound dropping = true ∧ dropping.HeadIs (dropTask 5 2) .atlasDrop ∧ (∀ i ∈ [10, 11, 12, 15], (dropping.wayAt i).valid = true) ∧
      dropping.lruOf 5 = false ∧ dropping.lruOf 6 = true ∧
      (∀ next, dropping.iu.queue.tail.head? = some next → next.task = .pick → next.slot.toNat % 64 ≠ 6) := by
  refine ⟨by decide +kernel, ⟨rfl, rfl, by decide⟩, by decide +kernel, by decide +kernel, by decide +kernel, fun next h _ => ?_⟩
  obtain rfl : pickTask = next := Option.some.inj h
  decide

theorem test_drop_lru :
    ((dropping.dropAtlas 5 2).lruOf 5 && !(dropping.dropAtlas 5 2).lruOf 6 && !(dropping.dropAtlas 5 2).lruOf 7 &&
      (dropping.dropAtlas 7 1).lruOf 7 && (dropping.dropAtlas 5 2).wayAt 15 == dropping.wayAt 15) = true := by decide +kernel

theorem test_reservations :
    (shows (exec .fence (fencing [] 1)) fun t => t.jw.reserved == 1 && t.jw.report == []) ∧
      (shows (exec .lightTest (withString (ask running [stringTask 8 0 1]) (fed .quiet))) fun t => t.jw.reserved == 1) ∧
      shows (exec .census (withString (ask running [stringTask 9 0 0]) (fed .feedFault))) fun t => t.jw.reserved == 1 := by
  decide +kernel

/-- The lit part with a FACES of module 1 in flight that carries the pending set, its module as given, its context with these
claims, and a pin. -/
def missed (claims : List Claim) (displayed : FaceSet) (misses : Nat) (presence : Presence) : State :=
  withString (light lit { oneContext with
      claims := claims, displayed := displayed, pending := some { oneContext.desired with generation := 2 }
      pin := if claims = [] then none else some { serial := 0, count := 3, timer := 9 } })
    { fed .active with
      line := .exchange 1 .faces false 0
      modules := { ModuleLink.fresh with misses := misses, presence := presence } :: List.replicate 119 ModuleLink.fresh }

theorem test_premises_MissesAreCountedOrMakeAbsent_sets :
    (∀ misses ∈ [0, 1, 2, 3], ∀ claims ∈ [[], [oneClaim]], ∀ displayed ∈ [FaceSet.nothing, oneContext.displayed],
      sound (missed claims displayed misses .present) = true ∧
        (missed claims displayed misses .present).contextOfModule 0 1 = some 0) ∧
      (missed [oneClaim] oneContext.displayed 3 .lost).contextOfModule 0 1 = some 0 ∧ lit.pm.deferred = [] ∧
      ((missed [oneClaim] oneContext.displayed 2 .present).contextAt 0).map (fun c => c.pin.isSome) = some true := by decide +kernel

theorem test_missed_faces :
    (shows (exec (.exchangeMiss 0) (missed [oneClaim] oneContext.displayed 2 .present)) fun t =>
        (t.contextAt 0).map (fun c => (c.pending == none, c.pin == none, c.claims.map Claim.serial)) == some (true, true, [0])) ∧
      (shows (exec (.exchangeMiss 0) (missed [] FaceSet.nothing 0 .present)) fun t => t.contextAt 0 == none) ∧
      (shows (exec (.exchangeMiss 0) (missed [] oneContext.displayed 2 .present)) fun t => t.contextAt 0 == none) ∧
      shows (exec (.exchangeMiss 0) (missed [] oneContext.displayed 1 .present)) fun t => (t.contextAt 0).isSome := by
  decide +kernel

/-- String 0 in a mode with this on its line, a sweep under way. -/
def settlingMode (mode : Mode) (line : Line) : StringCtl := { fed mode with line := line, sweep := some Sweep.first }

theorem test_premises_StringTimesEndAsTheModesSay_settle :
    0 < lit.strings.length ∧ (settlingMode .quiet (.exchange 1 .poll true 0)).line.inExchange = true ∧
      (∀ mode ∈ [Mode.quiet, .dormant, .active], ∀ line ∈ [Line.idle, .broadcast .go 1],
        (settlingMode mode line).line.inExchange = false ∧ (settlingMode mode line).mode = mode ∧
          sound (withString lit (settlingMode mode line)) = true ∧ sound (withString running (settlingMode mode line)) = true ∧
          (withString lit (settlingMode mode line)).anyHot 0 = true ∧
          (withString running (settlingMode mode line)).anyHot 0 = false) := by decide +kernel

theorem test_settle_mode :
    ((∀ mode ∈ [Mode.quiet, .dormant], (((withString lit (settlingMode mode .idle)).settleMode 0).stringAt 0).mode = .active ∧
        (((withString lit (settlingMode mode .idle)).settleMode 0).stringAt 0).sweep = none) ∧
      (((withString running (settlingMode .active .idle)).settleMode 0).stringAt 0).mode = .quiet ∧
      (((withString lit (settlingMode .quiet (.exchange 1 .poll true 0))).settleMode 0).stringAt 0).mode = .quiet) := by
  decide +kernel

/-- The lit part, or an empty one, with string 0 in a mode for a purpose, an entry reserved for what it closes. -/
def tripping (s : State) (mode : Mode) (purpose : Option Purpose) : State :=
  { withString s { fed mode with purpose := purpose } with jw := { Journal.empty with reserved := 1 } }

theorem test_premises_FeedFaultsTakeTheStringDown_told :
    (∀ x ∈ [(Mode.test, some Purpose.test), (.surveying, some .test), (.surveying, some .census), (.settling, some .census),
      (.surveying, some .start), (.active, none)], ∀ s ∈ [lit, running, unset],
        sound (tripping s x.1 x.2) = true ∧ ((tripping s x.1 x.2).stringAt (0 : Fin 4)).feed = true ∧
          ((tripping s x.1 x.2).stringAt (0 : Fin 4)).purpose = x.2 ∧ (tripping s x.1 x.2).jw.spare = 15) ∧
      lit.inRun = true ∧ unset.inRun = false ∧ (List.range' 1 120).filter (fun a => lit.hot 0 a) = [1] := by decide +kernel

theorem test_feed_fault_told :
    ∀ x ∈ [(Mode.surveying, some Purpose.census, [(RecordKind.censusDone, 1024), (.moduleLost, 5)]),
      (.surveying, some .test, [(.testDone, 1024), (.moduleLost, 5)]), (.active, none, [(.moduleLost, 5)])],
      shows (exec (.feedFault 0 true) (tripping lit x.1 x.2.1)) fun t =>
        t.advisories.map (fun r => (r.kind, r.slot.toNat)) == x.2.2 && t.advisories.all fun r => r.cause == .feedFault := by
  decide +kernel

/-- The reporting part with two fences behind its pick, the second behind a placed pick too. -/
def fenced : State :=
  let s := hold running [{ onePick 7 (.reporting oneOutcome) with intakeSequence := 0 }, { onePick 8 .placed with intakeSequence := 3 }]
  { s with
    pm := { s.pm with fences := [fenceAt 2, fenceAt 9] }
    jw := { Journal.empty with report := [.pick 0], reserved := 2 } }

theorem test_premises_JournalWritesTheOldestItem_fences :
    (∀ e ∈ fenced.pm.entries, e.parity = true) ∧ fenced.inRun = true ∧ fenced.jw.report = .pick 0 :: [] ∧
      fenced.pickAt 0 = some (onePick 7 (.reporting oneOutcome)) := by decide +kernel

theorem test_journal_write_reaches_fences : shows (exec .journalWrite fenced) fun t =>
    t.pm.fences == [fenceAt 9] && t.jw.report == [.advisory (fenced.fenceRecord (fenceAt 2))] && t.jw.reserved == 1 := by
  decide +kernel

theorem test_premises_ApportioningDividesTheConfirmedCount_close :
    lit.pickAt 0 = some (onePick 7 .placed) ∧ (onePick 7 .placed).quiet = false ∧ oneOutcome.kind = .full ∧
      ({ onePick 7 .placed with quiet := true } : Pick).quiet = true ∧ { oneOutcome with kind := .short }.kind ≠ .full := by
  decide +kernel

/-- The crowded part with its second pick asking for 995, so that no claim has room for it, and the entry of the first damaged. -/
def beside : State :=
  let s := spoiled (crowd true) [0] []
  s.setPick 1 (some { onePick 8 (.deferred firstModule) with requested := 995 })

/-- The same with the third pick of that slot and that size, younger than one that the damage holds up. -/
def behind : State :=
  (spoiled (crowd true) [0] []).setPick 3 (some { onePick 10 (.deferred firstModule) with requested := 995 })

theorem test_premises_DamagedEntriesAreHandledByTheirHolder_held :
    behind.joinsDamaged 3 = false ∧ behind.heldUp 3 = true ∧ behind.visitDeferred 3 = behind ∧
    (spoiled (crowd true) [0] []).joinsDamaged 1 = true ∧ (spoiled (crowd true) [0] []).heldUp 1 = true ∧
      (spoiled (crowd true) [0] []).heldUp 3 = false ∧ beside.joinsDamaged 1 = false ∧ beside.heldUp 1 = false ∧
      beside.pickIntact 1 = true ∧ beside.contextIntact 0 = true ∧ beside.contextOfSlot 5 = some 0 := by decide +kernel

theorem test_new_claim_beside_damage :
    ((beside.visitDeferred 1).pm.deferred == [2, 3] && !(beside.visitDeferred 1).pickIntact 0 &&
      ((beside.visitDeferred 1).contextAt 0).map (fun c => c.claims.map Claim.bundle) == some [[0], [1]]) = true := by
  decide +kernel

end Sys2Proof.Tests
end

section
/-! Proofs of the family of 01 (picks, lanes and the pick table), first part: what every operation of the part does with the sizes of
the tables, with the lane law and with the lost count (O57). -/

namespace Sys2Proof.Machine

/-! ### The lost count

Table work and line work leave it: only an advisory that may be dropped counts in it, and its limit stands there (R153). -/

/-- A fold of operations that each leave the lost count leaves it. -/
theorem foldl_lost {α : Type} (f : State → α → State) (hf : ∀ s a, (f s a).jw.lost = s.jw.lost) (l : List α) (s : State) :
    (l.foldl f s).jw.lost = s.jw.lost := by
  induction l generalizing s with
  | nil => rfl
  | cons a l ih => rw [List.foldl_cons, ih, hf]

@[simp] theorem State.appendItem_lost (s : State) (x : Item) : (s.appendItem x).jw.lost = s.jw.lost := rfl
@[simp] theorem State.offerAssured_lost (s : State) (r : OutcomeRecord) : (s.offerAssured r).jw.lost = s.jw.lost := rfl
@[simp] theorem State.offerClosing_lost (s : State) (r : OutcomeRecord) : (s.offerClosing r).jw.lost = s.jw.lost := rfl
@[simp] theorem State.reserve_lost (s : State) : s.reserve.jw.lost = s.jw.lost := rfl
@[simp] theorem State.release_jw (s : State) (i : Nat) : (s.release i).jw = s.jw := rfl
@[simp] theorem State.undefer_jw (s : State) (i : Nat) : (s.undefer i).jw = s.jw := rfl

@[simp] theorem State.reportFault_jw (s : State) (x : FaultTable) (i : Nat) : (s.reportFault x i).jw = s.jw := by
  unfold State.reportFault
  split <;> simp

@[simp] theorem State.close_lost (s : State) (i : Nat) (o : Outcome) : (s.close i o).jw.lost = s.jw.lost := by
  unfold State.close
  repeat' split
  all_goals simp

@[simp] theorem State.settleContext_jw (s : State) (ci : Nat) : (s.settleContext ci).jw = s.jw := by
  unfold State.settleContext
  repeat' split
  all_goals simp

@[simp] theorem State.dropReference_jw (s : State) (i : Nat) : (s.dropReference i).jw = s.jw := by
  unfold State.dropReference
  dsimp only
  repeat' split
  all_goals simp

@[simp] theorem State.leaveBundle_lost (s : State) (i : Nat) (k : OutcomeKind) (c : Cause) (b : Bool) :
    (s.leaveBundle i k c b).jw.lost = s.jw.lost := by simp [State.leaveBundle]

@[simp] theorem State.markSuspect_jw (s : State) (i : Nat) : (s.markSuspect i).jw = s.jw := by
  unfold State.markSuspect
  repeat' split
  all_goals simp

@[simp] theorem State.damagePick_lost (s : State) (i : Nat) : (s.damagePick i).jw.lost = s.jw.lost := by
  unfold State.damagePick
  repeat' split
  all_goals simp

theorem State.putInto_jw {s t : State} {ci i : Nat} {p : Pick} (h : s.putInto ci i p = some t) : t.jw = s.jw := by
  unfold State.putInto at h
  simp only [Option.bind_eq_some_iff, Option.map_eq_some_iff] at h
  obtain ⟨c, -, d, -, rfl⟩ := h
  simp

@[simp] theorem State.createFor_jw (s : State) (ci i : Nat) (p : Pick) (a : AtlasCopy) :
    (s.createFor ci i p a).jw = s.jw := by simp [State.createFor]

@[simp] theorem State.visitDeferred_lost (s : State) (i : Nat) : (s.visitDeferred i).jw.lost = s.jw.lost := by
  unfold State.visitDeferred
  split
  · rfl
  · split
    · split
      · rfl
      · split
        · split
          · split
            · next h => simp [State.putInto_jw h]
            · rfl
          · rfl
        · split
          · rfl
          · split <;> simp
    · rfl

@[simp] theorem State.walkDeferred_lost (s : State) : s.walkDeferred.jw.lost = s.jw.lost :=
  foldl_lost _ State.visitDeferred_lost _ _

@[simp] theorem State.handlePick_lost (s : State) (i : Nat) : (s.handlePick i).jw.lost = s.jw.lost := by
  unfold State.handlePick
  dsimp only
  split <;> simp

@[simp] theorem State.handlePicks_lost (s : State) (l : List Nat) : (s.handlePicks l).jw.lost = s.jw.lost :=
  foldl_lost _ State.handlePick_lost _ _

@[simp] theorem State.placementPass_lost (s : State) : s.placementPass.jw.lost = s.jw.lost := by simp [State.placementPass]

@[simp] theorem State.withdraw_lost (s : State) (i : Nat) (k : OutcomeKind) (c : Cause) (b : Bool) :
    (s.withdraw i k c b).jw.lost = s.jw.lost := by simp [State.withdraw]

@[simp] theorem State.readPicks_lost (s : State) (f : Nat → Bool) : (s.readPicks f).jw.lost = s.jw.lost :=
  s.handlePicks_lost _

@[simp] theorem State.checkPick_lost (s : State) (i : Nat) : (s.checkPick i).jw.lost = s.jw.lost := s.readPicks_lost _
@[simp] theorem State.checkPicks_lost (s : State) : s.checkPicks.jw.lost = s.jw.lost := s.readPicks_lost _

@[simp] theorem State.takeFences_lost (s : State) (fs : List Fence) : (s.takeFences fs).jw.lost = s.jw.lost := by
  induction fs generalizing s with
  | nil => rfl
  | cons f fs ih =>
    unfold State.takeFences
    split
    · rw [ih]
      rfl
    · rfl

@[simp] theorem State.judgeFences_lost (s : State) : s.judgeFences.jw.lost = s.jw.lost := by
  unfold State.judgeFences
  split <;> simp

@[simp] theorem State.faultVictim_lost (s : State) (i : Nat) : (s.faultVictim i).jw.lost = s.jw.lost := by
  simp [State.faultVictim]

@[simp] theorem State.darkenIfCold_jw (s : State) (c : Context) : (s.darkenIfCold c).jw = s.jw := by
  unfold State.darkenIfCold
  split <;> simp

@[simp] theorem State.emptyContext_lost (s : State) (ci : Nat) (c : Context) :
    (s.emptyContext ci c).jw.lost = s.jw.lost := by
  unfold State.emptyContext
  dsimp only
  split <;> simp [foldl_lost _ State.faultVictim_lost]

@[simp] theorem State.damageContext_lost (s : State) (ci : Nat) : (s.damageContext ci).jw.lost = s.jw.lost := by
  unfold State.damageContext
  split <;> simp

@[simp] theorem State.damageInTurn_lost (s : State) (ci : Nat) : (s.damageInTurn ci).jw.lost = s.jw.lost := by
  unfold State.damageInTurn
  split <;> simp

@[simp] theorem State.damagePickInTurn_lost (s : State) (i : Nat) : (s.damagePickInTurn i).jw.lost = s.jw.lost := by
  unfold State.damagePickInTurn
  split <;> simp

@[simp] theorem State.damageContexts_lost (s : State) (bad : List Nat) : (s.damageContexts bad).jw.lost = s.jw.lost := by
  unfold State.damageContexts
  dsimp only
  split
  · rw [foldl_lost _ State.damagePickInTurn_lost, foldl_lost _ State.damageInTurn_lost]
  · rw [foldl_lost _ State.damageInTurn_lost]

@[simp] theorem State.checkContexts_lost (s : State) : s.checkContexts.jw.lost = s.jw.lost := by
  unfold State.checkContexts
  split <;> simp

@[simp] theorem State.closeClaim_jw (s : State) (ci n : Nat) : (s.closeClaim ci n).jw = s.jw := by
  unfold State.closeClaim
  split <;> simp

@[simp] theorem State.closeBundle_lost (s : State) (n : Nat) (b : Bool) (p : Nat) (is cs : List Nat) :
    (s.closeBundle n b p is cs).jw.lost = s.jw.lost := by
  induction is generalizing s p cs with
  | nil => unfold State.closeBundle; rfl
  | cons i is ih =>
    cases cs with
    | nil => unfold State.closeBundle; rfl
    | cons c cs => unfold State.closeBundle; rw [ih]; simp

@[simp] theorem State.confirm_lost (s : State) (ci : Nat) (k : Claim) (n : Nat) (b : Bool) :
    (s.confirm ci k n b).jw.lost = s.jw.lost := by
  unfold State.confirm
  dsimp only
  split <;> simp

@[simp] theorem State.releaseContext_lost (s : State) (ci : Nat) : (s.releaseContext ci).jw.lost = s.jw.lost := by
  unfold State.releaseContext
  repeat' split
  all_goals simp

@[simp] theorem State.reportContext_lost (s : State) (ci : Nat) (c : Context) :
    (s.reportContext ci c).jw.lost = s.jw.lost := by simp [State.reportContext]

@[simp] theorem State.displayReport_lost (s : State) (ci : Nat) (b : Bool) (g : Nat) :
    (s.displayReport ci b g).jw.lost = s.jw.lost := by
  unfold State.displayReport
  split <;> simp

@[simp] theorem State.reportLost_lost (s : State) (n a : Nat) : (s.reportLost n a).jw.lost = s.jw.lost := by
  unfold State.reportLost
  repeat' split
  all_goals simp

@[simp] theorem State.dropPending_lost (s : State) (n a : Nat) : (s.dropPending n a).jw.lost = s.jw.lost := by
  unfold State.dropPending
  repeat' split
  all_goals simp

@[simp] theorem State.dropInFlight_lost (s : State) (n : Nat) : (s.dropInFlight n).jw.lost = s.jw.lost := by
  unfold State.dropInFlight
  split <;> simp

@[simp] theorem State.offerString_lost (s : State) (n : Nat) (k : RecordKind) (c : Cause) (m : Nat) :
    (s.offerString n k c m).jw.lost = s.jw.lost := State.lost_of_still (s.offerString_still n k c m)

@[simp] theorem State.feedCloses_lost (s : State) (n : Nat) : (s.feedCloses n).jw.lost = s.jw.lost := by
  unfold State.feedCloses
  split <;> simp

@[simp] theorem State.restartDormancy_jw (s : State) (n a : Nat) (r : Reply) : (s.restartDormancy n a r).jw = s.jw := by
  unfold State.restartDormancy
  split <;> simp

@[simp] theorem State.sealBlock_lost (s : State) : s.sealBlock.jw.lost = s.jw.lost := by
  unfold State.sealBlock
  split <;> simp

/-! ### The ground of the three laws -/

/-- What the table sizes, the lane law and the lost count's limit speak of. -/
structure Ground where
  lanes : List Lane
  picks : Nat
  contexts : Nat
  ways : Nat
  lru : Nat
  modules : List Nat
  lost : Nat

/-- The ground of a state. -/
def State.ground (s : State) : Ground :=
  { lanes := s.pm.lanes
    picks := s.pm.entries.length
    contexts := s.contexts.length
    ways := s.ac.ways.length
    lru := s.ac.lru.length
    modules := s.strings.map fun x => x.modules.length
    lost := s.jw.lost }

theorem State.ground_of_frame {s t : State} (h : t.frame = s.frame) (hl : t.jw.lost = s.jw.lost) : t.ground = s.ground := by
  simp [State.ground, State.lanes_of_frame h, State.picks_of_frame h, State.contexts_of_frame h, State.ac_of_frame h,
    State.modules_of_frame h, hl]

theorem State.ground_of_outside {s t : State} (h : t.outside = s.outside) : t.ground = s.ground := by
  simp [State.ground, State.pm_of_outside h, State.contexts_of_outside h, State.ways_of_outside h, State.lru_of_outside h,
    State.strings_of_outside h, State.jw_of_outside h]

/-- The tables have their sizes, in terms of the ground. -/
theorem State.shape_iff_ground (s : State) :
    s.Shape ↔ s.ground.picks = 256 ∧ s.ground.contexts = 96 ∧ s.ground.ways = 128 ∧ s.ground.lru = 64 ∧
      s.ground.lanes.length = 6 ∧ s.ground.modules.length = 4 ∧ ∀ k ∈ s.ground.modules, k = 120 := by
  simp [State.Shape, State.ground]

/-- The sizes, the lane law and the lost count's limit hold of the second state where they hold of the first. -/
structure State.KeepsLaws (s t : State) : Prop where
  shape : s.Shape → t.Shape
  lane : s.LaneLaw → t.LaneLaw
  lost : s.LostLaw → t.LostLaw

theorem State.KeepsLaws.trans {s t u : State} (h : s.KeepsLaws t) (k : t.KeepsLaws u) : s.KeepsLaws u :=
  ⟨k.shape ∘ h.shape, k.lane ∘ h.lane, k.lost ∘ h.lost⟩

theorem State.keepsLaws_of_ground {s t : State} (h : t.ground = s.ground) : s.KeepsLaws t where
  shape hs := by rw [State.shape_iff_ground] at hs ⊢; rwa [h]
  lane := by
    have hl : t.pm.lanes = s.pm.lanes := congrArg Ground.lanes h
    simp [State.LaneLaw, hl]
  lost := by
    have hl : t.jw.lost = s.jw.lost := congrArg Ground.lost h
    simp [State.LostLaw, hl]

/-- Work that keeps the frame keeps the laws once it keeps the lost count's limit. -/
theorem State.keepsLaws_of_frame {s t : State} (h : t.frame = s.frame) (hl : s.LostLaw → t.LostLaw) : s.KeepsLaws t where
  shape hs := by
    obtain ⟨hp, hc, hw, hu, hn, hm⟩ := s.shape_iff_ground.1 hs
    rw [State.shape_iff_ground]
    simp only [State.ground, State.lanes_of_frame h, State.picks_of_frame h, State.contexts_of_frame h,
      State.ac_of_frame h, State.modules_of_frame h]
    exact ⟨hp, hc, hw, hu, hn, hm⟩
  lane := by simp [State.LaneLaw, State.lanes_of_frame h]
  lost := hl

/-- A fold of operations that each keep the ground keeps it. -/
theorem foldl_ground {α : Type} (f : State → α → State) (hf : ∀ s a, (f s a).ground = s.ground) (l : List α) (s : State) :
    (l.foldl f s).ground = s.ground := by
  induction l generalizing s with
  | nil => rfl
  | cons a l ih => rw [List.foldl_cons, ih, hf]

/-! ### The ground of updates -/

@[simp] theorem State.emit_ground (s : State) (o : Output) : (s.emit o).ground = s.ground := rfl
@[simp] theorem State.setLrc_ground (s : State) (x : RunControl) : (s.setLrc x).ground = s.ground := rfl
@[simp] theorem State.setIu_ground (s : State) (x : Intake) : (s.setIu x).ground = s.ground := rfl
@[simp] theorem State.setTiu_ground (s : State) (x : Integrity) : (s.setTiu x).ground = s.ground := rfl

theorem State.setPm_ground (s : State) (x : PickManager) (hl : x.lanes = s.pm.lanes)
    (he : x.entries.length = s.pm.entries.length) : (s.setPm x).ground = s.ground := by
  simp [State.ground, hl, he]

theorem State.setContexts_ground (s : State) (x : List ContextEntry) (h : x.length = s.contexts.length) :
    (s.setContexts x).ground = s.ground := by
  simp [State.ground, h]

theorem State.setAc_ground (s : State) (x : Cache) (hw : x.ways.length = s.ac.ways.length)
    (hl : x.lru.length = s.ac.lru.length) : (s.setAc x).ground = s.ground := by
  simp [State.ground, hw, hl]

@[simp] theorem State.setAc_setAc (s : State) (x y : Cache) : (s.setAc x).setAc y = s.setAc y := rfl

theorem State.setJw_ground (s : State) (x : Journal) (h : x.lost = s.jw.lost) : (s.setJw x).ground = s.ground := by
  simp [State.ground, h]

/-- A controller's write keeps the ground when its address table keeps its size. -/
theorem State.setString_ground (s : State) (n : Nat) (x : StringCtl)
    (h : x.modules.length = (s.stringAt n).modules.length) : (s.setString n x).ground = s.ground :=
  State.ground_of_frame (s.setString_frame n x h) rfl

/-- A change of every controller keeps the ground when it keeps the size of each address table. -/
theorem State.mapStrings_ground (s : State) (f : StringCtl → StringCtl) (h : ∀ x, (f x).modules.length = x.modules.length) :
    (s.mapStrings f).ground = s.ground := by
  simp [State.ground, State.mapStrings, Function.comp_def, h]

@[simp] theorem State.setPick_ground (s : State) (i : Nat) (p : Option Pick) : (s.setPick i p).ground = s.ground :=
  State.ground_of_frame (s.setPick_frame i p) rfl

@[simp] theorem State.setContext_ground (s : State) (ci : Nat) (x : Option Context) : (s.setContext ci x).ground = s.ground :=
  State.ground_of_frame (s.setContext_frame ci x) rfl

@[simp] theorem State.setNotices_ground (s : State) (n m : BitVec 6) : (s.setNotices n m).ground = s.ground := by
  simp [State.ground]

@[simp] theorem State.raise_ground (s : State) (n : Notice) : (s.raise n).ground = s.ground := by simp [State.raise]
@[simp] theorem State.linkRead_ground (s : State) (o n : Nat) : (s.linkRead o n).ground = s.ground := by simp [State.ground]
@[simp] theorem State.linkWrite_ground (s : State) (o : Nat) (d : List Byte) : (s.linkWrite o d).ground = s.ground := by
  simp [State.ground]
@[simp] theorem State.partLine_ground (s : State) : s.partLine.ground = s.ground := by simp [State.ground]
@[simp] theorem State.judgeJournal_ground (s : State) (b : Bool) : (s.judgeJournal b).ground = s.ground := by
  simp [State.ground]

@[simp] theorem State.raiseExchange_ground (s : State) (a b : Bool) : (s.raiseExchange a b).ground = s.ground := by
  unfold State.raiseExchange
  split <;> simp

@[simp] theorem State.sealBlock_ground (s : State) : s.sealBlock.ground = s.ground := by
  cases h : s.lrc.setup with
  | none => simp [State.sealBlock, h]
  | some u =>
    obtain ⟨hjw, -, -, hac, hpm, hcs, hss, -⟩ := s.sealBlock_eq u h
    simp [State.ground, hac, hpm, hcs, hss]

@[simp] theorem State.closeBlock_ground (s : State) (u : Setup) (b : Bool) : (s.closeBlock u b).ground = s.ground := by
  unfold State.closeBlock
  split <;> simp

/-! ### The ground of table and line work -/

@[simp] theorem State.kick_ground (s : State) : s.kick.ground = s.ground := State.ground_of_frame s.kick_frame s.kick_lost
@[simp] theorem State.appendItem_ground (s : State) (x : Item) : (s.appendItem x).ground = s.ground := rfl
@[simp] theorem State.refuse_ground (s : State) (r : TaskRecord) (c : Cause) : (s.refuse r c).ground = s.ground := rfl
@[simp] theorem State.reserve_ground (s : State) : s.reserve.ground = s.ground := rfl
@[simp] theorem State.release_ground (s : State) (i : Nat) : (s.release i).ground = s.ground :=
  State.ground_of_frame (s.release_frame i) rfl
@[simp] theorem State.close_ground (s : State) (i : Nat) (o : Outcome) : (s.close i o).ground = s.ground :=
  State.ground_of_frame (s.close_frame i o) (s.close_lost i o)
@[simp] theorem State.undefer_ground (s : State) (i : Nat) : (s.undefer i).ground = s.ground :=
  State.ground_of_frame (s.undefer_frame i) rfl
@[simp] theorem State.withdraw_ground (s : State) (i : Nat) (k : OutcomeKind) (c : Cause) (b : Bool) :
    (s.withdraw i k c b).ground = s.ground := State.ground_of_frame (s.withdraw_frame i k c b) (s.withdraw_lost i k c b)
@[simp] theorem State.placementPass_ground (s : State) : s.placementPass.ground = s.ground :=
  State.ground_of_frame s.placementPass_frame s.placementPass_lost
@[simp] theorem State.checkPick_ground (s : State) (i : Nat) : (s.checkPick i).ground = s.ground :=
  State.ground_of_frame (s.checkPick_frame i) (s.checkPick_lost i)
@[simp] theorem State.checkPicks_ground (s : State) : s.checkPicks.ground = s.ground :=
  State.ground_of_frame s.checkPicks_frame s.checkPicks_lost
@[simp] theorem State.checkContexts_ground (s : State) : s.checkContexts.ground = s.ground :=
  State.ground_of_frame s.checkContexts_frame s.checkContexts_lost
@[simp] theorem State.checkTables_ground (s : State) : s.checkTables.ground = s.ground := by simp [State.checkTables]
@[simp] theorem State.judgeFences_ground (s : State) : s.judgeFences.ground = s.ground :=
  State.ground_of_frame s.judgeFences_frame s.judgeFences_lost
@[simp] theorem State.createFor_ground (s : State) (ci i : Nat) (p : Pick) (a : AtlasCopy) :
    (s.createFor ci i p a).ground = s.ground :=
  State.ground_of_frame (s.createFor_frame ci i p a) (by simp)

theorem State.putInto_ground {s t : State} {ci i : Nat} {p : Pick} (h : s.putInto ci i p = some t) : t.ground = s.ground :=
  State.ground_of_frame (State.putInto_frame h) (by rw [State.putInto_jw h])

/-! ### The ground of lookups, fetches and the consumption of the head -/

@[simp] theorem State.startRecordFetch_ground (s : State) : s.startRecordFetch.ground = s.ground :=
  State.ground_of_outside s.startRecordFetch_outside
@[simp] theorem State.offerHead_ground (s : State) : s.offerHead.ground = s.ground :=
  State.ground_of_outside s.offerHead_outside
@[simp] theorem State.candidateSearch_ground (s : State) : s.candidateSearch.ground = s.ground :=
  State.ground_of_outside s.candidateSearch_outside
@[simp] theorem State.afterHead_ground (s : State) : s.afterHead.ground = s.ground :=
  State.ground_of_outside s.afterHead_outside
@[simp] theorem State.install_ground (s : State) (slot : Nat) (f : AtlasFields) : (s.install slot f).ground = s.ground :=
  State.ground_of_outside (s.install_outside slot f)
@[simp] theorem State.askAtlas_ground (s : State) (slot : Nat) : (s.askAtlas slot).1.ground = s.ground :=
  State.ground_of_outside (s.askAtlas_outside slot)

@[simp] theorem State.consumeHead_ground (s : State) : s.consumeHead.ground = s.ground := by
  unfold State.consumeHead
  dsimp only
  split <;> simp

@[simp] theorem State.consumed_ground (s : State) : s.consumed.ground = s.ground := by simp [State.consumed]

@[simp] theorem State.endInterval_ground (s : State) : s.endInterval.ground = s.ground := by
  unfold State.endInterval
  split <;> simp

@[simp] theorem State.issuePoll_ground (s : State) : s.issuePoll.ground = s.ground := by simp [State.issuePoll]

@[simp] theorem State.prompt_ground (s : State) : s.prompt.ground = s.ground := by
  unfold State.prompt
  split <;> simp

@[simp] theorem State.pollArrives_ground (s : State) (h : List Byte) : (s.pollArrives h).ground = s.ground := by
  unfold State.pollArrives
  split
  · rfl
  · dsimp only
    split <;> simp [State.setJw_ground]

@[simp] theorem State.fetchArrives_ground (s : State) (n : Nat) (d : List Byte) : (s.fetchArrives n d).ground = s.ground := by
  unfold State.fetchArrives
  dsimp only
  rw [State.candidateSearch_ground]
  repeat' split
  all_goals simp

@[simp] theorem State.demandArrives_ground (s : State) (slot : Nat) (f : AtlasFields) :
    (s.demandArrives slot f).ground = s.ground := by
  simp [State.demandArrives, State.setAc_ground]

@[simp] theorem State.aheadArrives_ground (s : State) (slot : Nat) (f : AtlasFields) :
    (s.aheadArrives slot f).ground = s.ground := by
  unfold State.aheadArrives
  dsimp only
  split <;> simp [State.setAc_ground]

@[simp] theorem State.discardVoided_ground (s : State) (place : Nat) : (s.discardVoided place).ground = s.ground := by
  unfold State.discardVoided
  split <;> simp [State.forget]

/-! ### The ground of the consumption commands -/

@[simp] theorem State.defer_ground (s : State) (i : Nat) (p : Pick) (a : AtlasCopy) : (s.defer i p a).ground = s.ground :=
  (State.setPm_ground _ _ rfl rfl).trans (s.setPick_ground i _)

@[simp] theorem State.place_ground (s : State) (i : Nat) (p : Pick) (f : Option AtlasFields) :
    (s.place i p f).ground = s.ground := by
  unfold State.place
  split
  · split
    · next h => exact State.putInto_ground h
    · simp
  · split <;> simp

@[simp] theorem State.takePick_ground (s : State) (i : Nat) (r : TaskRecord) (f : Option AtlasFields) :
    (s.takePick i r f).ground = s.ground := by
  have h (p : Pick) (n : Nat) : ((s.setPick i (some p)).setPm { (s.setPick i (some p)).pm with free := n }).ground = s.ground :=
    (State.setPm_ground _ _ rfl rfl).trans (s.setPick_ground i _)
  unfold State.takePick
  dsimp only
  split
  · exact (State.close_ground _ _ _).trans (h _ _)
  · exact (State.place_ground _ _ _ _).trans (h _ _)

@[simp] theorem State.offerPick_ground (s : State) (r : TaskRecord) (f : Option AtlasFields) :
    (s.offerPick r f).ground = s.ground := by
  unfold State.offerPick
  split <;> simp

@[simp] theorem State.takeHeadPick_ground (s : State) (r : TaskRecord) : (s.takeHeadPick r).ground = s.ground := by
  unfold State.takeHeadPick
  have h := s.askAtlas_ground r.slot.toNat
  split
  · split
    · next he => simpa [he] using h
    · next he => simpa [he] using h
  · simp

@[simp] theorem State.headPick_ground (s : State) : s.headPick.ground = s.ground := by
  unfold State.headPick
  split
  · split <;> simp
  · rfl

@[simp] theorem State.headQualifier_ground (s : State) : s.headQualifier.ground = s.ground := by
  unfold State.headQualifier
  split
  · split <;> simp
  · rfl

@[simp] theorem State.cancel_ground (s : State) (r : TaskRecord) : (s.cancel r).ground = s.ground := by
  unfold State.cancel
  split
  · simp
  · simp
  · split <;> simp

@[simp] theorem State.amendPlaced_ground (s : State) (i : Nat) (p : Pick) (ci : Nat) (k : Claim) (q : Nat) :
    (s.amendPlaced i p ci k q).ground = s.ground := by
  unfold State.amendPlaced
  dsimp only
  repeat' split
  all_goals simp

@[simp] theorem State.amend_ground (s : State) (r : TaskRecord) : (s.amend r).ground = s.ground := by
  unfold State.amend
  dsimp only
  repeat' split
  all_goals simp

@[simp] theorem State.dropAtlas_ground (s : State) (first count : Nat) : (s.dropAtlas first count).ground = s.ground := by
  have h := State.ground_of_outside
    (foldl_outside (State.dropWay first count) (State.dropWay_outside first count) (List.range s.ac.ways.length) s)
  have hv (t : State) : t.voidAhead.ground = t.ground := by
    unfold State.voidAhead
    split <;> simp [State.setAc_ground]
  exact (hv _).trans ((State.setAc_ground _ _ rfl rfl).trans h)

@[simp] theorem State.atlasDrop_ground (s : State) (r : TaskRecord) : (s.atlasDrop r).ground = s.ground := by
  unfold State.atlasDrop
  split <;> simp

@[simp] theorem State.addFence_ground (s : State) (r : TaskRecord) : (s.addFence r).ground = s.ground := by
  simp [State.addFence, State.setPm_ground]

@[simp] theorem State.reserve_stringAt (s : State) (n : Nat) : s.reserve.stringAt n = s.stringAt n := rfl

@[simp] theorem State.lightTest_ground (s : State) (r : TaskRecord) : (s.lightTest r).ground = s.ground := by
  unfold State.lightTest
  dsimp only
  repeat' split
  case isFalse.isFalse.isFalse => exact (State.setString_ground _ _ (StringCtl.enterTest _ _) rfl).trans s.reserve_ground
  all_goals simp

/-! ### The ground of the run states -/

theorem mapBetween_length {α : Type} (lo hi : Nat) (f : α → α) (n : Nat) (l : List α) :
    (mapBetween lo hi f n l).length = l.length := by
  induction l generalizing n with
  | nil => rfl
  | cons x xs ih => simp [mapBetween, ih]

@[simp] theorem State.sweep_ground (s : State) (lo hi : Nat) : (s.sweep lo hi).ground = s.ground := by
  simp [State.sweep, State.ground, mapBetween_length]

@[simp] theorem State.issueStart_ground (s : State) : s.issueStart.ground = s.ground := by simp [State.issueStart]

@[simp] theorem State.rebuildAll_ground (s : State) : s.rebuildAll.ground = s.ground :=
  s.setContexts_ground _ (by simp)

theorem StringCtl.announce_modules (x : StringCtl) (b : Broadcast) : (x.announce b).modules = x.modules := by
  unfold StringCtl.announce
  split <;> rfl

@[simp] theorem State.sealOpen_ground (s : State) : s.sealOpen.ground = s.ground := by
  unfold State.sealOpen
  split <;> simp

@[simp] theorem State.enterHalted_ground (s : State) : s.enterHalted.ground = s.ground := by
  unfold State.enterHalted
  dsimp only
  rw [State.kick_ground, State.sealOpen_ground, State.mapStrings_ground _ _ (by simp [StringCtl.announce_modules])]
  split <;> simp

@[simp] theorem State.resumePoll_ground (s : State) : s.resumePoll.ground = s.ground := by
  unfold State.resumePoll
  split <;> simp

@[simp] theorem State.resumeFetch_ground (s : State) : s.resumeFetch.ground = s.ground := by
  unfold State.resumeFetch
  rw [State.startRecordFetch_ground]
  split <;> simp

@[simp] theorem State.resumeAtlas_ground (s : State) : s.resumeAtlas.ground = s.ground := by
  unfold State.resumeAtlas
  dsimp only
  repeat' split
  all_goals simp [State.setAc_ground]

@[simp] theorem State.enterRunning_ground (s : State) : s.enterRunning.ground = s.ground := by
  unfold State.enterRunning
  rw [State.kick_ground, State.mapStrings_ground _ _ (by simp [StringCtl.announce_modules])]
  simp

@[simp] theorem State.failStart_ground (s : State) (v : Verdict) : (s.failStart v).ground = s.ground := by
  simp [State.failStart]

@[simp] theorem State.linkFault_ground (s : State) : s.linkFault.ground = s.ground := by
  unfold State.linkFault
  dsimp only
  split <;> simp

@[simp] theorem State.readFails_ground (s : State) (r : ReadRef) : (s.readFails r).ground = s.ground := by
  cases r <;> simp [State.readFails, State.holdPoll, State.holdFetch, State.holdDemand, State.holdAhead, State.setAc_ground]

@[simp] theorem State.failAt_ground (s : State) (r : ReadRef) (n : Nat) : (s.failAt r n).ground = s.ground := by
  unfold State.failAt
  split
  · split <;> simp
  · rfl

/-! ### The ground of the string events and of the journal's write -/

@[simp] theorem State.reoffer_ground (s : State) (n : Nat) : (s.reoffer n).ground = s.ground := by
  unfold State.reoffer
  split <;> simp

theorem StringCtl.endBroadcast_modules (x : StringCtl) (b : Broadcast) : (x.endBroadcast b).modules = x.modules := by
  unfold StringCtl.endBroadcast
  split <;> rfl

@[simp] theorem State.broadcastEnd_ground (s : State) (n : Nat) : (s.broadcastEnd n).ground = s.ground := by
  unfold State.broadcastEnd
  split
  · simp [State.setString_ground, StringCtl.endBroadcast_modules]
  · rfl

/-- An end of a time in a mode keeps the ground when it keeps the size of its controller's address table. -/
theorem State.stringEvent_ground (s : State) (n : Nat) (f : StringCtl → StringCtl) (h : ∀ x, (f x).modules = x.modules) :
    (s.stringEvent n f).ground = s.ground := by
  simp [State.stringEvent, State.setString_ground, h]

theorem StringCtl.attend_modules (x : StringCtl) (low : Bool) : (x.attend low).modules = x.modules := by
  unfold StringCtl.attend
  dsimp only
  split <;> rfl

@[simp] theorem State.expireLinger_ground (s : State) (ci n : Nat) : (s.expireLinger ci n).ground = s.ground := by
  unfold State.expireLinger
  split <;> simp

@[simp] theorem State.expirePin_ground (s : State) (ci : Nat) : (s.expirePin ci).ground = s.ground := by
  unfold State.expirePin
  split
  · split <;> simp
  · rfl

@[simp] theorem State.writeRecord_ground (s : State) (u : Setup) (d : List Byte) : (s.writeRecord u d).ground = s.ground := by
  simp [State.writeRecord, State.setJw_ground]

@[simp] theorem State.examineFences_ground (s : State) : s.examineFences.ground = s.ground := by
  unfold State.examineFences
  split <;> simp

@[simp] theorem State.writePick_ground (s : State) (u : Setup) (i : Nat) : (s.writePick u i).ground = s.ground := by
  unfold State.writePick
  dsimp only
  split <;> simp

/-! ### The limit of the lost count where advisories are offered -/

theorem State.lostLaw_of_eq {s t : State} (h : t.jw.lost = s.jw.lost) (hs : s.LostLaw) : t.LostLaw := by
  unfold State.LostLaw
  rwa [h]

/-- An advisory that finds no spare entry counts as lost, up to 255 (R153). -/
theorem State.offer_lostLaw {s : State} (r : OutcomeRecord) (h : s.LostLaw) : (s.offer r).LostLaw := by
  unfold State.offer
  split
  · exact h
  · simp [State.LostLaw]

/-- A fold of operations that each keep the limit keeps it. -/
theorem foldl_lostLaw {α : Type} (f : State → α → State) (hf : ∀ s a, s.LostLaw → (f s a).LostLaw) (l : List α) (s : State)
    (h : s.LostLaw) : (l.foldl f s).LostLaw := by
  induction l generalizing s with
  | nil => exact h
  | cons a l ih => exact ih _ (hf s a h)

theorem State.ite_lostLaw {b : Prop} [Decidable b] {t u : State} (ht : t.LostLaw) (hu : u.LostLaw) :
    (if b then t else u).LostLaw := by
  split
  · exact ht
  · exact hu

section Offers

variable {s : State} (h : s.LostLaw)
include h

theorem State.kick_lostLaw : s.kick.LostLaw := State.lostLaw_of_eq s.kick_lost h

theorem State.offerModule_lostLaw (n a : Nat) (k : RecordKind) (c : Cause) : (s.offerModule n a k c).LostLaw := by
  unfold State.offerModule
  split
  · exact State.offer_lostLaw _ h
  · exact h

theorem State.strayPress_lostLaw (n a : Nat) (e : PressEvent) (c : Cause) (slot l : Nat) :
    (s.strayPress n a e c slot l).LostLaw := by
  unfold State.strayPress
  split
  · split
    · exact State.offer_lostLaw _ h
    · exact h
  · exact h

theorem State.adjustPress_lostLaw (n a : Nat) (e : PressEvent) (ci : Nat) (k : Claim) :
    (s.adjustPress n a e ci k).LostLaw := by
  unfold State.adjustPress
  split
  · exact h
  · split
    · exact State.strayPress_lostLaw h _ _ _ _ _ _
    · exact h

theorem State.confirmPress_lostLaw (ci : Nat) (k : Claim) (q : Nat) : (s.confirmPress ci k q).LostLaw := by
  unfold State.confirmPress
  split
  · exact h
  · split <;> exact State.lostLaw_of_eq (State.confirm_lost _ _ _ _ _) h

theorem State.checkPressed_lostLaw (n a : Nat) (e : PressEvent) : (s.checkPressed n a e).LostLaw := by
  unfold State.checkPressed
  split
  · exact State.lostLaw_of_eq (s.readPicks_lost _) h
  · exact h

theorem State.attributePress_lostLaw (n a : Nat) (e : PressEvent) : (s.attributePress n a e).LostLaw := by
  have hc := State.checkPressed_lostLaw h n a e
  unfold State.attributePress
  dsimp only
  split
  · exact State.strayPress_lostLaw hc _ _ _ _ _ _
  · split
    · exact State.confirmPress_lostLaw hc _ _ _
    · exact State.adjustPress_lostLaw hc _ _ _ _ _

theorem State.hearPresses_lostLaw (n a : Nat) (k : ExchangeKind) (r : Reply) : (s.hearPresses n a k r).LostLaw := by
  have hd := State.lostLaw_of_eq (congrArg Journal.lost (s.restartDormancy_jw n a r)) h
  unfold State.hearPresses
  exact State.ite_lostLaw (foldl_lostLaw _ (fun _ e ht => State.attributePress_lostLaw ht n a e) _ _ hd) hd

theorem State.hearStatus_lostLaw (n a : Nat) (b : Bool) (r : Reply) : (s.hearStatus n a b r).LostLaw := by
  unfold State.hearStatus
  extract_lets was reported link present back full link
  have hr : reported.LostLaw := by
    unfold reported
    split
    · exact State.lostLaw_of_eq (State.displayReport_lost _ _ _ _) h
    · exact h
  have hb : back.LostLaw := State.ite_lostLaw (State.offerModule_lostLaw (s := present) hr _ _ _ _) hr
  have hf : full.LostLaw := State.ite_lostLaw (State.offerModule_lostLaw hb _ _ _ _) hb
  exact State.ite_lostLaw hf hf

theorem State.exchangeHeard_lostLaw (n a : Nat) (k : ExchangeKind) (w : Bool) (r : Reply) :
    (s.exchangeHeard n a k w r).LostLaw := by
  have hr : ((s.endLine n).handleReply n a k r).LostLaw :=
    State.hearStatus_lostLaw (State.hearPresses_lostLaw (s := s.endLine n) h n a k r) _ _ _ _
  have hw : (((s.endLine n).handleReply n a k r).sweepHeard n a k r).LostLaw := by
    unfold State.sweepHeard
    dsimp only
    split <;> exact hr
  unfold State.exchangeHeard
  exact State.kick_lostLaw (State.ite_lostLaw hw hr)

theorem State.becomeLost_lostLaw (n a : Nat) : (s.becomeLost n a).LostLaw := by
  unfold State.becomeLost
  exact State.offerModule_lostLaw (State.lostLaw_of_eq (by simp) h) n a _ _

theorem State.missHot_lostLaw (n a : Nat) (k : ExchangeKind) : (s.missHot n a k).LostLaw := by
  unfold State.missHot
  extract_lets m counted dropped
  have hd : dropped.LostLaw := by
    unfold dropped
    split
    · exact State.lostLaw_of_eq (State.dropPending_lost _ _ _) h
    · exact h
  split
  · exact State.becomeLost_lostLaw hd _ _
  · exact hd

theorem State.handleMiss_lostLaw (n a : Nat) (k : ExchangeKind) (w : Bool) : (s.handleMiss n a k w).LostLaw := by
  unfold State.handleMiss
  split
  · exact State.missHot_lostLaw h _ _ _
  · exact h

theorem State.exchangeMissed_lostLaw (n a : Nat) (k : ExchangeKind) (w : Bool) : (s.exchangeMissed n a k w).LostLaw := by
  have hm : ((s.endLine n).handleMiss n a k w).LostLaw := State.handleMiss_lostLaw (s := s.endLine n) h _ _ _ _
  have hw : (((s.endLine n).handleMiss n a k w).sweepMissed n a k).LostLaw := by
    unfold State.sweepMissed
    dsimp only
    split <;> exact hm
  unfold State.exchangeMissed
  exact State.kick_lostLaw (State.ite_lostLaw hw hm)

theorem State.feedLoses_lostLaw (n a : Nat) : (s.feedLoses n a).LostLaw :=
  State.offerModule_lostLaw (State.lostLaw_of_eq (State.reportLost_lost _ _ _) h) _ _ _ _

theorem State.takeFeedFault_lostLaw (n : Nat) : (s.takeFeedFault n).LostLaw := by
  have hc : ((s.dropInFlight n).feedCloses n).LostLaw :=
    State.lostLaw_of_eq ((State.feedCloses_lost _ _).trans (State.dropInFlight_lost _ _)) h
  refine State.lostLaw_of_eq (congrArg Journal.lost (State.raise_jw _ _)) ?_
  exact foldl_lostLaw _ (fun _ a ht => State.feedLoses_lostLaw ht n a) _ _ hc

theorem State.judgeFeed_lostLaw (n : Nat) : (s.judgeFeed n).LostLaw := by
  unfold State.judgeFeed
  dsimp only
  split
  · split
    · exact h
    · exact State.takeFeedFault_lostLaw h n
  · exact h

theorem State.goOverdue_lostLaw (i : Nat) : (s.goOverdue i).LostLaw := by
  unfold State.goOverdue
  split
  · split
    · exact State.offer_lostLaw _ h
    · exact h
  · exact h

end Offers

/-! ### The laws where the tables, the lanes or the lost count begin anew -/

@[simp] theorem State.goOverdue_frame (s : State) (i : Nat) : (s.goOverdue i).frame = s.frame := by
  unfold State.goOverdue
  repeat' split
  all_goals simp

theorem State.judgeFeed_keepsLaws (s : State) (n : Nat) : s.KeepsLaws (s.judgeFeed n) :=
  State.keepsLaws_of_frame (s.judgeFeed_frame n) fun h => State.judgeFeed_lostLaw h n

/-- Six lanes that are OFF keep the lane law (R9). -/
theorem laneLaw_off : pairwiseOk (fun (x y : Lane) => x.colour.isNone || x.colour != y.colour)
    (List.replicate 6 Lane.off) = true := by decide

theorem State.discardRun_laneLaw (s : State) (b : Bool) : (s.discardRun b).LaneLaw := ⟨rfl, laneLaw_off⟩

/-- The tables that CLEAR and the resets write have their sizes; the strings stand. -/
theorem State.discardRun_shape {s : State} (b : Bool) (h : s.Shape) : (s.discardRun b).Shape := by
  obtain ⟨-, -, -, -, -, hs, hm⟩ := h
  exact ⟨List.length_replicate, List.length_replicate, List.length_replicate, List.length_replicate, rfl, hs, hm⟩

theorem State.discardRun_keepsLaws (s : State) (b : Bool) : s.KeepsLaws (s.discardRun b) where
  shape := State.discardRun_shape b
  lane _ := s.discardRun_laneLaw b
  lost _ := Nat.zero_le _

/-- A change of every controller keeps the laws when it leaves each address table at 120 addresses. -/
theorem State.mapStrings_keepsLaws (s : State) (f : StringCtl → StringCtl)
    (h : ∀ x : StringCtl, x.modules.length = 120 → (f x).modules.length = 120) : s.KeepsLaws (s.mapStrings f) where
  shape hs := by
    obtain ⟨hp, hc, hw, hu, hl, hn, hm⟩ := hs
    refine ⟨hp, hc, hw, hu, hl, by simpa [State.mapStrings] using hn, fun y hy => ?_⟩
    obtain ⟨x, hx, rfl⟩ := List.mem_map.1 hy
    exact h x (hm x hx)
  lane := id
  lost := id

theorem StringCtl.clear_modules (x : StringCtl) : x.clear.modules = x.modules := by
  unfold StringCtl.clear
  split <;> rfl

theorem State.clearRun_keepsLaws (s : State) : s.KeepsLaws s.clearRun :=
  (State.keepsLaws_of_ground (s.setLrc_ground _)).trans <| (State.discardRun_keepsLaws _ true).trans <|
    (State.mapStrings_keepsLaws _ StringCtl.clear fun x hx => by rwa [x.clear_modules]).trans <|
      State.keepsLaws_of_ground (State.kick_ground _)

theorem State.resetAll_keepsLaws (s : State) (link soft : Bool) : s.KeepsLaws (s.resetAll link soft) :=
  (State.keepsLaws_of_ground (s.setLrc_ground _)).trans <| (State.discardRun_keepsLaws _ false).trans <|
    (State.keepsLaws_of_ground (State.setTiu_ground _ _)).trans <|
      (State.mapStrings_keepsLaws _ StringCtl.resetOff fun _ _ => List.length_replicate).trans <|
        State.keepsLaws_of_ground (State.kick_ground _)

theorem State.power_keepsLaws (s : State) : s.KeepsLaws s.power where
  shape hs := by
    obtain ⟨-, -, -, -, -, hn, -⟩ := hs
    refine ⟨List.length_replicate, List.length_replicate, List.length_replicate, List.length_replicate, rfl,
      (List.length_map _).trans hn, fun y hy => ?_⟩
    obtain ⟨x, -, rfl⟩ := List.mem_map.1 hy
    exact List.length_replicate
  lane _ := ⟨rfl, laneLaw_off⟩
  lost _ := Nat.zero_le _

theorem State.startBlocks_keepsLaws (s : State) (u : Setup) : s.KeepsLaws (s.startBlocks u) where
  shape hs := by
    obtain ⟨hp, hc, -, -, -, hn, hm⟩ := hs
    exact ⟨hp, hc, List.length_replicate, List.length_replicate, rfl, hn, hm⟩
  lane _ := ⟨rfl, laneLaw_off⟩
  lost _ := Nat.zero_le _

theorem StringCtl.bringUp_size (x : StringCtl) (u : Setup) (n : Nat) : (x.bringUp u n).modules.length = 120 := by
  unfold StringCtl.bringUp
  dsimp only
  repeat' split
  all_goals exact List.length_replicate

/-- A controller's write keeps the laws when its address table has 120 addresses. -/
theorem State.setString_keepsLaws (s : State) (n : Nat) (x : StringCtl) (h : x.modules.length = 120) :
    s.KeepsLaws (s.setString n x) where
  shape hs := by
    obtain ⟨hp, hc, hw, hu, hl, hn, hm⟩ := hs
    refine ⟨hp, hc, hw, hu, hl, by simpa [State.setString] using hn, fun y hy => ?_⟩
    obtain hy | rfl := List.mem_or_eq_of_mem_set hy
    · exact hm y hy
    · exact h
  lane := id
  lost := id

theorem State.startString_keepsLaws (u : Setup) (s : State) (n : Nat) : s.KeepsLaws (State.startString u s n) :=
  (s.setString_keepsLaws n _ (StringCtl.bringUp_size _ _ _)).trans (State.judgeFeed_keepsLaws _ _)

theorem State.eachString_keepsLaws (s : State) (f : State → Nat → State) (hf : ∀ (t : State) n, t.KeepsLaws (f t n)) :
    s.KeepsLaws (s.eachString f) :=
  (hf s 0).trans <| (hf _ 1).trans <| (hf _ 2).trans (hf _ 3)

theorem State.acceptStart_keepsLaws (s : State) (u : Setup) : s.KeepsLaws (s.acceptStart u) :=
  (s.startBlocks_keepsLaws u).trans <| (State.keepsLaws_of_ground (by simp)).trans <|
    (State.eachString_keepsLaws ((s.startBlocks u).partLine.judgeJournal false) _ (State.startString_keepsLaws u)).trans <|
      State.keepsLaws_of_ground (State.kick_ground _)

theorem State.judgeStart_keepsLaws (s : State) (h b : List Byte) : s.KeepsLaws (s.judgeStart h b) := by
  unfold State.judgeStart
  split
  · exact s.acceptStart_keepsLaws _
  · exact State.keepsLaws_of_ground (s.failStart_ground _)

/-! ### LANE-SETUP and the lane law -/

theorem pairwiseOk_iff {α : Type} (ok : α → α → Bool) (l : List α) :
    pairwiseOk ok l = true ↔ l.Pairwise fun x y => ok x y = true := by
  induction l with
  | nil => simp [pairwiseOk]
  | cons x xs ih => simp [pairwiseOk, ih]

/-- The lane law, lane by lane: no two lanes are OPEN with one colour. -/
theorem laneColours_iff (l : List Lane) :
    pairwiseOk (fun (x y : Lane) => x.colour.isNone || x.colour != y.colour) l = true ↔
      ∀ i j (hi : i < l.length) (hj : j < l.length), i ≠ j → ∀ c, l[i].colour = some c → l[j].colour ≠ some c := by
  rw [pairwiseOk_iff, List.pairwise_iff_getElem]
  constructor
  · intro h i j hi hj hij c hc hd
    rcases Nat.lt_or_gt_of_ne hij with hlt | hlt
    · simpa [hc, hd] using h i j hi hj hlt
    · simpa [hc, hd] using h j i hj hi hlt
  · intro h i j hi hj hij
    cases hc : l[i].colour with
    | none => rfl
    | some c => simpa using fun hd => h i j hi hj (Nat.ne_of_lt hij) c hc hd.symm

/-- A lane set OFF, or to a colour that no other lane has, keeps the lane law. -/
theorem laneColours_set {l : List Lane} {k : Nat} {x : Lane}
    (h : pairwiseOk (fun (x y : Lane) => x.colour.isNone || x.colour != y.colour) l = true)
    (hx : ∀ c, x.colour = some c → ∀ j (hj : j < l.length), j ≠ k → l[j].colour ≠ some c) :
    pairwiseOk (fun (x y : Lane) => x.colour.isNone || x.colour != y.colour) (l.set k x) = true := by
  rw [laneColours_iff] at h ⊢
  intro i j hi hj hij c
  rw [List.length_set] at hi hj
  rw [List.getElem_set, List.getElem_set]
  split
  · next hk =>
    subst hk
    rw [if_neg hij]
    exact fun hc => hx c hc j hj (Ne.symm hij)
  · next hk =>
    split
    · next hk' =>
      subst hk'
      exact fun hc hxc => hx c hxc i hi hij hc
    · exact h i j hi hj hij c

/-- The lane of a number in 1..6 stands at the place below it. -/
theorem State.lane_succ (s : State) {j : Nat} (hj : j < s.pm.lanes.length) : s.lane (j + 1) = s.pm.lanes[j] := by
  simp [State.lane, hj]

/-- A LANE-SETUP that passes its checks opens its lane with a colour that no other lane has (R11). -/
theorem State.colourFree_of_laneFault {s : State} {r : TaskRecord} (h : s.laneFault r = none) (hop : r.argByte 0 = 1)
    {m : Nat} (hm : 1 ≤ m ∧ m ≤ 6) (hne : m ≠ r.lane.toNat) : (s.lane m).colour ≠ some (r.argByte 1) := by
  have ht : s.colourTaken r.lane.toNat (r.argByte 1) = false := by
    unfold State.laneFault at h
    dsimp only at h
    split_ifs at h with _ _ ht
    simpa [hop] using ht
  simp only [State.colourTaken, List.any_eq_false] at ht
  have hmem : m ∈ [1, 2, 3, 4, 5, 6] := by
    simp only [List.mem_cons, List.not_mem_nil, or_false]
    omega
  simpa [hne] using ht m hmem

theorem State.laneInRange_of_laneFault {s : State} {r : TaskRecord} (h : s.laneFault r = none) :
    1 ≤ r.lane.toNat ∧ r.lane.toNat ≤ 6 := by
  by_contra hl
  simp [State.laneFault, laneInRange, hl] at h

theorem State.setupLane_keepsLaws (s : State) (r : TaskRecord) : s.KeepsLaws (s.setupLane r) := by
  unfold State.setupLane
  cases hf : s.laneFault r with
  | some c => exact State.keepsLaws_of_ground (s.refuse_ground r c)
  | none =>
    refine ⟨fun hs => ?_, fun ⟨hn, hc⟩ => ⟨by simpa using hn, laneColours_set hc fun c hx j hj hne => ?_⟩, id⟩
    · obtain ⟨hp, hcs, hw, hu, hl, hrest⟩ := hs
      exact ⟨hp, hcs, hw, hu, by simpa using hl, hrest⟩
    · have hl := State.laneInRange_of_laneFault hf
      obtain ⟨hop, rfl⟩ : r.argByte 0 = 1 ∧ r.argByte 1 = c := by simpa using hx
      rw [← s.lane_succ hj]
      exact State.colourFree_of_laneFault hf hop (by omega) (by omega)

/-! ### The other commands -/

theorem State.census_keepsLaws (s : State) (r : TaskRecord) : s.KeepsLaws (s.census r) := by
  unfold State.census
  dsimp only
  split
  · exact State.keepsLaws_of_ground (s.refuse_ground r _)
  split
  · exact State.keepsLaws_of_ground (s.refuse_ground r _)
  split
  · have hsettling := s.reserve.setString_ground (r.argByte 0) ((s.stringAt (r.argByte 0)).enterSettling .census) rfl
    exact (State.keepsLaws_of_ground (hsettling.trans s.reserve_ground)).trans (State.judgeFeed_keepsLaws _ _)
  split
  · exact State.keepsLaws_of_ground (s.refuse_ground r _)
  · exact State.keepsLaws_of_ground ((s.reserve.setString_ground _ (StringCtl.enterSurvey _ _ _) rfl).trans s.reserve_ground)

/-- A directive keeps the laws when its act does: the consumption keeps the ground. -/
theorem State.directive_keepsLaws (s : State) (k : TaskKind) (room : Bool) (act : State → TaskRecord → State)
    (h : ∀ r, s.KeepsLaws (act s r)) : s.KeepsLaws (s.directive k room act) := by
  unfold State.directive
  split
  · split
    · split
      · exact (h _).trans (State.keepsLaws_of_ground (State.consumed_ground _))
      · exact State.keepsLaws_of_ground s.startRecordFetch_ground
    · exact State.keepsLaws_of_ground rfl
  · exact State.keepsLaws_of_ground rfl

theorem State.exchangeMissed_keepsLaws (s : State) (n a : Nat) (k : ExchangeKind) (w : Bool) :
    s.KeepsLaws (s.checkContexts.exchangeMissed n a k w) :=
  (State.keepsLaws_of_ground s.checkContexts_ground).trans <|
    State.keepsLaws_of_frame (State.exchangeMissed_frame _ n a k w) fun h => State.exchangeMissed_lostLaw h n a k w

theorem State.moduleReply_keepsLaws (s : State) (n : Nat) (f : List Byte) : s.KeepsLaws (s.moduleReply n f) := by
  unfold State.moduleReply
  split
  · next a k w _ =>
    split
    · next r _ =>
      exact (State.keepsLaws_of_ground s.checkContexts_ground).trans <|
        (State.keepsLaws_of_frame (State.exchangeHeard_frame _ n a k w r) fun h =>
          State.exchangeHeard_lostLaw h n a k w r).trans <| State.keepsLaws_of_ground (State.reoffer_ground _ _)
    · exact s.exchangeMissed_keepsLaws n a k w
  · exact State.keepsLaws_of_ground rfl

theorem State.exchangeMiss_keepsLaws (s : State) (n : Nat) : s.KeepsLaws (s.exchangeMiss n) := by
  unfold State.exchangeMiss
  split
  · exact s.exchangeMissed_keepsLaws _ _ _ _
  · exact State.keepsLaws_of_ground rfl

theorem State.feedInput_keepsLaws (s : State) (n : Nat) (b : Bool) : s.KeepsLaws (s.feedInput n b) :=
  (State.keepsLaws_of_ground ((State.setString_ground s.checkContexts n
    { s.checkContexts.stringAt n with feedFaultInput := b } rfl).trans s.checkContexts_ground)).trans <|
    (State.judgeFeed_keepsLaws _ _).trans <| State.keepsLaws_of_ground (State.kick_ground _)

theorem State.goOverdue_keepsLaws (s : State) (i : Nat) : s.KeepsLaws (s.goOverdue i) :=
  State.keepsLaws_of_frame (s.goOverdue_frame i) fun h => State.goOverdue_lostLaw h i

/-- An advisory written carries the lost count away (R154). -/
theorem State.writeAdvisory_keepsLaws (s : State) (u : Setup) (r : OutcomeRecord) : s.KeepsLaws (s.writeAdvisory u r) := by
  have h : s.KeepsLaws ((s.writeRecord u (r.bytes s.jw.lost)).setJw
      { (s.writeRecord u (r.bytes s.jw.lost)).jw with lost := 0 }) :=
    (State.keepsLaws_of_ground (s.writeRecord_ground u _)).trans ⟨id, id, fun _ => Nat.zero_le _⟩
  exact h.trans (State.keepsLaws_of_ground (State.closeBlock_ground _ _ _))

theorem State.writeOldest_keepsLaws (s : State) : s.KeepsLaws s.writeOldest := by
  unfold State.writeOldest
  split
  · exact State.keepsLaws_of_ground (s.writePick_ground _ _)
  · exact s.writeAdvisory_keepsLaws _ _
  · exact State.keepsLaws_of_ground rfl

/-! ### The millisecond -/

theorem State.strike_ground (s : State) (x : Strike) : (s.strike x).ground = s.ground := by
  cases x <;> simp [State.strike, State.ground]

theorem State.sweepOn_ground (s : State) : s.sweepOn.ground = s.ground := by
  unfold State.sweepOn
  dsimp only
  split <;> simp

theorem State.countRun_ground (s : State) : s.countRun.ground = s.ground := by
  unfold State.countRun
  split <;> simp [State.ground]

theorem State.countClock_ground (s : State) : s.countClock.ground = s.ground := by
  unfold State.countClock
  split
  · exact (State.setJw_ground _ _ rfl).trans (s.setLrc_ground _)
  · rfl

theorem State.countReads_ground (s : State) : s.countReads.ground = s.ground :=
  State.setAc_ground _ _ rfl rfl

theorem State.tick_keepsLaws (s : State) : s.KeepsLaws s.tick := by
  have h : ((s.countRun.countClock.countReads.mapStrings StringCtl.count).sweepOn.strikes).ground = s.ground := by
    rw [State.strikes, foldl_ground _ State.strike_ground, State.sweepOn_ground,
      State.mapStrings_ground _ StringCtl.count fun _ => rfl, State.countReads_ground, State.countClock_ground, State.countRun_ground]
  exact State.keepsLaws_of_ground h

/-! ### Every command, and the step -/

/-- The laws of `s` hold of the next state that a command answers, where it answers one. -/
def State.AnswerKeeps (s : State) (r : Result) : Prop := ∀ u, r = .next u → s.KeepsLaws u

theorem State.answerKeeps_next {s t : State} (h : s.KeepsLaws t) : s.AnswerKeeps (.next t) := by
  rintro u ⟨⟩
  exact h

theorem State.answerKeeps_attempt {s t : State} (b : Bool) (h : s.KeepsLaws t) : s.AnswerKeeps (attempt b s t) := by
  cases b
  · exact State.answerKeeps_next (State.keepsLaws_of_ground rfl)
  · exact State.answerKeeps_next h

theorem State.answerKeeps_action {s t : State} (b : Bool) (h : s.KeepsLaws t) : s.AnswerKeeps (action b s t) := by
  cases b
  · exact State.answerKeeps_next (State.keepsLaws_of_ground rfl)
  · exact State.answerKeeps_next h

theorem State.answerKeeps_wellFormed {s : State} {r : Result} (i : Instr) (h : s.AnswerKeeps r) :
    s.AnswerKeeps (wellFormed i r) := by
  unfold wellFormed
  split
  · exact h
  · exact fun u hu => nomatch hu

/-- Every command keeps the sizes, the lane law and the lost count's limit. -/
theorem exec_keepsLaws (c : Instr) (s : State) : s.AnswerKeeps (exec c s) := by
  cases c with
  | powerOn => exact State.answerKeeps_next s.power_keepsLaws
  | linkReset => exact State.answerKeeps_next (s.resetAll_keepsLaws _ _)
  | sweepDone => exact State.answerKeeps_attempt _ (State.keepsLaws_of_ground (by simp))
  | start => exact State.answerKeeps_action _ (State.keepsLaws_of_ground s.issueStart_ground)
  | halt => exact State.answerKeeps_action _ (State.keepsLaws_of_ground (by simp))
  | resume => exact State.answerKeeps_action _ (State.keepsLaws_of_ground (by simp))
  | clear => exact State.answerKeeps_action _ s.clearRun_keepsLaws
  | reset => exact State.answerKeeps_next (s.resetAll_keepsLaws _ _)
  | prompt => exact State.answerKeeps_action _ (State.keepsLaws_of_ground s.prompt_ground)
  | actionOutOfRange v => exact State.answerKeeps_wellFormed _ (State.answerKeeps_next (State.keepsLaws_of_ground rfl))
  | exbaseWrite hi v => exact State.answerKeeps_action _ (State.keepsLaws_of_ground (by cases hi <;> rfl))
  | noticeWrite v => exact State.answerKeeps_next (State.keepsLaws_of_ground (by simp [State.writeNotice]))
  | noticeMaskWrite v => exact State.answerKeeps_next (State.keepsLaws_of_ground (s.setNotices_ground _ _))
  | faultWhereWrite v => exact State.answerKeeps_next (State.keepsLaws_of_ground rfl)
  | stateRead => exact State.answerKeeps_next (State.keepsLaws_of_ground rfl)
  | registerWriteIgnored o v =>
    exact State.answerKeeps_wellFormed _ (State.answerKeeps_next (State.keepsLaws_of_ground rfl))
  | startReadArrival h b =>
    exact State.answerKeeps_wellFormed _ (State.answerKeeps_attempt _ (s.judgeStart_keepsLaws h b))
  | linkReadError r =>
    cases r with
    | voided place => exact State.answerKeeps_next (State.keepsLaws_of_ground rfl)
    | _ => exact State.answerKeeps_next (State.keepsLaws_of_ground (s.failAt_ground _ 0))
  | linkReadTimeout r => exact State.answerKeeps_next (State.keepsLaws_of_ground (s.failAt_ground r 50))
  | voidedReadArrival place => exact State.answerKeeps_next (State.keepsLaws_of_ground (s.discardVoided_ground place))
  | headerPollIssue => exact State.answerKeeps_attempt _ (State.keepsLaws_of_ground s.issuePoll_ground)
  | headerPollArrival h =>
    exact State.answerKeeps_wellFormed _ (State.answerKeeps_attempt _ (State.keepsLaws_of_ground (s.pollArrives_ground h)))
  | recordFetchArrival d =>
    exact State.answerKeeps_wellFormed _ (State.answerKeeps_attempt _ (State.keepsLaws_of_ground (by simp)))
  | atlasDemandArrival e =>
    exact State.answerKeeps_wellFormed _ (State.answerKeeps_attempt _ (State.keepsLaws_of_ground (by simp)))
  | atlasLookaheadArrival e =>
    exact State.answerKeeps_wellFormed _ (State.answerKeeps_attempt _ (State.keepsLaws_of_ground (by simp)))
  | pick => exact State.answerKeeps_next (State.keepsLaws_of_ground s.headPick_ground)
  | qualifier => exact State.answerKeeps_next (State.keepsLaws_of_ground s.headQualifier_ground)
  | cancel => exact State.answerKeeps_next (s.directive_keepsLaws _ _ _ fun r => State.keepsLaws_of_ground (by simp))
  | amend => exact State.answerKeeps_next (s.directive_keepsLaws _ _ _ fun r => State.keepsLaws_of_ground (by simp))
  | laneSetup =>
    exact State.answerKeeps_next (s.directive_keepsLaws _ _ _ fun r =>
      (State.keepsLaws_of_ground s.checkTables_ground).trans (State.setupLane_keepsLaws _ r))
  | atlasDrop => exact State.answerKeeps_next (s.directive_keepsLaws _ _ _ fun r => State.keepsLaws_of_ground (by simp))
  | fence => exact State.answerKeeps_next (s.directive_keepsLaws _ _ _ fun r => State.keepsLaws_of_ground (by simp))
  | lightTest => exact State.answerKeeps_next (s.directive_keepsLaws _ _ _ fun r => State.keepsLaws_of_ground (by simp))
  | census =>
    exact State.answerKeeps_next (s.directive_keepsLaws _ _ _ fun r =>
      (State.keepsLaws_of_ground s.checkContexts_ground).trans (State.census_keepsLaws _ r))
  | skip => exact State.answerKeeps_next (s.directive_keepsLaws _ _ _ fun r => State.keepsLaws_of_ground (by simp))
  | unknownKind => exact State.answerKeeps_next (s.directive_keepsLaws _ _ _ fun r => State.keepsLaws_of_ground (by simp))
  | moduleReply n f => exact State.answerKeeps_next (s.moduleReply_keepsLaws n f)
  | exchangeMiss n => exact State.answerKeeps_next (s.exchangeMiss_keepsLaws n)
  | broadcastEnd n => exact State.answerKeeps_next (State.keepsLaws_of_ground (s.broadcastEnd_ground n))
  | settlingEnd n =>
    exact State.answerKeeps_attempt _ (State.keepsLaws_of_ground (s.stringEvent_ground n _ fun x => rfl))
  | lightTestEnd n =>
    exact State.answerKeeps_attempt _ (State.keepsLaws_of_ground (s.stringEvent_ground n _ fun x => rfl))
  | quietPeriod n =>
    exact State.answerKeeps_attempt _ (State.keepsLaws_of_ground (s.stringEvent_ground n _ fun x => rfl))
  | dormancyTimeout n =>
    exact State.answerKeeps_attempt _ (State.keepsLaws_of_ground (s.stringEvent_ground n _ fun x => rfl))
  | attentionWake n low =>
    exact State.answerKeeps_next (State.keepsLaws_of_ground (s.stringEvent_ground n _ fun x => x.attend_modules low))
  | feedFault n b => exact State.answerKeeps_next (s.feedInput_keepsLaws n b)
  | abandonTimeout i =>
    exact State.answerKeeps_wellFormed _ (State.answerKeeps_attempt _
      ((State.keepsLaws_of_ground (by simp)).trans <| (State.goOverdue_keepsLaws (s.checkContexts.checkPick i) i).trans <|
        State.keepsLaws_of_ground (State.kick_ground _)))
  | lingerExpiry ci n =>
    exact State.answerKeeps_wellFormed _ (State.answerKeeps_attempt _ (State.keepsLaws_of_ground (by simp)))
  | pinTimeout ci =>
    exact State.answerKeeps_wellFormed _ (State.answerKeeps_attempt _ (State.keepsLaws_of_ground (by simp)))
  | sealTimeout => exact State.answerKeeps_attempt _ (State.keepsLaws_of_ground s.sealBlock_ground)
  | journalWrite => exact State.answerKeeps_attempt _ s.writeOldest_keepsLaws

/-- Every step keeps the sizes, the lane law and the lost count's limit: the queue is no part of them. -/
theorem step_keepsLaws {s t : State} (h : step s = .next t) : s.KeepsLaws t := by
  unfold step at h
  split at h
  · next c rest _ =>
    have hrest : s.KeepsLaws { s with pending := rest } := State.keepsLaws_of_ground rfl
    exact hrest.trans (exec_keepsLaws c _ t h)
  · cases h
    exact s.tick_keepsLaws

/-- Settles O57: every command and the idle step keep the three laws, operation by operation. -/
theorem stepsKeepSizesLanesAndTheLostCount : Obligations.StepsKeepSizesLanesAndTheLostCount := by
  unfold Obligations.StepsKeepSizesLanesAndTheLostCount
  intro s t h
  obtain ⟨hshape, hlane, hlost⟩ := step_keepsLaws h
  exact ⟨hshape, hlane, hlost⟩

end Sys2Proof.Machine
end

section
/-! Proofs of the family of 01 (picks, lanes and the pick table), second part: what the consumption of the head does to the intake and
to the report list, and LANE-SETUP (O36). -/

namespace Sys2Proof.Machine

/-! ### What the lines append to the report list -/

/-- Nothing but closing advisories of strings joins the report list behind these items, over two stretches of work. -/
theorem State.Reported.trans {s t u : State} {items : List Item} (h : s.Reported t items) (k : t.Reported u []) :
    s.Reported u items := by
  obtain ⟨more, ht, hm⟩ := h
  obtain ⟨rest, hu, hr⟩ := k
  exact ⟨more ++ rest, by simp [hu, ht], fun x hx => (List.mem_append.1 hx).elim (hm x) (hr x)⟩

theorem State.reported_of_jw {s t : State} (h : t.jw = s.jw) : s.Reported t [] := ⟨[], by simp [h], by simp⟩

/-- A closing advisory of a light test or a census that is offered is one of a string. -/
theorem State.offerString_reported (s : State) (n : Nat) {k : RecordKind} (hk : k = .testDone ∨ k = .censusDone) (c : Cause)
    (m : Nat) : s.Reported (s.offerString n k c m) [] := by
  unfold State.offerString
  split
  · refine ⟨_, by simp [State.offerClosing, State.appendItem]; rfl, ?_⟩
    rcases hk with rfl | rfl <;> simp [Item.closesString, State.advisory]
  · exact State.reported_of_jw rfl

theorem State.closeSurvey_reported (s : State) (n m : Nat) : s.Reported (s.closeSurvey n m) [] := by
  unfold State.closeSurvey
  split
  · exact s.offerString_reported n (.inr rfl) _ _
  · exact s.offerString_reported n (.inl rfl) _ _
  · exact State.reported_of_jw rfl

theorem State.endSweep_reported (s : State) (n : Nat) : s.Reported (s.endSweep n) [] := by
  unfold State.endSweep
  dsimp only
  split
  · split
    · split
      · exact (s.closeSurvey_reported n _).trans (State.reported_of_jw rfl)
      · exact State.reported_of_jw rfl
      · exact State.reported_of_jw rfl
    · exact State.reported_of_jw rfl
  · exact State.reported_of_jw rfl

theorem State.runLine_reported (s : State) (n : Nat) : s.Reported (s.runLine n) [] := by
  have hm : s.Reported (s.settleMode n) [] := State.reported_of_jw (s.settleMode_jw n)
  unfold State.runLine
  dsimp only
  split
  · split
    · exact hm.trans (State.reported_of_jw rfl)
    · exact (hm.trans (State.endSweep_reported _ n)).trans (State.reported_of_jw (State.turn_jw _ n))
  · exact hm

/-- The lines, taken up, append closing advisories of strings and nothing else (R152). -/
theorem State.kick_reported (s : State) : s.Reported s.kick [] := by
  simp only [State.kick, State.eachString, List.foldl]
  exact (((s.runLine_reported 0).trans (State.runLine_reported _ 1)).trans (State.runLine_reported _ 2)).trans
    (State.runLine_reported _ 3)

/-! ### The consumption of the head -/

/-- The consumption of the head takes one record off the queue and counts it (R134). -/
theorem State.consumeHead_iu (s : State) :
    s.consumeHead.iu = { s.iu with queue := s.iu.queue.tail, taken := s.iu.taken + 1, consumed := true } := by
  unfold State.consumeHead
  dsimp only
  split <;> simp

@[simp] theorem State.consumeHead_pm (s : State) : s.consumeHead.pm = s.pm := by
  unfold State.consumeHead
  dsimp only
  split <;> simp

@[simp] theorem State.consumeHead_jw (s : State) : s.consumeHead.jw = s.jw := by
  unfold State.consumeHead
  dsimp only
  split <;> simp

@[simp] theorem State.consumeHead_lasting (s : State) : s.consumeHead.lasting = s.lasting := by
  unfold State.consumeHead
  dsimp only
  split <;> simp [State.lasting, State.cores]

/-- Work that leaves the outside leaves contexts and strings. -/
theorem State.lasting_of_outside {s t : State} (h : t.outside = s.outside) : t.lasting = s.lasting := by
  simp [State.lasting, State.cores, State.contexts_of_outside h, State.strings_of_outside h]

@[simp] theorem State.consumed_pm (s : State) : s.consumed.pm = s.pm := by
  rw [State.consumed, State.kick_pm, State.pm_of_outside (State.afterHead_outside _), State.consumeHead_pm]

@[simp] theorem State.consumed_qualifiers (s : State) : s.consumed.iu.qualifiers = s.iu.qualifiers := by
  rw [State.consumed, State.kick_iu, State.qualifiers_of_outside (State.afterHead_outside _), State.consumeHead_iu]

@[simp] theorem State.consumed_lasting (s : State) : s.consumed.lasting = s.lasting := by
  rw [State.consumed, State.kick_lasting, State.lasting_of_outside (State.afterHead_outside _), State.consumeHead_lasting]

/-- A consumption takes the head of the queue as it stood, whatever was done to the other blocks before it (R134). -/
theorem State.took_consumed {s t : State} (hq : t.iu.queue = s.iu.queue) (ht : t.iu.taken = s.iu.taken) :
    s.Took t.consumed := by
  have h := State.afterHead_outside t.consumeHead
  have hc : t.consumeHead.afterHead.iu.consumed = t.consumeHead.iu.consumed := congrArg Outside.consumed h
  refine ⟨?_, ?_, ?_⟩
  · rw [State.consumed, State.kick_iu, State.queue_of_outside h, State.consumeHead_iu, hq]
  · rw [State.consumed, State.kick_iu, State.taken_of_outside h, State.consumeHead_iu, ht]
  · rw [State.consumed, State.kick_iu, hc, State.consumeHead_iu]

/-- What a consumption sets off appends closing advisories of strings and nothing else. -/
theorem State.consumed_reported (s : State) : s.Reported s.consumed [] := by
  have h : s.Reported s.consumeHead.afterHead [] :=
    State.reported_of_jw ((State.jw_of_outside (State.afterHead_outside _)).trans s.consumeHead_jw)
  exact h.trans (State.kick_reported _)

/-! ### Directives -/

theorem State.headIs_of_HeadIs {s : State} {r : TaskRecord} {k : TaskKind} (h : s.HeadIs r k) : s.headIs k = true := by
  obtain ⟨hrun, hhead, htask⟩ := h
  simp [State.headIs, hrun, hhead, htask]

/-- A directive at the head with a spare advisory entry and its own room acts and is consumed (R136). -/
theorem State.directive_of_ready {s : State} {r : TaskRecord} {k : TaskKind} (h : s.HeadIs r k) (hs : 0 < s.jw.spare)
    (act : State → TaskRecord → State) : s.directive k true act = (act s r).consumed := by
  have hk := State.headIs_of_HeadIs h
  obtain ⟨-, hhead, -⟩ := h
  simp [State.directive, hhead, hk, hs]

/-- A refused directive is consumed with its advisory on the report list; the pick table stands (R137). -/
theorem State.refuse_consumed (s : State) (r : TaskRecord) (cause : Cause) :
    s.Took (s.refuse r cause).consumed ∧ (s.refuse r cause).consumed.pm = s.pm ∧
      s.Reported (s.refuse r cause).consumed [.advisory (s.refusal r cause)] := by
  have hr : s.Reported (s.refuse r cause) [.advisory (s.refusal r cause)] :=
    ⟨[], by simp [State.refuse, State.offerAssured, State.appendItem], by simp⟩
  exact ⟨State.took_consumed rfl rfl, State.consumed_pm _, hr.trans (State.consumed_reported _)⟩

/-! ### LANE-SETUP -/

theorem TaskRecord.argByte_zero (r : TaskRecord) : r.argByte 0 = r.arg1.toNat % 256 := by simp [TaskRecord.argByte]
theorem TaskRecord.argByte_one (r : TaskRecord) : r.argByte 1 = r.arg1.toNat / 256 % 256 := by simp [TaskRecord.argByte]
theorem TaskRecord.argByte_two (r : TaskRecord) : r.argByte 2 = r.arg1.toNat / 65536 % 256 := by simp [TaskRecord.argByte]

/-- The highest byte of argument word 1: the word has 32 bits. -/
theorem TaskRecord.argByte_three (r : TaskRecord) : r.argByte 3 = r.arg1.toNat / 16777216 := by
  have h := r.arg1.isLt
  unfold TaskRecord.argByte
  omega

theorem Pick.live_iff (p : Pick) : p.live = true ↔ ∀ o, p.stage ≠ .reporting o := by
  unfold Pick.live
  split
  · next o h => simp [h]
  · next h => simpa using h

/-- A lane is busy while a pick of it is not REPORTING (R11). -/
theorem State.laneBusy_iff (s : State) (l : Nat) :
    s.laneBusy l = true ↔ ∃ e ∈ s.pm.entries, ∃ p, e.pick = some p ∧ p.lane = l ∧ ∀ o, p.stage ≠ .reporting o := by
  simp only [State.laneBusy, List.any_eq_true]
  refine exists_congr fun e => and_congr_right fun _ => ?_
  cases e.pick with
  | none => simp
  | some p => simp [Pick.live_iff]

/-- A colour is taken when another of the six lanes has it (R11). -/
theorem State.colourTaken_iff (s : State) (l colour : Nat) :
    s.colourTaken l colour = true ↔ ∃ m, 1 ≤ m ∧ m ≤ 6 ∧ m ≠ l ∧ (s.lane m).colour = some colour := by
  simp only [State.colourTaken, List.any_eq_true, Bool.and_eq_true, bne_iff_ne, beq_iff_eq]
  refine exists_congr fun m => ?_
  have hm : m ∈ [1, 2, 3, 4, 5, 6] ↔ 1 ≤ m ∧ m ≤ 6 := by
    simp only [List.mem_cons, List.not_mem_nil, or_false]
    omega
  rw [hm, and_assoc]

section LaneSetup

variable (s : State) (r : TaskRecord)

/-- The arguments of a LANE-SETUP that are out of range (R143). -/
def TaskRecord.badLane (r : TaskRecord) : Prop :=
  r.lane.toNat = 0 ∨ 6 < r.lane.toNat ∨ 1 < r.argByte 0 ∨ (r.argByte 0 = 1 ∧ (r.argByte 1 = 0 ∨ 7 < r.argByte 1)) ∨
    120 < r.argByte 2 ∨ 60 < r.argByte 3

/-- A busy lane is not to be set OFF or to another colour (R11). -/
def State.busyLane (s : State) (r : TaskRecord) : Prop :=
  s.laneBusy r.lane.toNat = true ∧
    (r.argByte 0 = 0 ∨ (r.argByte 0 = 1 ∧ (s.lane r.lane.toNat).colour ≠ some (r.argByte 1)))

/-- The colour asked for is another lane's (R11). -/
def State.takenLane (s : State) (r : TaskRecord) : Prop :=
  r.argByte 0 = 1 ∧ s.colourTaken r.lane.toNat (r.argByte 1) = true

theorem TaskRecord.badLane_iff : r.badLane ↔
    (!laneInRange r.lane.toNat || decide (1 < r.argByte 0) ||
      (r.argByte 0 == 1 && !decide (1 ≤ r.argByte 1 ∧ r.argByte 1 ≤ 7)) ||
      decide (120 < r.argByte 2) || decide (60 < r.argByte 3)) = true := by
  simp only [TaskRecord.badLane, laneInRange, Bool.or_eq_true, Bool.and_eq_true, Bool.not_eq_true', decide_eq_true_eq,
    decide_eq_false_iff_not, beq_iff_eq]
  omega

/-- LANE-SETUP's checks, in the order of R11. -/
theorem State.laneFault_of_bad (h : r.badLane) : s.laneFault r = some .badArgument :=
  if_pos (r.badLane_iff.1 h)

theorem State.laneFault_of_busy (h : ¬r.badLane) (hb : s.busyLane r) : s.laneFault r = some .laneBusy := by
  refine (if_neg (mt r.badLane_iff.2 h)).trans (if_pos ?_)
  obtain ⟨hbusy, hzero | ⟨hone, hcolour⟩⟩ := hb
  · simp [hbusy, hzero]
  · simp [hbusy, hcolour]

/-- A lane that is free for the change passes the second check: the target is 0 or 1. -/
theorem State.not_busy (h : ¬r.badLane) (hb : ¬s.busyLane r) :
    ¬(s.laneBusy r.lane.toNat && !(r.argByte 0 == 1 && (s.lane r.lane.toNat).colour == some (r.argByte 1))) = true := by
  have ht : r.argByte 0 = 0 ∨ r.argByte 0 = 1 := by
    unfold TaskRecord.badLane at h
    omega
  intro hc
  simp only [Bool.and_eq_true, Bool.not_eq_true', Bool.and_eq_false_iff, beq_eq_false_iff_ne] at hc
  obtain ⟨hbusy, hkeep⟩ := hc
  refine hb ⟨hbusy, ht.imp_right fun hone => ⟨hone, ?_⟩⟩
  exact hkeep.resolve_left (not_not.2 hone)

theorem State.laneFault_of_taken (h : ¬r.badLane) (hb : ¬s.busyLane r) (ht : s.takenLane r) :
    s.laneFault r = some .colourTaken := by
  refine (if_neg (mt r.badLane_iff.2 h)).trans ((if_neg (s.not_busy r h hb)).trans (if_pos ?_))
  obtain ⟨hone, htaken⟩ := ht
  simp [hone, htaken]

theorem State.laneFault_of_free (h : ¬r.badLane) (hb : ¬s.busyLane r) (ht : ¬s.takenLane r) : s.laneFault r = none := by
  refine (if_neg (mt r.badLane_iff.2 h)).trans ((if_neg (s.not_busy r h hb)).trans (if_neg fun hc => ht ?_))
  simpa [State.takenLane] using hc

end LaneSetup

/-- Settles O36: the checks of LANE-SETUP are those of State.laneFault, and the consumption leaves the pick table as the directive
left it. -/
theorem laneSetupIsCheckedInOrder : Obligations.LaneSetupIsCheckedInOrder := by
  unfold Obligations.LaneSetupIsCheckedInOrder
  intro s r hi _ hs hh l target colour linger abandon bad live busy lane taken refused
  have hexec : exec .laneSetup s = .next (s.setupLane r).consumed := by
    have hd := State.directive_of_ready hh hs fun t q => t.checkTables.setupLane q
    rw [s.checkTables_of_intact hi] at hd
    exact congrArg Host.Outcome.next hd
  have hbad : bad ↔ r.badLane := by
    unfold bad TaskRecord.badLane
    rw [r.argByte_zero, r.argByte_one, r.argByte_two, r.argByte_three]
  have hbusy : busy ↔ s.busyLane r := by
    unfold busy live State.busyLane
    rw [r.argByte_zero, r.argByte_one, s.laneBusy_iff]
  have htaken : taken ↔ s.takenLane r := by
    unfold taken State.takenLane
    rw [r.argByte_zero, r.argByte_one, s.colourTaken_iff]
  have hrefused (cause : Cause) (hf : s.laneFault r = some cause) : refused cause :=
    ⟨(s.refuse r cause).consumed, by rw [hexec, State.setupLane, hf], s.refuse_consumed r cause⟩
  rw [hbad, hbusy, htaken]
  refine ⟨fun h => hrefused _ (s.laneFault_of_bad r h), fun h hb => hrefused _ (s.laneFault_of_busy r h hb),
    fun h hb ht => hrefused _ (s.laneFault_of_taken r h hb ht), fun h hb ht => ⟨_, hexec, ?_, ?_⟩⟩
  all_goals rw [State.setupLane, s.laneFault_of_free r h hb ht]
  · exact State.took_consumed rfl rfl
  · rw [State.consumed_pm, State.setPm_pm, r.argByte_zero, r.argByte_one, r.argByte_two, r.argByte_three]
    simp [lane, l, target, colour, linger, abandon]

end Sys2Proof.Machine
end

section
/-! Proofs of the family of 01 (picks, lanes and the pick table), third part: the consumption of a PICK, with its atlas fields or with
none (O29). -/

namespace Sys2Proof.Machine

/-! ### The lowest-numbered entry that passes a test -/

theorem firstFrom_eq_none {α : Type} (test : α → Bool) (n : Nat) (l : List α) (h : ∀ x ∈ l, test x = false) :
    firstFrom test n l = none := by
  induction l generalizing n with
  | nil => rfl
  | cons x xs ih =>
    simp only [firstFrom, h x List.mem_cons_self, Bool.false_eq_true, if_false]
    exact ih _ fun y hy => h y (List.mem_cons_of_mem _ hy)

/-- The place of the first element that passes the test, counted from `n`. -/
theorem firstFrom_eq_some {α : Type} (test : α → Bool) (n : Nat) (l : List α) (i : Nat) (hi : i < l.length)
    (h : test l[i] = true) (hl : ∀ j (hj : j < i), test l[j] = false) : firstFrom test n l = some (n + i) := by
  induction l generalizing n i with
  | nil => exact absurd hi (Nat.not_lt_zero i)
  | cons x xs ih =>
    cases i with
    | zero => simp [firstFrom, show test x = true from h]
    | succ i =>
      have hx : test x = false := hl 0 (Nat.succ_pos i)
      have := ih (n + 1) i (Nat.lt_of_succ_lt_succ hi) h fun j hj => hl (j + 1) (Nat.succ_lt_succ hj)
      simp only [firstFrom, hx, Bool.false_eq_true, if_false, this]
      congr 1
      omega

/-- The place that a search answers lies in the list, and its element passes the test. -/
theorem firstFrom_spec {α : Type} {test : α → Bool} {n : Nat} {l : List α} {i : Nat} (h : firstFrom test n l = some i) :
    ∃ j x, i = n + j ∧ l[j]? = some x ∧ test x = true := by
  induction l generalizing n with
  | nil => cases h
  | cons x xs ih =>
    unfold firstFrom at h
    split at h
    · next hx => exact ⟨0, x, (Option.some.inj h).symm, rfl, hx⟩
    · obtain ⟨j, y, rfl, hy, ht⟩ := ih h
      exact ⟨j + 1, y, by omega, by simpa using hy, ht⟩

theorem State.pickAt_eq (s : State) {i : Nat} (h : i < s.pm.entries.length) : s.pickAt i = s.pm.entries[i].pick := by
  simp [State.pickAt, h]

theorem State.pickAt_of_pm {s t : State} (h : t.pm = s.pm) (i : Nat) : t.pickAt i = s.pickAt i := by
  simp [State.pickAt, h]

/-- The lowest-numbered FREE entry, read off the table (R1). -/
theorem State.lowestFree_eq_some {s : State} {i : Nat} (hi : i < s.pm.entries.length) (h : s.pickAt i = none)
    (hl : ∀ j < i, s.pickAt j ≠ none) : s.lowestFree = some i := by
  have hf := firstFrom_eq_some (fun e : PickEntry => e.pick.isNone) 0 s.pm.entries i hi
    (by simpa [s.pickAt_eq hi] using h) fun j hj => by
      have := hl j hj
      rw [s.pickAt_eq (Nat.lt_trans hj hi)] at this
      simpa using Option.isSome_iff_ne_none.2 this
  rwa [Nat.zero_add] at hf

theorem State.lowestFree_eq_none {s : State} (h : ∀ i < s.pm.entries.length, s.pickAt i ≠ none) : s.lowestFree = none := by
  refine firstFrom_eq_none _ _ _ fun e he => ?_
  obtain ⟨i, hi, rfl⟩ := List.mem_iff_getElem.1 he
  have := h i hi
  rw [s.pickAt_eq hi] at this
  simpa using Option.isSome_iff_ne_none.2 this

/-- A free context entry lies in the table. -/
theorem State.lt_of_lowestFreeContext {s : State} {ci : Nat} (h : s.lowestFreeContext = some ci) : ci < s.contexts.length := by
  obtain ⟨j, x, rfl, hx, -⟩ := firstFrom_spec h
  obtain ⟨hj, -⟩ := List.getElem?_eq_some_iff.1 hx
  simpa using hj

/-- An entry in use lies in the table. -/
theorem State.lt_of_contextAt {s : State} {ci : Nat} {c : Context} (h : s.contextAt ci = some c) : ci < s.contexts.length := by
  obtain ⟨e, he, -⟩ := Option.bind_eq_some_iff.1 h
  exact (List.getElem?_eq_some_iff.1 he).1

/-! ### Placing, deferring and refusing -/

@[simp] theorem State.defer_frame (s : State) (i : Nat) (p : Pick) (a : AtlasCopy) : (s.defer i p a).frame = s.frame :=
  (State.setPm_frame _ _ rfl rfl).trans (s.setPick_frame i _)

@[simp] theorem State.place_frame (s : State) (i : Nat) (p : Pick) (f : Option AtlasFields) :
    (s.place i p f).frame = s.frame := by
  unfold State.place
  split
  · split
    · next h => exact State.putInto_frame h
    · simp
  · split <;> simp

/-- A pick offered to a context joins a claim there, opens one, or finds no room (R28). -/
theorem State.putInto_eq {s : State} {ci : Nat} {c : Context} (h : s.contextAt ci = some c) (i : Nat) (p : Pick) :
    s.putInto ci i p = (c.offer s.pm.lanes s.paused i p).map fun d =>
      (s.setContext ci (some d)).setPick i (some { p with stage := .placed }) := by
  simp [State.putInto, h]

theorem State.putInto_free {s t : State} {ci i : Nat} {p : Pick} (h : s.putInto ci i p = some t) : t.pm.free = s.pm.free := by
  unfold State.putInto at h
  simp only [Option.bind_eq_some_iff, Option.map_eq_some_iff] at h
  obtain ⟨c, -, d, -, rfl⟩ := h
  rfl

@[simp] theorem State.place_free (s : State) (i : Nat) (p : Pick) (f : Option AtlasFields) :
    (s.place i p f).pm.free = s.pm.free := by
  unfold State.place
  split
  · split
    · next h => exact State.putInto_free h
    · rfl
  · split <;> rfl

/-- The outcome of a pick, unless it is a quiet one confirmed FULL, waits on the report list (R6). -/
theorem State.close_eq {s : State} {i : Nat} {p : Pick} (h : s.pickAt i = some p) {o : Outcome} (hk : o.kind ≠ .full) :
    s.close i o = (s.setPick i (some { p with stage := .reporting o, abandon := none })).appendItem (.pick i) := by
  simp [State.close, h, hk]

/-- Where a pick was placed or deferred stands through work that leaves the pick table, and the contexts but for their pending
sets. -/
theorem State.PickPlaced.mono {s t u : State} {i : Nat} {p : Pick} {f : Option AtlasFields} (h : s.PickPlaced t i p f)
    (hpm : u.pm = t.pm) (hl : u.lasting = t.lasting) : s.PickPlaced u i p f := by
  have hc {ci : Nat} {d : Context} (hd : ∃ x, t.contextAt ci = some { d with pending := x }) :
      ∃ x, u.contextAt ci = some { d with pending := x } := by
    obtain ⟨x, hx⟩ := hd
    obtain ⟨y, hy⟩ := State.contextAt_of_lasting hl hx
    exact ⟨y, hy⟩
  unfold State.PickPlaced at h ⊢
  rw [hpm]
  dsimp only at h ⊢
  split at h
  · intro c hcc
    have hp := h c hcc
    split at hp
    all_goals exact ⟨hp.1, hc hp.2⟩
  · obtain ⟨x, rfl, hp⟩ := h
    refine ⟨x, rfl, ?_⟩
    split at hp
    · exact ⟨hp.1, hc hp.2⟩
    · exact hp

/-- Whether the fields that a placement needs are there: the slot has a context, or the fields are handed over. -/
def State.fieldsThere (s : State) (slot : Nat) (fields : Option AtlasFields) : Prop :=
  s.contextOfSlot slot = none → ∃ f, fields = some f

/-- The context of a slot is in use (R21). -/
theorem State.contextAt_of_contextOfSlot {s : State} {slot ci : Nat} (h : s.contextOfSlot slot = some ci) :
    ∃ c, s.contextAt ci = some c := by
  obtain ⟨j, e, rfl, he, ht⟩ := firstFrom_spec h
  cases hc : e.context with
  | none => simp [hc] at ht
  | some c => exact ⟨c, by simp [State.contextAt, he, hc]⟩

section Place

variable {s : State} {i ci : Nat} {p : Pick} {c d : Context} {fields : Option AtlasFields}

theorem State.place_of_joined (hs : s.contextOfSlot p.slot = some ci) (hc : s.contextAt ci = some c)
    (ho : c.offer s.pm.lanes s.paused i p = some d) :
    s.place i p fields = (s.setContext ci (some d)).setPick i (some { p with stage := .placed }) := by
  simp [State.place, hs, State.putInto_eq hc, ho]

theorem State.place_of_full (hs : s.contextOfSlot p.slot = some ci) (hc : s.contextAt ci = some c)
    (ho : c.offer s.pm.lanes s.paused i p = none) : s.place i p fields = s.defer i p c.atlas := by
  simp [State.place, hs, State.putInto_eq hc, ho, hc]

theorem State.place_of_created {f : AtlasFields} (hs : s.contextOfSlot p.slot = none) (hl : s.lowestFreeContext = some ci) :
    s.place i p (some f) = s.createFor ci i p f.copy := by
  simp [State.place, hs, hl]

theorem State.place_of_noContext {f : AtlasFields} (hs : s.contextOfSlot p.slot = none) (hl : s.lowestFreeContext = none) :
    s.place i p (some f) = s.defer i p f.copy := by
  simp [State.place, hs, hl]

theorem State.pickAt_defer (hi : i < s.pm.entries.length) (a : AtlasCopy) :
    (s.defer i p a).pickAt i = some { p with stage := .deferred a } := s.pickAt_setPick_self i _ hi

/-- An accepted pick stands in its entry as it was but for its stage, and where PickPlaced says (R4, R13, R22, R28). -/
theorem State.place_spec (hi : i < s.pm.entries.length) (hp : p.stage = .placed) (hf : s.fieldsThere p.slot fields) :
    ∃ stage, (s.place i p fields).pickAt i = some { p with stage := stage } ∧
      s.PickPlaced (s.place i p fields) i { p with stage := stage } fields := by
  have hplaced : { p with stage := .placed } = p := by rw [← hp]
  unfold State.PickPlaced
  dsimp only
  rw [hplaced]
  cases hs : s.contextOfSlot p.slot with
  | some ci =>
    obtain ⟨c, hc⟩ := State.contextAt_of_contextOfSlot hs
    simp only [hc, Option.some.injEq, forall_eq']
    cases ho : c.offer s.pm.lanes s.paused i p with
    | some d =>
      rw [State.place_of_joined hs hc ho]
      exact ⟨.placed, State.pickAt_setPick_self _ _ _ hi, ⟨rfl, rfl⟩, d.pending,
        s.contextAt_setContext_self ci _ (State.lt_of_contextAt hc)⟩
    | none =>
      rw [State.place_of_full hs hc ho]
      exact ⟨.deferred c.atlas, State.pickAt_defer hi _, ⟨rfl, rfl⟩, c.pending, hc⟩
  | none =>
    obtain ⟨f, rfl⟩ := hf hs
    cases hl : s.lowestFreeContext with
    | some ci =>
      rw [State.place_of_created hs hl]
      exact ⟨.placed, State.pickAt_setPick_self _ _ _ hi, f, rfl, ⟨rfl, rfl⟩, _,
        s.contextAt_setContext_self ci _ (State.lt_of_lowestFreeContext hl)⟩
    | none =>
      rw [State.place_of_noContext hs hl]
      exact ⟨.deferred f.copy, State.pickAt_defer hi _, f, rfl, rfl, rfl⟩

end Place

/-! ### The consumption of a PICK -/

/-- A pick that the checks accept has a context of its slot, or fields that the Atlas Cache handed over (R131). -/
theorem State.fieldsThere_of_acceptance {s : State} {r : TaskRecord} {lane : Nat} {fields : Option AtlasFields}
    (h : s.acceptance r lane fields = none) : s.fieldsThere r.slot.toNat fields := by
  intro hs
  cases fields with
  | some f => exact ⟨f, rfl⟩
  | none =>
    unfold State.acceptance at h
    split_ifs at h
    · next hc => simp [hs] at hc
    · simp [State.judgeFields] at h

/-- The entry filled, the FREE count one lower and the qualifiers empty: what a PICK is judged on (R1, R130). -/
def State.fill (s : State) (i : Nat) (p : Pick) : State :=
  let t := s.setPick i (some p)
  let t := t.setPm { t.pm with free := t.pm.free - 1 }
  t.setIu { t.iu with qualifiers := QualifierSet.empty }

@[simp] theorem State.fill_size (s : State) (i : Nat) (p : Pick) :
    (s.fill i p).pm.entries.length = s.pm.entries.length := by simp [State.fill, State.setPick]

theorem State.pickAt_fill {s : State} {i : Nat} (h : i < s.pm.entries.length) (p : Pick) :
    (s.fill i p).pickAt i = some p := s.pickAt_setPick_self i _ h

section TakePick

variable {s : State} {i : Nat} {r : TaskRecord} {fields : Option AtlasFields}

theorem State.takePick_of_refused {cause : Cause}
    (h : s.iu.qualifiers.fault.or (s.acceptance r (s.iu.qualifiers.laneOf r) fields) = some cause) :
    s.takePick i r fields =
      (s.fill i (s.newPick r (s.iu.qualifiers.laneOf r))).close i (s.outcome .refused cause 0 1 1 false false) := by
  simp only [State.takePick, h]
  rfl

theorem State.takePick_of_accepted (h : s.iu.qualifiers.fault.or (s.acceptance r (s.iu.qualifiers.laneOf r) fields) = none) :
    s.takePick i r fields = (s.fill i (s.newPick r (s.iu.qualifiers.laneOf r))).place i
      { s.newPick r (s.iu.qualifiers.laneOf r) with abandon := (s.lane (s.iu.qualifiers.laneOf r)).abandonStart } fields := by
  simp only [State.takePick, h]
  rfl

/-- What follows the judging of a PICK appends closing advisories of strings and nothing else. -/
theorem State.consumed_kick_reported (t : State) : t.Reported t.consumed.kick [] :=
  t.consumed_reported.trans (State.kick_reported _)

/-- What is left to say of a consumed PICK once its entry is known: how it left FREE. -/
theorem State.pickTaken_of {w : State} {abandon : Option Nat} {stage : Stage}
    (hiu : w.iu = { s.iu with qualifiers := QualifierSet.empty }) (hfree : w.pm.free = s.pm.free - 1)
    (hp : w.pickAt i = some { s.newPick r (s.iu.qualifiers.laneOf r) with abandon := abandon, stage := stage })
    (hrefused : ∀ cause, s.iu.qualifiers.fault.or (s.acceptance r (s.iu.qualifiers.laneOf r) fields) = some cause →
      abandon = none ∧ s.Reported w.consumed.kick [.pick i] ∧
        stage = .reporting (s.outcome .refused cause 0 1 1 false false))
    (haccepted : s.iu.qualifiers.fault.or (s.acceptance r (s.iu.qualifiers.laneOf r) fields) = none →
      abandon = (s.lane (s.iu.qualifiers.laneOf r)).abandonStart ∧ s.PickPlaced w.consumed.kick i
        { s.newPick r (s.iu.qualifiers.laneOf r) with abandon := abandon, stage := stage } fields) :
    s.PickTaken w.consumed.kick i r fields := by
  have hpm : w.consumed.kick.pm = w.pm := by simp
  obtain ⟨hqueue, htaken, hconsumed⟩ := State.took_consumed (s := s) (t := w) (by rw [hiu]) (by rw [hiu])
  have htook : s.Took w.consumed.kick :=
    ⟨by rw [State.kick_iu, hqueue], by rw [State.kick_iu, htaken], by rw [State.kick_iu, hconsumed]⟩
  refine ⟨htook, by simp [hiu], by rw [hpm, hfree], _, (State.pickAt_of_pm hpm i).trans hp, rfl, rfl, rfl, rfl, rfl, rfl, rfl,
    rfl, ?_, ?_⟩
  · simp [State.newPick, laneInRange]
  · cases hc : s.iu.qualifiers.fault.or (s.acceptance r (s.iu.qualifiers.laneOf r) fields) with
    | some cause => exact hrefused cause hc
    | none => exact (haccepted hc).imp_left fun ha => by simpa [Lane.abandonStart] using ha

/-- The consumption of a PICK into a FREE entry is what PickTaken says of it, with fields or with none. -/
theorem State.pickTaken_takePick (hi : i < s.pm.entries.length) :
    s.PickTaken (s.takePick i r fields).consumed.kick i r fields := by
  cases hc : s.iu.qualifiers.fault.or (s.acceptance r (s.iu.qualifiers.laneOf r) fields) with
  | some cause =>
    have hw := State.takePick_of_refused (i := i) hc
    rw [State.close_eq (State.pickAt_fill hi _) (by simp [State.outcome])] at hw
    rw [hw]
    have hr : s.Reported (s.takePick i r fields) [.pick i] := ⟨[], by simp [hw, State.appendItem, State.fill], by simp⟩
    rw [hw] at hr
    refine State.pickTaken_of rfl rfl (State.pickAt_setPick_self _ i _ (by simpa using hi)) (fun x hx => ?_)
      fun hx => nomatch hc.symm.trans hx
    obtain rfl : cause = x := Option.some.inj (hc.symm.trans hx)
    exact ⟨rfl, hr.trans (State.consumed_kick_reported _), rfl⟩
  | none =>
    have hf : s.fieldsThere r.slot.toNat fields := State.fieldsThere_of_acceptance (Option.or_eq_none_iff.1 hc).2
    obtain ⟨stage, hp, hplaced⟩ := State.place_spec (s := s.fill i (s.newPick r (s.iu.qualifiers.laneOf r))) (fields := fields)
      (p := { s.newPick r (s.iu.qualifiers.laneOf r) with
        abandon := (s.lane (s.iu.qualifiers.laneOf r)).abandonStart }) (by simpa using hi) rfl hf
    rw [State.takePick_of_accepted hc]
    exact State.pickTaken_of (State.iu_of_frame (State.place_frame _ _ _ _)) (State.place_free _ _ _ _) hp
      (fun x hx => nomatch hc.symm.trans hx) fun _ => ⟨rfl, State.PickPlaced.mono hplaced (by simp) (by simp)⟩

end TakePick

/-- A PICK at the head that waits for no fetch is offered on tables read unchanged (R96, R128). -/
theorem State.headPick_of_intact {s : State} {r : TaskRecord} (hi : s.Intact) (hh : s.HeadIs r .pick)
    (hw : s.headWaits = false) : s.headPick = (s.takeHeadPick r).kick := by
  have hk := State.headIs_of_HeadIs hh
  obtain ⟨-, hhead, -⟩ := hh
  simp [State.headPick, hhead, hk, hw, s.checkTables_of_intact hi]

/-- Settles O29: the record needs no fields, so that the PICK is taken into the lowest-numbered FREE entry, or stands. -/
theorem pickIsConsumedIntoTheLowestFreeEntry : Obligations.PickIsConsumedIntoTheLowestFreeEntry := by
  unfold Obligations.PickIsConsumedIntoTheLowestFreeEntry
  intro s r hi hshape hh hw hn
  obtain ⟨hlen, -⟩ := hshape
  have hexec : exec .pick s = .next (s.offerPick r none).kick := by
    refine congrArg Host.Outcome.next ((State.headPick_of_intact hi hh hw).trans ?_)
    simp [State.takeHeadPick, hn]
  constructor
  · intro i hlt hfree hlow
    have hl := State.lowestFree_eq_some (hlen ▸ hlt) hfree hlow
    exact ⟨_, by rw [hexec, State.offerPick, hl], State.pickTaken_takePick (hlen ▸ hlt)⟩
  · intro hfull
    have hl : s.lowestFree = none := State.lowestFree_eq_none (hlen ▸ hfull)
    exact ⟨s.kick, by rw [hexec, State.offerPick, hl], by simp, by simp, by simp, by simp⟩

end Sys2Proof.Machine
end

section
/-! Proofs of the family of 01 (picks, lanes and the pick table), fourth part: what the join rule, face selection and the rebuilding of
the desired set do to one context, and the timers of picks and contexts (O45). -/

namespace Sys2Proof.Machine

/-! ### The desired set as it is built -/

section Rebuild

variable (c : Context) (lanes : List Lane) (paused : Bool)

/-- The desired set is rebuilt in place: nothing else of the context changes but the generation (R39). -/
theorem Context.rebuild_eq : ∃ g x, c.rebuild lanes paused = { c with generation := g, desired := x } ∧
    x.faces = c.facesNow lanes ∧ x.pinned = c.pinnedIndex := by
  unfold Context.rebuild
  dsimp only
  split
  · next h =>
    simp only [Bool.and_eq_true, beq_iff_eq] at h
    obtain ⟨⟨hfaces, -⟩, hpinned⟩ := h
    exact ⟨c.generation, c.desired, rfl, hfaces.symm, hpinned.symm⟩
  · exact ⟨_, _, rfl, rfl, rfl⟩

@[simp] theorem Context.rebuild_slot : (c.rebuild lanes paused).slot = c.slot := by
  obtain ⟨g, x, h, -⟩ := c.rebuild_eq lanes paused
  rw [h]

@[simp] theorem Context.rebuild_claims : (c.rebuild lanes paused).claims = c.claims := by
  obtain ⟨g, x, h, -⟩ := c.rebuild_eq lanes paused
  rw [h]

@[simp] theorem Context.rebuild_pin : (c.rebuild lanes paused).pin = c.pin := by
  obtain ⟨g, x, h, -⟩ := c.rebuild_eq lanes paused
  rw [h]

@[simp] theorem Context.rebuild_pending : (c.rebuild lanes paused).pending = c.pending := by
  obtain ⟨g, x, h, -⟩ := c.rebuild_eq lanes paused
  rw [h]

@[simp] theorem Context.rebuild_displayed : (c.rebuild lanes paused).displayed = c.displayed := by
  obtain ⟨g, x, h, -⟩ := c.rebuild_eq lanes paused
  rw [h]

@[simp] theorem Context.rebuild_faces : (c.rebuild lanes paused).desired.faces = c.facesNow lanes := by
  obtain ⟨g, x, h, hf, -⟩ := c.rebuild_eq lanes paused
  rw [h, ← hf]

@[simp] theorem Context.rebuild_pinned : (c.rebuild lanes paused).desired.pinned = c.pinnedIndex := by
  obtain ⟨g, x, h, -, hp⟩ := c.rebuild_eq lanes paused
  rw [h, ← hp]

end Rebuild

/-- A context has at most three faces (R32). -/
theorem Context.facesNow_length (c : Context) (lanes : List Lane) : (c.facesNow lanes).length ≤ 3 :=
  List.length_filterMap_le _ _

/-- Faces built place by place are found by their index. -/
theorem find?_index_filterMap {build : Nat → Option Face} (hb : ∀ i f, build i = some f → f.index = i) {l : List Nat} {x : Nat}
    (hx : x ∈ l) : (l.filterMap build).find? (fun f => f.index == x) = build x := by
  induction l with
  | nil => cases hx
  | cons y l ih =>
    cases hy : build y with
    | some f =>
      rw [List.filterMap_cons_some hy, List.find?_cons, hb y f hy]
      by_cases hxy : y = x
      · simp [hxy, ← hy]
      · rw [beq_eq_false_iff_ne.2 hxy]
        exact ih ((List.mem_cons.1 hx).resolve_left (Ne.symm hxy))
    | none =>
      rw [List.filterMap_cons_none hy]
      by_cases hxy : x = y
      · rw [hxy, hy, List.find?_eq_none]
        intro f hf
        obtain ⟨i, -, hi⟩ := List.mem_filterMap.1 hf
        rw [hb i f hi, beq_iff_eq]
        rintro rfl
        simp [hy] at hi
      · exact ih ((List.mem_cons.1 hx).resolve_left hxy)

/-- The face of an index is that of the first claim that holds it (R35). -/
theorem Context.find?_facesNow (c : Context) (lanes : List Lane) {x : Nat} (hx : x < 3) :
    (c.facesNow lanes).find? (fun f => f.index == x) =
      (c.claims.find? fun k => k.face == some x).map fun k => c.faceOf lanes k x := by
  refine find?_index_filterMap (fun i f hf => ?_) (by simp; omega)
  obtain ⟨k, -, rfl⟩ := Option.map_eq_some_iff.1 hf
  rfl

/-- Where face indices are distinct, a claim is found by its own. -/
theorem find?_face_of_mem {l : List Claim} (h : (l.filterMap Claim.face).Nodup) {k : Claim} (hk : k ∈ l) {x : Nat}
    (hx : k.face = some x) : (l.find? fun j => j.face == some x) = some k := by
  induction l with
  | nil => cases hk
  | cons j l ih =>
    rw [List.find?_cons]
    obtain rfl | hkl := List.mem_cons.1 hk
    · simp [hx]
    · cases hj : j.face with
      | none =>
        rw [List.filterMap_cons_none hj] at h
        simpa using ih h hkl
      | some y =>
        rw [List.filterMap_cons_some hj, List.nodup_cons] at h
        obtain ⟨hy, hl⟩ := h
        have hyx : y ≠ x := by
          rintro rfl
          exact hy (List.mem_filterMap.2 ⟨k, hkl, hx⟩)
        rw [show (some y == some x) = false by simpa using hyx]
        exact ih hl hkl

/-- The desired set of a context that is as it would be built now shows each claim with an index (R35). -/
theorem Context.faceAt_of_mem {c : Context} {lanes : List Lane} (h : c.desired.faces = c.facesNow lanes) (hl : c.ClaimLaw)
    {k : Claim} (hk : k ∈ c.claims) {x : Nat} (hx : k.face = some x) :
    c.desired.faceAt x = some (c.faceOf lanes k x) := by
  obtain ⟨-, -, hfaces, hlow, -⟩ := hl
  rw [FaceSet.faceAt, h, c.find?_facesNow lanes (hlow k hk x hx), find?_face_of_mem hfaces hk hx]
  rfl

/-! ### Claims changed by their serial -/

/-- Claims changed in place but for serial and face keep the law of claims. -/
theorem Context.setClaim_claimLaw {c : Context} (h : c.ClaimLaw) (serial : Nat) (f : Claim → Claim)
    (hs : ∀ k, (f k).serial = k.serial) (hf : ∀ k, (f k).face = k.face) : (c.setClaim serial f).ClaimLaw := by
  have hserial (k : Claim) : (if k.serial == serial then f k else k).serial = k.serial := by split <;> simp [hs]
  have hface (k : Claim) : (if k.serial == serial then f k else k).face = k.face := by split <;> simp [hf]
  obtain ⟨hlen, hserials, hfaces, hlow, hsets⟩ := h
  have hserialsEq : (c.setClaim serial f).claims.map Claim.serial = c.claims.map Claim.serial :=
    List.map_map.trans (List.map_congr_left fun k _ => hserial k)
  have hfacesEq : (c.setClaim serial f).claims.filterMap Claim.face = c.claims.filterMap Claim.face :=
    List.filterMap_map.trans (List.filterMap_congr fun k _ => hface k)
  refine ⟨by simpa [Context.setClaim] using hlen, by rwa [hserialsEq], by rwa [hfacesEq], ?_, hsets⟩
  · intro k hk x hx
    obtain ⟨j, hj, rfl⟩ := List.mem_map.1 hk
    exact hlow j hj x (by rw [← hface j]; exact hx)

/-- The claim of a serial is the one that carries it. -/
theorem Context.claim_serial {c : Context} {serial : Nat} {k : Claim} (h : c.claim serial = some k) :
    k ∈ c.claims ∧ k.serial = serial :=
  ⟨List.mem_of_find?_eq_some h, by simpa using List.find?_some h⟩

/-- The claim of a serial, changed but for its serial, is found under it. -/
theorem Context.claim_setClaim {c : Context} {serial : Nat} {k : Claim} (h : c.claim serial = some k) (f : Claim → Claim)
    (hs : ∀ k, (f k).serial = k.serial) : (c.setClaim serial f).claim serial = some (f k) := by
  have hserial : (fun j : Claim => (if j.serial == serial then f j else j).serial == serial) = fun j => j.serial == serial := by
    funext j
    split <;> simp [hs]
  unfold Context.claim Context.setClaim
  rw [List.find?_map, Function.comp_def, hserial, show c.claims.find? (fun j => j.serial == serial) = some k from h]
  simp [(Context.claim_serial h).2]

/-- Serials are distinct, so that a change by serial changes one claim. -/
theorem Context.setClaim_split {c : Context} (h : (c.claims.map Claim.serial).Nodup) {k : Claim} (hk : k ∈ c.claims)
    (f : Claim → Claim) :
    ∃ l m, c.claims = l ++ k :: m ∧ (c.setClaim k.serial f).claims = l ++ f k :: m := by
  obtain ⟨l, m, hlm⟩ := List.append_of_mem hk
  refine ⟨l, m, hlm, ?_⟩
  rw [hlm, List.map_append, List.map_cons, List.nodup_middle, List.nodup_cons, ← List.map_append] at h
  have hsame (n : List Claim) (hn : ∀ j ∈ n, j.serial ≠ k.serial) :
      (n.map fun j => if j.serial == k.serial then f j else j) = n :=
    (List.map_congr_left fun j hj => by simp [hn j hj]).trans (List.map_id n)
  have hne : ∀ j ∈ l ++ m, j.serial ≠ k.serial := fun j hj he => h.1 (he ▸ List.mem_map_of_mem hj)
  simp only [Context.setClaim, hlm, List.map_append, List.map_cons, beq_self_eq_true, if_true]
  rw [hsame l fun j hj => hne j (List.mem_append_left _ hj), hsame m fun j hj => hne j (List.mem_append_right _ hj)]

/-! ### The serial of a new claim -/

/-- The serials held by a claim or named by a face of the pending or displayed set (R27). -/
def Context.serialsTaken (c : Context) : List Nat :=
  c.claims.map Claim.serial ++ c.displayed.faces.map Face.serial ++
    (c.pending.map fun x => x.faces.map Face.serial).getD []

theorem Context.serialTaken_iff (c : Context) (n : Nat) : c.serialTaken n = true ↔ n ∈ c.serialsTaken := by
  unfold Context.serialTaken Context.serialsTaken
  cases c.pending <;> simp [List.any_eq_true, or_assoc]

/-- A taken answer of the search means that every serial it tried is taken. -/
theorem Context.serialFrom_taken (c : Context) (fuel n : Nat) (hn : n < 256) (h : c.serialTaken (c.serialFrom fuel n) = true) :
    ∀ j ≤ fuel, c.serialTaken ((n + j) % 256) = true := by
  induction fuel generalizing n with
  | zero =>
    intro j hj
    obtain rfl : j = 0 := by omega
    simpa [Context.serialFrom, Nat.mod_eq_of_lt hn] using h
  | succ fuel ih =>
    unfold Context.serialFrom at h
    split at h
    · next ht =>
      intro j hj
      cases j with
      | zero => simpa [Nat.mod_eq_of_lt hn] using ht
      | succ j =>
        have := ih ((n + 1) % 256) (Nat.mod_lt _ (by decide)) h j (by omega)
        rwa [Nat.mod_add_mod, Nat.add_assoc, Nat.add_comm 1 j] at this
    · next ht => exact absurd h ht

/-- At most 12 serials are taken, so that 13 tries find one that is not (R27). -/
theorem Context.newSerial_free {c : Context} (h : c.ClaimLaw) : c.newSerial ∉ c.serialsTaken := by
  intro hmem
  have hall := c.serialFrom_taken 12 _ (Nat.mod_lt _ (by decide)) ((c.serialTaken_iff _).2 hmem)
  have hnodup : ((List.range 13).map fun j => (c.nextSerial % 256 + j) % 256).Nodup := by
    refine List.Nodup.map_on (fun i hi j hj hij => ?_) List.nodup_range
    rw [List.mem_range] at hi hj
    omega
  have hsub : ((List.range 13).map fun j => (c.nextSerial % 256 + j) % 256) ⊆ c.serialsTaken := by
    intro n hn
    obtain ⟨j, hj, rfl⟩ := List.mem_map.1 hn
    rw [List.mem_range] at hj
    exact (c.serialTaken_iff _).1 (hall j (by omega))
  have hle := (hnodup.subperm hsub).length_le
  obtain ⟨hclaims, -, -, -, -, hdisplayed, hpending⟩ := h
  have hlen : c.serialsTaken.length ≤ 12 := by
    unfold Context.serialsTaken
    cases hp : c.pending with
    | none => simp; omega
    | some x =>
      have := hpending x hp
      simp; omega
  simp at hle
  omega

/-! ### What the join rule keeps of a context -/

theorem Context.rebuild_claimLaw {c : Context} (h : c.ClaimLaw) (lanes : List Lane) (paused : Bool) :
    (c.rebuild lanes paused).ClaimLaw := by
  obtain ⟨hlen, hserials, hfaces, hlow, -, hdisplayed, hpending⟩ := h
  exact ⟨by simpa using hlen, by simpa using hserials, by simpa using hfaces, by simpa using hlow,
    by simpa using c.facesNow_length lanes, by simpa using hdisplayed, by simpa using hpending⟩

/-- No claim is PINNED, and the desired set is what would be built now (R35, R38). -/
def Context.ShowsSums (c : Context) (lanes : List Lane) : Prop :=
  c.pin = none ∧ c.desired.pinned = none ∧ c.desired.faces = c.facesNow lanes

theorem Context.rebuild_showsSums {c : Context} (h : c.pin = none) (lanes : List Lane) (paused : Bool) :
    (c.rebuild lanes paused).ShowsSums lanes := by
  refine ⟨by simpa using h, by simp [Context.pinnedIndex, h], ?_⟩
  simp [Context.facesNow, Context.faceOf]

/-- A context goes on as another: the slot and the displayed set stand, and each claim that holds a face index holds it still. -/
structure Context.Continues (c d : Context) : Prop where
  slot : d.slot = c.slot
  displayed : d.displayed = c.displayed
  faces : ∀ k ∈ c.claims, k.face.isSome = true → ∃ j ∈ d.claims, j.serial = k.serial ∧ j.face = k.face

theorem Context.Continues.refl (c : Context) : c.Continues c := ⟨rfl, rfl, fun k hk _ => ⟨k, hk, rfl, rfl⟩⟩

theorem Context.Continues.trans {c d e : Context} (h : c.Continues d) (g : d.Continues e) : c.Continues e := by
  refine ⟨g.slot.trans h.slot, g.displayed.trans h.displayed, fun k hk hf => ?_⟩
  obtain ⟨j, hj, hjs, hjf⟩ := h.faces k hk hf
  obtain ⟨i, hi, his, hif⟩ := g.faces j hj (hjf ▸ hf)
  exact ⟨i, hi, his.trans hjs, hif.trans hjf⟩

theorem Context.continues_rebuild (c : Context) (lanes : List Lane) (paused : Bool) : c.Continues (c.rebuild lanes paused) :=
  ⟨by simp, by simp, fun k hk _ => ⟨k, by simpa using hk, rfl, rfl⟩⟩

/-- Claims changed in place but for serial and face go on. -/
theorem Context.continues_setClaim (c : Context) (serial : Nat) (f : Claim → Claim) (hs : ∀ k, (f k).serial = k.serial)
    (hf : ∀ k, (f k).face = k.face) : c.Continues (c.setClaim serial f) := by
  refine ⟨rfl, rfl, fun k hk _ => ⟨_, List.mem_map_of_mem hk, ?_⟩⟩
  split <;> simp [hs, hf]

/-! ### Face selection -/

/-- What one pass of selection does: nothing, or a claim that waited takes a free face index (R33). -/
theorem Context.showOne_cases (c : Context) (lanes : List Lane) (paused : Bool) :
    c.showOne lanes paused = c ∨ ∃ i k, i < 3 ∧ (∀ j ∈ c.claims, j.face ≠ some i) ∧ k ∈ c.claims ∧ k.face = none ∧
      c.showOne lanes paused = (c.setClaim k.serial fun j =>
        { j with face := some i, linger := lingerStart lanes j.lane }).rebuild lanes paused := by
  unfold Context.showOne
  split
  · next i k hi hk =>
    refine .inr ⟨i, k, ?_, ?_, List.mem_of_find?_eq_some hk, ?_, rfl⟩
    · have hmem := List.mem_of_find?_eq_some hi
      unfold Context.indices at hmem
      split at hmem
      all_goals
        simp only [List.mem_cons, List.not_mem_nil, or_false] at hmem
        omega
    · simpa using List.find?_some hi
    · have hw := List.find?_some hk
      simp only [Bool.and_eq_true, Option.isNone_iff_eq_none] at hw
      exact hw.1
  · exact .inl rfl

/-- A claim that waited and takes a free index keeps the law of claims. -/
theorem Context.setFace_claimLaw {c : Context} (h : c.ClaimLaw) {k : Claim} (hk : k ∈ c.claims) (hw : k.face = none) {i : Nat}
    (hi : i < 3) (hfree : ∀ j ∈ c.claims, j.face ≠ some i) {f : Claim → Claim} (hs : (f k).serial = k.serial)
    (hf : (f k).face = some i) : (c.setClaim k.serial f).ClaimLaw := by
  obtain ⟨hlen, hserials, hfaces, hlow, hsets⟩ := h
  obtain ⟨l, m, hlm, hset⟩ := Context.setClaim_split hserials hk f
  rw [hlm] at hlen hserials hfaces hlow hfree
  have hnew : i ∉ l.filterMap Claim.face ++ m.filterMap Claim.face := by
    rw [← List.filterMap_append]
    intro hm
    obtain ⟨j, hj, hji⟩ := List.mem_filterMap.1 hm
    refine hfree j ?_ hji
    simp only [List.mem_append, List.mem_cons] at hj ⊢
    exact hj.imp_right .inr
  refine ⟨?_, ?_, ?_, ?_, hsets⟩
  · rw [hset]
    simpa using hlen
  · rw [hset]
    simpa [hs] using hserials
  · rw [List.filterMap_append, List.filterMap_cons_none hw] at hfaces
    rw [hset, List.filterMap_append, List.filterMap_cons_some hf, List.nodup_middle, List.nodup_cons]
    exact ⟨hnew, hfaces⟩
  · rw [hset]
    intro j hj x hx
    simp only [List.mem_append, List.mem_cons] at hj
    obtain hj | rfl | hj := hj
    · exact hlow j (by simp [hj]) x hx
    · obtain rfl : i = x := Option.some.inj (hf.symm.trans hx)
      exact hi
    · exact hlow j (by simp [hj]) x hx

/-- The other claims keep their faces when a claim that waited takes one. -/
theorem Context.continues_setFace {c : Context} (h : c.ClaimLaw) {k : Claim} (hk : k ∈ c.claims) (hw : k.face = none)
    (f : Claim → Claim) : c.Continues (c.setClaim k.serial f) := by
  obtain ⟨-, hserials, -⟩ := h
  obtain ⟨l, m, hlm, hset⟩ := Context.setClaim_split hserials hk f
  refine ⟨rfl, rfl, fun j hj hf => ⟨j, ?_, rfl, rfl⟩⟩
  rw [hlm] at hj
  rw [hset]
  simp only [List.mem_append, List.mem_cons] at hj ⊢
  refine hj.imp_right fun hj => .inr (hj.resolve_left ?_)
  rintro rfl
  simp [hw] at hf

section Select

variable {c : Context} (h : c.ClaimLaw) (lanes : List Lane) (paused : Bool)
include h

theorem Context.showOne_claimLaw : (c.showOne lanes paused).ClaimLaw := by
  obtain hc | ⟨i, k, hi, hfree, hk, hw, hc⟩ := c.showOne_cases lanes paused
  · rwa [hc]
  · rw [hc]
    exact Context.rebuild_claimLaw (Context.setFace_claimLaw h hk hw hi hfree rfl rfl) lanes paused

theorem Context.continues_showOne : c.Continues (c.showOne lanes paused) := by
  obtain hc | ⟨i, k, -, -, hk, hw, hc⟩ := c.showOne_cases lanes paused
  · rw [hc]
    exact .refl c
  · rw [hc]
    exact (Context.continues_setFace h hk hw _).trans (Context.continues_rebuild _ lanes paused)

theorem Context.select_claimLaw : (c.select lanes paused).ClaimLaw :=
  Context.showOne_claimLaw (Context.showOne_claimLaw (Context.showOne_claimLaw h _ _) _ _) _ _

theorem Context.continues_select : c.Continues (c.select lanes paused) :=
  have h1 := Context.showOne_claimLaw h lanes paused
  have h2 := Context.showOne_claimLaw h1 lanes paused
  ((Context.continues_showOne h lanes paused).trans (Context.continues_showOne h1 lanes paused)).trans
    (Context.continues_showOne h2 lanes paused)

end Select

theorem Context.showOne_showsSums {c : Context} {lanes : List Lane} (h : c.ShowsSums lanes) (paused : Bool) :
    (c.showOne lanes paused).ShowsSums lanes := by
  obtain hc | ⟨i, k, -, -, -, -, hc⟩ := c.showOne_cases lanes paused
  · rwa [hc]
  · rw [hc]
    exact Context.rebuild_showsSums (c := c.setClaim _ _) h.1 lanes paused

theorem Context.select_showsSums {c : Context} {lanes : List Lane} (h : c.ShowsSums lanes) (paused : Bool) :
    (c.select lanes paused).ShowsSums lanes :=
  Context.showOne_showsSums (Context.showOne_showsSums (Context.showOne_showsSums h _) _) _

/-! ### New claims -/

/-- A new claim stands among the others, whichever its place. -/
theorem insertClaim_perm (l : List Claim) (k : Claim) : (insertClaim l k).Perm (k :: l) := by
  unfold insertClaim
  split
  · refine List.perm_middle.trans ?_
    rw [List.takeWhile_append_dropWhile]
  · exact List.perm_append_singleton k l

/-- A claim without a face is not found by one. -/
theorem find?_face_insertClaim (l : List Claim) {k : Claim} (hw : k.face = none) (x : Nat) :
    ((insertClaim l k).find? fun j => j.face == some x) = l.find? fun j => j.face == some x := by
  unfold insertClaim
  split
  · rw [List.find?_append, List.find?_cons_of_neg (by simp [hw]), ← List.find?_append, List.takeWhile_append_dropWhile]
  · simp [List.find?_append, hw]

/-- The context with a claim opened for a pick: Context.newClaim before the selection that follows (R27). -/
def Context.openClaim (c : Context) (entry : Nat) (p : Pick) : Context :=
  { c with
    claims := insertClaim c.claims
      { lane := p.lane, urgent := p.urgent, serial := c.newSerial, face := none, linger := none, lingerExpired := false,
        bundle := [entry], sum := p.requested }
    nextSerial := (c.newSerial + 1) % 256 }

section NewClaim

variable {c : Context} (lanes : List Lane) (paused : Bool) (entry : Nat) (p : Pick)

theorem Context.openClaim_claimLaw (h : c.ClaimLaw) (hroom : c.claims.length < 6) : (c.openClaim entry p).ClaimLaw := by
  have hfresh := Context.newSerial_free h
  obtain ⟨-, hserials, hfaces, hlow, hsets⟩ := h
  have hperm := insertClaim_perm c.claims
    { lane := p.lane, urgent := p.urgent, serial := c.newSerial, face := none, linger := none, lingerExpired := false,
      bundle := [entry], sum := p.requested }
  refine ⟨?_, ?_, ?_, ?_, hsets⟩
  · exact hperm.length_eq.trans_le hroom
  · refine (hperm.map Claim.serial).nodup_iff.2 (List.nodup_cons.2 ⟨fun hm => hfresh ?_, hserials⟩)
    exact List.mem_append_left _ (List.mem_append_left _ hm)
  · exact (hperm.filterMap Claim.face).nodup_iff.2 hfaces
  · intro k hk x hx
    obtain rfl | hk := List.mem_cons.1 (hperm.mem_iff.1 hk)
    · cases hx
    · exact hlow k hk x hx

theorem Context.continues_openClaim : c.Continues (c.openClaim entry p) :=
  ⟨rfl, rfl, fun k hk _ => ⟨k, (insertClaim_perm _ _).mem_iff.2 (List.mem_cons_of_mem _ hk), rfl, rfl⟩⟩

/-- A claim without a face leaves the desired set as it would be built. -/
theorem Context.openClaim_showsSums (h : c.ShowsSums lanes) : (c.openClaim entry p).ShowsSums lanes := by
  obtain ⟨hpin, hpinned, hfaces⟩ := h
  refine ⟨hpin, hpinned, hfaces.trans ?_⟩
  simp [Context.facesNow, Context.openClaim, find?_face_insertClaim, Context.faceOf]

end NewClaim

/-! ### The join rule -/

/-- What the join rule does: the pick is appended to a claim, or opens one where there is room (R28). -/
theorem Context.offer_cases {c d : Context} {lanes : List Lane} {paused : Bool} {entry : Nat} {p : Pick}
    (h : c.offer lanes paused entry p = some d) :
    (∃ serial, d = (c.setClaim serial fun k =>
      { k with bundle := k.bundle ++ [entry], sum := k.sum + p.requested }).rebuild lanes paused) ∨
      (c.claims.length < 6 ∧ d = c.newClaim lanes paused entry p) := by
  unfold Context.offer at h
  split at h
  · next k _ => exact .inl ⟨k.serial, (Option.some.inj h).symm⟩
  · split at h
    · next hroom => exact .inr ⟨hroom, (Option.some.inj h).symm⟩
    · cases h

/-- The join rule keeps the law of claims. -/
theorem Context.offer_claimLaw {c d : Context} {lanes : List Lane} {paused : Bool} {entry : Nat} {p : Pick} (hl : c.ClaimLaw)
    (h : c.offer lanes paused entry p = some d) : d.ClaimLaw := by
  obtain ⟨serial, rfl⟩ | ⟨hroom, rfl⟩ := Context.offer_cases h
  · refine Context.rebuild_claimLaw (Context.setClaim_claimLaw hl serial _ ?_ ?_) lanes paused
    all_goals exact fun _ => rfl
  · exact Context.select_claimLaw (Context.openClaim_claimLaw entry p hl hroom) lanes paused

/-- The join rule takes no face from a claim. -/
theorem Context.continues_offer {c d : Context} {lanes : List Lane} {paused : Bool} {entry : Nat} {p : Pick} (hl : c.ClaimLaw)
    (h : c.offer lanes paused entry p = some d) : c.Continues d := by
  obtain ⟨serial, rfl⟩ | ⟨hroom, rfl⟩ := Context.offer_cases h
  · refine (c.continues_setClaim serial _ ?_ ?_).trans (Context.continues_rebuild _ lanes paused)
    all_goals exact fun _ => rfl
  · exact (Context.continues_openClaim entry p).trans
      (Context.continues_select (Context.openClaim_claimLaw entry p hl hroom) lanes paused)

/-- The join rule keeps a context without a pin on the sums of its claims. -/
theorem Context.offer_showsSums {c d : Context} {lanes : List Lane} {paused : Bool} {entry : Nat} {p : Pick}
    (hs : c.ShowsSums lanes) (h : c.offer lanes paused entry p = some d) : d.ShowsSums lanes := by
  obtain ⟨serial, rfl⟩ | ⟨-, rfl⟩ := Context.offer_cases h
  · exact Context.rebuild_showsSums (c := c.setClaim _ _) hs.1 lanes paused
  · exact Context.select_showsSums (Context.openClaim_showsSums lanes entry p hs) paused

/-! ### What a placement pass does to one context -/

theorem State.contextAt_of_contexts {s t : State} (h : t.contexts = s.contexts) (ci : Nat) :
    t.contextAt ci = s.contextAt ci := by
  simp [State.contextAt, h]

@[simp] theorem State.close_contexts (s : State) (i : Nat) (o : Outcome) : (s.close i o).contexts = s.contexts := by
  unfold State.close State.release
  repeat' split
  all_goals rfl

/-- A free entry of the context table holds no context. -/
theorem State.contextAt_of_lowestFreeContext {s : State} {ci : Nat} (h : s.lowestFreeContext = some ci) :
    s.contextAt ci = none := by
  obtain ⟨j, e, rfl, he, ht⟩ := firstFrom_spec h
  simpa [State.contextAt, he] using ht

/-- The visit of one deferred pick leaves a context in use as it is, or offers the pick to it under the join rule (R15). -/
theorem State.visitDeferred_contextAt {s : State} {ci : Nat} {c : Context} (h : s.contextAt ci = some c) (i : Nat) :
    (s.visitDeferred i).contextAt ci = some c ∨
      ∃ p d, c.offer s.pm.lanes s.paused i p = some d ∧ (s.visitDeferred i).contextAt ci = some d := by
  unfold State.visitDeferred
  split
  · exact .inl h
  · next p _ =>
    split
    · split
      · exact .inl h
      · split
        · next cj _ =>
          split
          · split
            · next t ht =>
              unfold State.putInto at ht
              simp only [Option.bind_eq_some_iff, Option.map_eq_some_iff] at ht
              obtain ⟨e, he, d, hd, rfl⟩ := ht
              by_cases hcj : cj = ci
              · subst hcj
                obtain rfl : e = c := Option.some.inj (he.symm.trans h)
                exact .inr ⟨p, d, hd, s.contextAt_setContext_self cj _ (State.lt_of_contextAt h)⟩
              · exact .inl ((s.contextAt_setContext_of_ne cj ci _ hcj).trans h)
            · exact .inl h
          · exact .inl h
        · split
          · exact .inl h
          · next cj hfree =>
            split
            · exact .inl ((State.contextAt_of_contexts (State.close_contexts _ _ _) ci).trans h)
            · have hcj : cj ≠ ci := by
                rintro rfl
                exact nomatch (State.contextAt_of_lowestFreeContext hfree).symm.trans h
              exact .inl ((s.contextAt_setContext_of_ne cj ci _ hcj).trans h)
    · exact .inl h

/-- A context without a pin goes on through the visits of deferred picks, on the sums of its claims. -/
theorem foldl_visitDeferred_contextAt {ci : Nat} (l : List Nat) {s : State} {c : Context} (h : s.contextAt ci = some c)
    (hl : c.ClaimLaw) (hs : c.ShowsSums s.pm.lanes) :
    ∃ d, (l.foldl State.visitDeferred s).contextAt ci = some d ∧ d.ClaimLaw ∧ d.ShowsSums s.pm.lanes ∧ c.Continues d := by
  induction l generalizing s c with
  | nil => exact ⟨c, h, hl, hs, .refl c⟩
  | cons i l ih =>
    have hlanes := State.lanes_of_frame (s.visitDeferred_frame i)
    rw [List.foldl_cons]
    obtain hc | ⟨p, d, ho, hd⟩ := State.visitDeferred_contextAt h i
    · obtain ⟨e, he, hel, hes, hce⟩ := ih hc hl (hlanes ▸ hs)
      exact ⟨e, he, hel, hlanes ▸ hes, hce⟩
    · obtain ⟨e, he, hel, hes, hde⟩ := ih hd (Context.offer_claimLaw hl ho) (hlanes ▸ Context.offer_showsSums hs ho)
      exact ⟨e, he, hel, hlanes ▸ hes, (Context.continues_offer hl ho).trans hde⟩

/-! ### The three timers -/

theorem wellFormed_of_wf {i : Instr} (h : i.wf = true) (r : Result) : wellFormed i r = r := if_pos h

section Timers

variable {s : State} (hi : s.Intact)
include hi

/-- The abandon timer of an entry with good parity (R17, R18). -/
theorem exec_abandonTimeout {i : Nat} (h : i < 256) : exec (.abandonTimeout i) s =
    .next (if s.lrc.run == .running && s.abandonDue i then (s.goOverdue i).kick else s) := by
  obtain ⟨hpicks, hcontexts, -⟩ := hi
  have he : exec (.abandonTimeout i) s = _ := wellFormed_of_wf (i := .abandonTimeout i) (by simpa [Instr.wf] using h) _
  rw [he, s.checkContexts_of_intact hcontexts, s.checkPick_of_intact hpicks]
  rfl

/-- The linger timer of a claim of a context with good parity (R37). -/
theorem exec_lingerExpiry {ci n : Nat} (hc : ci < 96) (hn : n < 256) : exec (.lingerExpiry ci n) s =
    .next (if s.lrc.run == .running && s.lingerDue ci n then (s.expireLinger ci n).kick else s) := by
  obtain ⟨-, hcontexts, -⟩ := hi
  have he : exec (.lingerExpiry ci n) s = _ := wellFormed_of_wf (i := .lingerExpiry ci n) (by simp [Instr.wf, hc, hn]) _
  rw [he, s.checkContexts_of_intact hcontexts]
  rfl

/-- The pin timer of a context with good parity (R55). -/
theorem exec_pinTimeout {ci : Nat} (hc : ci < 96) : exec (.pinTimeout ci) s =
    .next (if s.lrc.run == .running && s.pinDue ci then (s.expirePin ci).kick else s) := by
  obtain ⟨-, hcontexts, -⟩ := hi
  have he : exec (.pinTimeout ci) s = _ := wellFormed_of_wf (i := .pinTimeout ci) (by simpa [Instr.wf] using hc) _
  rw [he, s.checkContexts_of_intact hcontexts]
  rfl

end Timers

theorem Pick.goesOverdue_iff (p : Pick) :
    p.goesOverdue = true ↔ p.abandon = some 0 ∧ (∀ o, p.stage ≠ .reporting o) ∧ p.overdueReported = false := by
  simp [Pick.goesOverdue, Pick.live_iff, and_assoc]

/-- A pick goes overdue: its flag is set, its timer gone, and the OVERDUE is offered (R18). -/
theorem State.goOverdue_eq {s : State} {i : Nat} {p : Pick} (h : s.pickAt i = some p) (hp : p.goesOverdue = true) :
    s.goOverdue i =
      (s.setPick i (some { p with abandon := none, overdueReported := true })).offer (s.overdueRecord i p) := by
  simp [State.goOverdue, h, hp]

@[simp] theorem State.offer_pm (s : State) (r : OutcomeRecord) : (s.offer r).pm = s.pm := by
  unfold State.offer
  split <;> rfl

/-- An advisory that finds no spare entry is counted (R153). -/
theorem State.offer_of_full {s : State} (h : s.jw.spare = 0) (r : OutcomeRecord) :
    s.offer r = s.setJw { s.jw with lost := min 255 (s.jw.lost + 1) } := if_neg (by omega)

/-- An advisory that finds a spare entry fills it (R153). -/
theorem State.offer_of_spare {s : State} (h : 0 < s.jw.spare) (r : OutcomeRecord) : s.offer r = s.appendItem (.advisory r) :=
  if_pos h

/-! ### The linger timer -/

/-- What the end of its linger timer makes of a claim (R36, R37). -/
def Claim.lingered (k : Claim) : Claim := if k.linger == some 0 then { k with linger := none, lingerExpired := true } else k

theorem Claim.lingered_serial (k : Claim) : k.lingered.serial = k.serial := by
  unfold Claim.lingered
  split <;> rfl

theorem Claim.lingered_face (k : Claim) : k.lingered.face = k.face := by
  unfold Claim.lingered
  split <;> rfl

theorem State.expireLinger_eq {s : State} {ci : Nat} {c : Context} (h : s.contextAt ci = some c) (serial : Nat) :
    s.expireLinger ci serial =
      s.setContext ci (some ((c.setClaim serial Claim.lingered).rebuild s.pm.lanes s.paused)) := by
  simp only [State.expireLinger, h]
  rfl

theorem State.lingerDue_of_claim {s : State} {ci serial : Nat} {c : Context} {k : Claim} (h : s.contextAt ci = some c)
    (hk : c.claim serial = some k) (hl : k.linger = some 0) : s.lingerDue ci serial = true := by
  simp [State.lingerDue, h, hk, hl]

/-- The claim whose linger timer has run out, in the context rebuilt (R37). -/
theorem Context.lingered_claim {c : Context} {serial : Nat} {k : Claim} (hk : c.claim serial = some k)
    (hz : k.linger = some 0) (lanes : List Lane) (paused : Bool) :
    ((c.setClaim serial Claim.lingered).rebuild lanes paused).claim serial =
      some { k with linger := none, lingerExpired := true } := by
  have hclaim := Context.claim_setClaim hk Claim.lingered Claim.lingered_serial
  rw [Context.claim, Context.rebuild_claims]
  exact hclaim.trans (by simp [Claim.lingered, hz])

/-- The claim whose linger timer has run out blinks FAST in the rebuilt desired set (R36, R37). -/
theorem Context.lingered_faceAt {c : Context} (hl : c.ClaimLaw) {serial : Nat} {k : Claim} (hk : c.claim serial = some k)
    (hz : k.linger = some 0) (lanes : List Lane) (paused : Bool) {x : Nat} (hx : k.face = some x) :
    ∃ f, ((c.setClaim serial Claim.lingered).rebuild lanes paused).desired.faceAt x = some f ∧ f.serial = serial ∧
      f.blink = .fast := by
  have hclaim := Context.claim_setClaim hk Claim.lingered Claim.lingered_serial
  obtain ⟨hmem, hserial⟩ := Context.claim_serial hclaim
  have hlaw := Context.rebuild_claimLaw
    (Context.setClaim_claimLaw hl serial Claim.lingered Claim.lingered_serial Claim.lingered_face) lanes paused
  refine ⟨_, Context.faceAt_of_mem (lanes := lanes) ?_ hlaw (k := k.lingered) (by simpa using hmem)
    (k.lingered_face.trans hx), hserial, ?_⟩
  · simp [Context.facesNow, Context.faceOf]
  · simp [Context.faceOf, Claim.blink, Claim.lingered, hz]

/-! ### The pin timer -/

theorem State.pinDue_of_pin {s : State} {ci : Nat} {c : Context} {p : Pin} (h : s.contextAt ci = some c)
    (hp : c.pin = some p) (ht : p.timer = 0) : s.pinDue ci = true := by
  simp [State.pinDue, h, hp, ht]

/-- The end of a pin, with the placement pass over tables of good parity (R55, R14). -/
theorem State.expirePin_eq {s : State} (hi : s.Intact) {ci : Nat} {c : Context} {p : Pin} (h : s.contextAt ci = some c)
    (hp : c.pin = some p) :
    s.expirePin ci = (s.setContext ci (some (c.endPin s.pm.lanes s.paused))).walkDeferred := by
  obtain ⟨hpicks, -⟩ := hi
  rw [← State.placementPass_of_intact (s.setContext ci _) hpicks]
  simp [State.expirePin, h, hp]

theorem Context.endPin_claimLaw {c : Context} (h : c.ClaimLaw) (lanes : List Lane) (paused : Bool) :
    (c.endPin lanes paused).ClaimLaw := Context.rebuild_claimLaw (c := { c with pin := none }) h lanes paused

theorem Context.endPin_showsSums (c : Context) (lanes : List Lane) (paused : Bool) :
    (c.endPin lanes paused).ShowsSums lanes := Context.rebuild_showsSums (c := { c with pin := none }) rfl lanes paused

theorem Context.continues_endPin (c : Context) (lanes : List Lane) (paused : Bool) : c.Continues (c.endPin lanes paused) := by
  obtain ⟨hslot, hdisplayed, hfaces⟩ := Context.continues_rebuild { c with pin := none } lanes paused
  exact ⟨hslot, hdisplayed, hfaces⟩

/-- Without a pin each face shows its claim's sum and no adjust marker (R35). -/
theorem Context.ShowsSums.faceAt {c : Context} {lanes : List Lane} (h : c.ShowsSums lanes) (hl : c.ClaimLaw) {k : Claim}
    (hk : k ∈ c.claims) {x : Nat} (hx : k.face = some x) :
    ∃ f, c.desired.faceAt x = some f ∧ f.serial = k.serial ∧ f.quantity = k.sum ∧ f.adjust = false := by
  obtain ⟨hpin, -, hfaces⟩ := h
  exact ⟨_, Context.faceAt_of_mem hfaces hl hk hx, rfl, by simp [Context.faceOf, hpin], by simp [Context.faceOf, hpin]⟩

/-- The context whose pin timer runs out, after the placement pass and the lines (R55, R14). -/
theorem State.expirePin_contextAt {s : State} (hi : s.Intact) {ci : Nat} {c : Context} {p : Pin} (h : s.contextAt ci = some c)
    (hl : c.ClaimLaw) (hp : c.pin = some p) :
    ∃ d, (s.expirePin ci).contextAt ci = some d ∧ d.ClaimLaw ∧ d.ShowsSums s.pm.lanes ∧ c.Continues d := by
  have hset := s.contextAt_setContext_self ci (some (c.endPin s.pm.lanes s.paused)) (State.lt_of_contextAt h)
  obtain ⟨d, hd, hdl, hds, hcd⟩ := foldl_visitDeferred_contextAt s.pm.deferred hset
    (Context.endPin_claimLaw hl s.pm.lanes s.paused) (Context.endPin_showsSums c s.pm.lanes s.paused)
  exact ⟨d, by rw [State.expirePin_eq hi h hp]; exact hd, hdl, hds,
    (Context.continues_endPin c s.pm.lanes s.paused).trans hcd⟩

/-- Settles O45, timer by timer: each exec_ lemma above says what the command does on tables of good parity. -/
theorem pickAndContextTimersRunOut : Obligations.PickAndContextTimersRunOut := by
  unfold Obligations.PickAndContextTimersRunOut
  intro s i ci serial hi hlt hci hserial
  rw [exec_abandonTimeout hi hlt, exec_lingerExpiry hi hci hserial, exec_pinTimeout hi hci]
  refine ⟨fun p hrun hp ha hstage ho => ?_, fun p hp hno => ?_, fun c k hrun hc hl hk hz => ?_,
    fun c p hrun hc hl hp hz => ?_, fun hrun => ?_⟩
  · have hover := p.goesOverdue_iff.2 ⟨ha, hstage, ho⟩
    refine ⟨(s.goOverdue i).kick, by simp [hrun, State.abandonDue, hp, hover], ?_, fun hfull => ?_, fun hspare => ?_⟩
    all_goals rw [State.goOverdue_eq hp hover]
    · rw [State.kick_pm, State.offer_pm]
      rfl
    · rw [State.kick_lost, State.offer_of_full (s := s.setPick i _) hfull]
      rfl
    · rw [State.offer_of_spare (s := s.setPick i _) hspare]
      exact ⟨State.kick_lost _, State.Reported.trans ⟨[], by simp [State.appendItem]; rfl, by simp⟩ (State.kick_reported _)⟩
  · have hover : p.goesOverdue = false := by
      rw [← Bool.not_eq_true, p.goesOverdue_iff]
      rintro ⟨ha, hstage, ho⟩
      obtain hn | ⟨o, hr⟩ | ht := hno
      · exact hn ha
      · exact hstage o hr
      · exact nomatch ho.symm.trans ht
    simp [State.abandonDue, hp, hover]
  · have hset := s.contextAt_setContext_self ci
      (some ((c.setClaim serial Claim.lingered).rebuild s.pm.lanes s.paused)) (State.lt_of_contextAt hc)
    rw [← State.expireLinger_eq hc serial] at hset
    obtain ⟨x, hx⟩ := State.contextAt_of_lasting (State.kick_lasting _) hset
    refine ⟨_, _, by rw [hrun, State.lingerDue_of_claim hc hk hz]; rfl, hx,
      Context.lingered_claim hk hz s.pm.lanes s.paused, fun y hy => Context.lingered_faceAt hl hk hz s.pm.lanes s.paused hy,
      Context.rebuild_pin _ _ _, Context.rebuild_displayed _ _ _, ?_⟩
    · rw [State.kick_pm, State.expireLinger_eq hc]
      rfl
  · obtain ⟨d, hd, hdl, hds, hcd⟩ := State.expirePin_contextAt hi hc hl hp
    obtain ⟨x, hx⟩ := State.contextAt_of_lasting (State.kick_lasting _) hd
    exact ⟨_, _, by rw [hrun, State.pinDue_of_pin hc hp hz]; rfl, hx, hds.1, hcd.slot, hcd.displayed, hds.2.1, hcd.faces,
      fun k hk y hy => hds.faceAt hdl hk hy⟩
  · have : (s.lrc.run == .running) = false := by simpa using hrun
    simp [this]

end Sys2Proof.Machine
end

section
/-! Proofs of the family of 02 (slot contexts, claims and faces), first part: a START read that fails takes the part out of a run, so
that the pick table's law is not kept by every command (O9). -/

namespace Sys2Proof.Machine

/-! ### A START read under way in RUNNING

The part has none: START issues the read in STARTING, and it ends there (R108). The pick table's law does not say so, and the
failure of the read, which leads to UNSET, then leaves the picks of a run in the table. -/

/-- A pick that waits in REPORTING for its record to be written. -/
def reportingPick : Pick :=
  { tag := 7, lane := 1, slot := 5, requested := 3, intakeSequence := 0, timeAccepted := 0, urgent := false, quiet := false
    abandon := none, overdueReported := false
    stage := .reporting { kind := .cancelled, cause := .none, confirmed := 0, timeClosed := 0, bundleSize := 1, bundlePosition := 1
                          adjusted := false, suspectTag := false } }

/-- RUNNING with one pick in REPORTING, every entry with good parity, and a START read under way. -/
def startReadInRun : State :=
  { State.reset with
    lrc := { RunControl.powerOn with run := .running, startRead := some 0 }
    pm := { PickManager.empty true with
      entries := { parity := true, pick := some reportingPick } :: List.replicate 255 { parity := true, pick := none }, free := 255 }
    contexts := emptyContexts true
    jw := { Journal.empty with report := [.pick 0] } }

theorem startReadInRun_entries : startReadInRun.pm.entries =
    { parity := true, pick := some reportingPick } :: List.replicate 255 { parity := true, pick := none } := rfl

theorem startReadInRun_pickAt (i : Nat) : startReadInRun.pickAt i = if i = 0 then some reportingPick else none := by
  cases i with
  | zero => rfl
  | succ i =>
    rw [if_neg (Nat.succ_ne_zero i)]
    by_cases hi : i < 255 <;> simp [State.pickAt, startReadInRun_entries, hi, -List.reduceReplicate]

theorem startReadInRun_context {e : ContextEntry} (h : e ∈ startReadInRun.contexts) : e.context = none := by
  rw [List.eq_of_mem_replicate h]

/-- The state meets every clause of the pick table's law. -/
theorem startReadInRun_pickLaw : startReadInRun.PickLaw := by
  have hbundled : startReadInRun.bundledPicks = [] :=
    List.flatMap_eq_nil_iff.2 fun e he => by simp [startReadInRun_context he]
  have hdeferred : startReadInRun.pm.deferred = [] := rfl
  have hreported : startReadInRun.reportedPicks = [0] := rfl
  have hrun : startReadInRun.inRun = true := rfl
  refine ⟨?_, fun i => ?_, by decide +kernel, by decide +kernel, fun h => (nomatch hrun.symm.trans h), fun e he c hc => ?_⟩
  · simp [hdeferred, hreported, hbundled]
  · rw [hdeferred, hreported, hbundled, startReadInRun_pickAt]
    by_cases hi : i = 0 <;> simp [hi, reportingPick]
  · exact nomatch (startReadInRun_context he).symm.trans hc

/-- Refutes O9: the failure of a START read leads to UNSET (R108) with the pick of the run in the table. -/
theorem not_commandsKeepTheTableLaws : ¬Obligations.CommandsKeepTheTableLaws := by
  unfold Obligations.CommandsKeepTheTableLaws
  intro h
  obtain ⟨-, hkeeps⟩ := h (.linkReadError .startRead) startReadInRun (startReadInRun.checkContexts.failStart .link) rfl
  obtain ⟨-, -, -, -, houtside, -⟩ := hkeeps startReadInRun_pickLaw
  rw [startReadInRun.checkContexts_of_intact fun e he => by rw [List.eq_of_mem_replicate he]] at houtside
  have hrun : (startReadInRun.failStart .link).inRun = false := by simp [State.failStart, State.inRun]
  obtain ⟨hentries, -⟩ := houtside hrun
  have hfirst := hentries { parity := true, pick := some reportingPick } (by simp [State.failStart, startReadInRun_entries, -List.reduceReplicate])
  cases hfirst

end Sys2Proof.Machine
end

section
/-! Proofs of the family of 02 (slot contexts, claims and faces), second part: the generation of a rebuilt desired set (O52). -/

namespace Sys2Proof.Machine

/-! ### Candidate generations -/

theorem nextGeneration_pos (g : Nat) : 1 ≤ nextGeneration g := by
  unfold nextGeneration
  split <;> omega

theorem nextGeneration_le (g : Nat) : nextGeneration g ≤ 15 := by
  unfold nextGeneration
  split <;> omega

/-- Counting on through 1 to 15 is counting modulo 15. -/
theorem nextGeneration_eq {g : Nat} (h : g < 16) : nextGeneration g = g % 15 + 1 := by
  unfold nextGeneration
  split <;> omega

theorem nextGeneration_ne (g : Nat) : nextGeneration g ≠ g := by
  unfold nextGeneration
  split <;> omega

theorem nextGeneration_nextGeneration_ne (g : Nat) : nextGeneration (nextGeneration g) ≠ g := by
  unfold nextGeneration
  repeat' split
  all_goals omega

/-- A candidate passes when it is neither the displayed nor the pending generation (R39). -/
theorem Context.generationTaken_eq_false (c : Context) (g : Nat) :
    c.generationTaken g = false ↔ g ≠ c.displayed.generation ∧ ∀ x, c.pending = some x → x.generation ≠ g := by
  unfold Context.generationTaken
  cases c.pending <;> simp

/-- Two generations are taken at most, and three candidates in a row differ: the last of them passes where the others do not. -/
theorem Context.generationTaken_third {c : Context} {g : Nat} (h1 : c.generationTaken (nextGeneration g) = true)
    (h2 : c.generationTaken (nextGeneration (nextGeneration g)) = true) :
    c.generationTaken (nextGeneration (nextGeneration (nextGeneration g))) = false := by
  have h12 := nextGeneration_ne (nextGeneration g)
  have h23 := nextGeneration_ne (nextGeneration (nextGeneration g))
  have h13 := nextGeneration_nextGeneration_ne (nextGeneration g)
  unfold Context.generationTaken at *
  cases hp : c.pending with
  | none => simp [hp] at h1 h2; omega
  | some x => simp [hp] at h1 h2 ⊢; omega

/-- The generation given is the first of the next three that passes (R39). -/
theorem Context.freshGeneration_cases (c : Context) :
    let g1 := nextGeneration c.generation
    let g2 := nextGeneration g1
    let g3 := nextGeneration g2
    (c.generationTaken g1 = false → c.freshGeneration = g1) ∧
      (c.generationTaken g1 = true → c.generationTaken g2 = false → c.freshGeneration = g2) ∧
      (c.generationTaken g1 = true → c.generationTaken g2 = true → c.freshGeneration = g3) := by
  simp +contextual [Context.freshGeneration]

theorem Context.freshGeneration_free (c : Context) : c.generationTaken c.freshGeneration = false := by
  obtain ⟨hfirst, hsecond, hthird⟩ := c.freshGeneration_cases
  cases h1 : c.generationTaken (nextGeneration c.generation) with
  | false => rwa [hfirst h1]
  | true =>
    cases h2 : c.generationTaken (nextGeneration (nextGeneration c.generation)) with
    | false => rwa [hsecond h1 h2]
    | true =>
      rw [hthird h1 h2]
      exact Context.generationTaken_third h1 h2

/-- The generation given lies in 1..15: it follows another one (R39). -/
theorem Context.freshGeneration_next (c : Context) : ∃ g, c.freshGeneration = nextGeneration g := by
  unfold Context.freshGeneration
  dsimp only
  split
  · exact ⟨_, rfl⟩
  · split <;> exact ⟨_, rfl⟩

/-! ### The generation law of one context -/

/-- A desired set with a generation given now keeps the generation law, whatever its content (R39). -/
theorem Context.GenerationLaw.of_fresh {c d : Context} (h : c.GenerationLaw) (hpending : d.pending = c.pending)
    (hdisplayed : d.displayed = c.displayed) (hdesired : d.desired.generation = c.freshGeneration) : d.GenerationLaw := by
  obtain ⟨hapart, -⟩ := h
  obtain ⟨hnot, hnotPending⟩ := (c.generationTaken_eq_false _).1 c.freshGeneration_free
  obtain ⟨g, hg⟩ := c.freshGeneration_next
  have hpos := nextGeneration_pos g
  unfold Context.GenerationLaw
  rw [hpending, hdisplayed, hdesired]
  exact ⟨hapart, fun he => absurd he hnot, fun x hx he => absurd he.symm (hnotPending x hx), fun he => by omega⟩

/-- A context that differs in its claims, its pin and its counters alone keeps the generation law: the law speaks of the three
face sets. -/
theorem Context.GenerationLaw.of_sets {c d : Context} (h : c.GenerationLaw) (hpending : d.pending = c.pending)
    (hdisplayed : d.displayed = c.displayed) (hdesired : d.desired = c.desired) : d.GenerationLaw := by
  unfold Context.GenerationLaw
  rwa [hpending, hdisplayed, hdesired]

/-- What a rebuild does: nothing where the content stands, else the new set under a fresh generation (R39). -/
theorem Context.rebuild_of_same {c : Context} {lanes : List Lane} {paused : Bool}
    (h : c.facesNow lanes = c.desired.faces ∧ paused = c.desired.paused ∧ c.pinnedIndex = c.desired.pinned) :
    c.rebuild lanes paused = c := by
  obtain ⟨hfaces, hpaused, hpinned⟩ := h
  simp [Context.rebuild, hfaces, hpaused, hpinned]

theorem Context.rebuild_of_new {c : Context} {lanes : List Lane} {paused : Bool}
    (h : ¬(c.facesNow lanes = c.desired.faces ∧ paused = c.desired.paused ∧ c.pinnedIndex = c.desired.pinned)) :
    c.rebuild lanes paused = { c with
      generation := c.freshGeneration
      desired := { generation := c.freshGeneration, faces := c.facesNow lanes, paused := paused, pinned := c.pinnedIndex } } := by
  unfold Context.rebuild
  exact if_neg (by simpa [and_assoc] using h)

theorem Context.GenerationLaw.rebuild {c : Context} (h : c.GenerationLaw) (lanes : List Lane) (paused : Bool) :
    (c.rebuild lanes paused).GenerationLaw := by
  by_cases hs : c.facesNow lanes = c.desired.faces ∧ paused = c.desired.paused ∧ c.pinnedIndex = c.desired.pinned
  · rwa [Context.rebuild_of_same hs]
  · rw [Context.rebuild_of_new hs]
    exact h.of_fresh rfl rfl rfl

/-- Settles O52: the content decides whether a rebuild changes anything, and freshGeneration gives the generation. -/
theorem rebuiltSetsTakeAFreshGeneration : Obligations.RebuiltSetsTakeAFreshGeneration := by
  unfold Obligations.RebuiltSetsTakeAFreshGeneration
  intro c lanes paused hlt d same g g1 g2 g3 free
  refine ⟨Context.rebuild_of_same, fun hnew => ?_, fun h => h.rebuild lanes paused⟩
  have hd : d = { c with
      generation := c.freshGeneration
      desired := { generation := c.freshGeneration, faces := c.facesNow lanes, paused := paused, pinned := c.pinnedIndex } } :=
    Context.rebuild_of_new hnew
  have hg : g = c.freshGeneration := congrArg (fun e : Context => e.desired.generation) hd
  have h1 : nextGeneration c.generation = g1 := nextGeneration_eq hlt
  have h2 : nextGeneration g1 = g2 := by
    rw [nextGeneration_eq (by omega)]
    omega
  have h3 : nextGeneration g2 = g3 := by
    rw [nextGeneration_eq (by omega)]
    omega
  obtain ⟨hfirst, hsecond, hthird⟩ := c.freshGeneration_cases
  rw [h1, h2, ← hg] at hsecond
  rw [h1, ← hg] at hfirst
  rw [h1, h2, h3, ← hg] at hthird
  have htaken (x : Nat) : ¬free x → c.generationTaken x = true := fun hx =>
    Bool.of_not_eq_false (mt (c.generationTaken_eq_false x).1 hx)
  have hfree (x : Nat) : free x → c.generationTaken x = false := (c.generationTaken_eq_false x).2
  obtain ⟨hnot, hnotPending⟩ := (c.generationTaken_eq_false _).1 c.freshGeneration_free
  obtain ⟨k, hk⟩ := c.freshGeneration_next
  refine ⟨hd.trans (by rw [hg]), ?_, ?_, by rwa [hg], by rwa [hg], fun hf => hfirst (hfree _ hf), fun ht hf =>
    hsecond (htaken _ ht) (hfree _ hf), fun ht ht' => hthird (htaken _ ht) (htaken _ ht')⟩
  · rw [hg, hk]
    exact nextGeneration_pos k
  · rw [hg, hk]
    exact nextGeneration_le k

end Sys2Proof.Machine
end

section
/-! Proofs of the family of 02 (slot contexts, claims and faces), third part: the generation law of every context through every
command (O60). The law speaks of a context's three face sets alone: each operation either leaves them, rebuilds the desired set, or
moves a set on to pending or displayed. -/

namespace Sys2Proof.Machine

/-! ### The law of one context through the Slot Manager's work -/

theorem Context.GenerationLaw.create (slot : Nat) (atlas : AtlasCopy) : (Context.create slot atlas).GenerationLaw :=
  ⟨fun _ hx => (nomatch hx), fun _ => rfl, fun _ hx => (nomatch hx), fun _ => rfl⟩

section OneContext

variable {c : Context} (h : c.GenerationLaw) (lanes : List Lane) (paused : Bool)
include h

theorem Context.GenerationLaw.showOne : (c.showOne lanes paused).GenerationLaw := by
  obtain hc | ⟨i, k, -, -, -, -, hc⟩ := c.showOne_cases lanes paused
  · rwa [hc]
  · rw [hc]
    exact Context.GenerationLaw.rebuild (c := c.setClaim _ _) h lanes paused

theorem Context.GenerationLaw.select : (c.select lanes paused).GenerationLaw :=
  ((h.showOne lanes paused).showOne lanes paused).showOne lanes paused

theorem Context.GenerationLaw.newClaim (entry : Nat) (p : Pick) : (c.newClaim lanes paused entry p).GenerationLaw :=
  Context.GenerationLaw.select (c := c.openClaim entry p) h lanes paused

theorem Context.GenerationLaw.offer {lanes : List Lane} {paused : Bool} {entry : Nat} {p : Pick} {d : Context}
    (ho : c.offer lanes paused entry p = some d) : d.GenerationLaw := by
  obtain ⟨serial, rfl⟩ | ⟨-, rfl⟩ := Context.offer_cases ho
  · exact Context.GenerationLaw.rebuild (c := c.setClaim _ _) h lanes paused
  · exact h.newClaim lanes paused entry p

theorem Context.GenerationLaw.removeClaim (serial : Nat) : (c.removeClaim lanes paused serial).GenerationLaw :=
  (Context.GenerationLaw.select (c := { c with
    claims := c.claims.filter fun k => k.serial != serial
    pin := c.pin.filter fun (p : Pin) => p.serial != serial }) h lanes paused).rebuild lanes paused

theorem Context.GenerationLaw.correct (serial : Nat) (bundle : List Nat) (sum : Nat) :
    (c.correct lanes paused serial bundle sum).GenerationLaw := by
  refine Context.GenerationLaw.rebuild ?_ lanes paused
  exact h.of_sets rfl rfl rfl

theorem Context.GenerationLaw.without (serial : Nat) (rest : List Nat) (sum : Nat) :
    (c.without lanes paused serial rest sum).GenerationLaw := by
  unfold Context.without
  split
  · exact h.removeClaim lanes paused serial
  · exact h.correct lanes paused serial rest sum

theorem Context.GenerationLaw.adjust (k : Claim) (button : Button) (timer : Nat) :
    (c.adjust lanes paused k button timer).GenerationLaw := by
  refine Context.GenerationLaw.rebuild ?_ lanes paused
  exact h.of_sets rfl rfl rfl

theorem Context.GenerationLaw.endPin : (c.endPin lanes paused).GenerationLaw := by
  refine Context.GenerationLaw.rebuild ?_ lanes paused
  exact h.of_sets rfl rfl rfl

theorem Context.GenerationLaw.turnRun (halted : Bool) : (c.turnRun lanes halted).GenerationLaw := by
  unfold Context.turnRun
  split
  · exact h.endPin lanes true
  · exact h.rebuild lanes false

omit lanes in
theorem Context.GenerationLaw.emptied : (c.emptied paused).GenerationLaw := h.of_fresh rfl rfl rfl

omit lanes paused

/-- A pending set that is dropped leaves the two others as they stand (R42). -/
theorem Context.GenerationLaw.dropPending : ({ c with pending := none } : Context).GenerationLaw := by
  obtain ⟨-, hdisplayed, -, hzero⟩ := h
  exact ⟨fun _ hx => (nomatch hx), hdisplayed, fun _ hx => (nomatch hx), hzero⟩

/-- A due set that is sent differs from the displayed one in its generation (R40). -/
theorem Context.GenerationLaw.send (hdue : c.due = true) : ({ c with pending := some c.desired } : Context).GenerationLaw := by
  obtain ⟨-, hdisplayed, -, hzero⟩ := h
  have hapart : c.desired.generation ≠ c.displayed.generation := by
    simp only [Context.due, Bool.and_eq_true, bne_iff_ne] at hdue
    exact hdue.2
  exact ⟨fun _ hx => Option.some.inj hx ▸ hapart, hdisplayed, fun _ hx _ => Option.some.inj hx, hzero⟩

/-- A reboot leaves nothing displayed, an acknowledged set becomes the displayed one, and any other reply drops the pending set
(R26, R41, R42). -/
theorem Context.GenerationLaw.display (reboot : Bool) (generation : Nat) : (c.display reboot generation).GenerationLaw := by
  have hdrop := h.dropPending
  have hlaw := h
  obtain ⟨-, -, hpending, hzero⟩ := hlaw
  unfold Context.display
  split
  · exact ⟨fun _ hx => (nomatch hx), hzero, fun _ hx => (nomatch hx), hzero⟩
  · split
    · next x hx =>
      split
      · exact ⟨fun _ hx => (nomatch hx), hpending x hx, fun _ hx => (nomatch hx), hzero⟩
      · exact hdrop
    · exact h

end OneContext

/-! ### The law of the context table -/

theorem State.generationLaw_of_contexts {s t : State} (h : s.GenerationLaw) (hc : t.contexts = s.contexts) :
    t.GenerationLaw := by
  unfold State.GenerationLaw
  rwa [hc]

/-- A table with no context in use keeps the law. -/
theorem State.generationLaw_of_free {s : State} (h : ∀ e ∈ s.contexts, e.context = none) : s.GenerationLaw :=
  fun e he _ hc => (nomatch (h e he).symm.trans hc)

theorem State.GenerationLaw.of_outside {s t : State} (h : s.GenerationLaw) (ho : t.outside = s.outside) : t.GenerationLaw :=
  State.generationLaw_of_contexts h (State.contexts_of_outside ho)

theorem State.GenerationLaw.ite {b : Prop} [Decidable b] {t u : State} (ht : t.GenerationLaw) (hu : u.GenerationLaw) :
    (if b then t else u).GenerationLaw := by
  split
  · exact ht
  · exact hu

/-- A fold of operations that each keep the law keeps it. -/
theorem foldl_generationLaw {α : Type} (f : State → α → State) (hf : ∀ s a, s.GenerationLaw → (f s a).GenerationLaw)
    (l : List α) {s : State} (h : s.GenerationLaw) : (l.foldl f s).GenerationLaw := by
  induction l generalizing s with
  | nil => exact h
  | cons a l ih => exact ih (hf s a h)

section Table

variable {s : State} (h : s.GenerationLaw)
include h

theorem State.GenerationLaw.contextAt {ci : Nat} {c : Context} (hc : s.contextAt ci = some c) : c.GenerationLaw := by
  obtain ⟨e, he, hec⟩ := Option.bind_eq_some_iff.1 hc
  exact h e (List.mem_of_getElem? he) c hec

/-- A context whose law holds may be written to any entry. -/
theorem State.GenerationLaw.setContext (ci : Nat) {x : Option Context} (hx : ∀ c, x = some c → c.GenerationLaw) :
    (s.setContext ci x).GenerationLaw := by
  intro e he c hc
  obtain he | rfl := List.mem_or_eq_of_mem_set he
  · exact h e he c hc
  · exact hx c hc

theorem State.GenerationLaw.putContext (ci : Nat) {c : Context} (hc : c.GenerationLaw) :
    (s.setContext ci (some c)).GenerationLaw :=
  h.setContext ci fun _ hd => Option.some.inj hd ▸ hc

theorem State.GenerationLaw.freeContext (ci : Nat) : (s.setContext ci none).GenerationLaw :=
  h.setContext ci fun _ hd => (nomatch hd)

/-! The writes of the other blocks leave the contexts. -/

theorem State.GenerationLaw.setLrc (x : RunControl) : (s.setLrc x).GenerationLaw := h
theorem State.GenerationLaw.setIu (x : Intake) : (s.setIu x).GenerationLaw := h
theorem State.GenerationLaw.setAc (x : Cache) : (s.setAc x).GenerationLaw := h
theorem State.GenerationLaw.setPm (x : PickManager) : (s.setPm x).GenerationLaw := h
theorem State.GenerationLaw.setJw (x : Journal) : (s.setJw x).GenerationLaw := h
theorem State.GenerationLaw.setTiu (x : Integrity) : (s.setTiu x).GenerationLaw := h
theorem State.GenerationLaw.setPick (i : Nat) (p : Option Pick) : (s.setPick i p).GenerationLaw := h
theorem State.GenerationLaw.undefer (i : Nat) : (s.undefer i).GenerationLaw := h
theorem State.GenerationLaw.release (i : Nat) : (s.release i).GenerationLaw := h
theorem State.GenerationLaw.reserve : s.reserve.GenerationLaw := h
theorem State.GenerationLaw.setString (n : Nat) (x : StringCtl) : (s.setString n x).GenerationLaw := h
theorem State.GenerationLaw.setLink (n a : Nat) (m : ModuleLink) : (s.setLink n a m).GenerationLaw := h
theorem State.GenerationLaw.mapStrings (f : StringCtl → StringCtl) : (s.mapStrings f).GenerationLaw := h

/-! ### Bundles, claims and placing -/

theorem State.GenerationLaw.close (i : Nat) (o : Outcome) : (s.close i o).GenerationLaw :=
  State.generationLaw_of_contexts h (s.close_contexts i o)

theorem State.GenerationLaw.settleContext (ci : Nat) : (s.settleContext ci).GenerationLaw := by
  unfold State.settleContext
  split
  · exact .ite (h.freeContext ci) h
  · exact h

theorem State.GenerationLaw.dropReference (i : Nat) : (s.dropReference i).GenerationLaw := by
  unfold State.dropReference
  split
  · exact h
  · split
    · exact h
    · next hc => exact (h.putContext _ ((h.contextAt hc).without _ _ _ _ _)).settleContext _

theorem State.GenerationLaw.leaveBundle (i : Nat) (k : OutcomeKind) (cause : Cause) (b : Bool) :
    (s.leaveBundle i k cause b).GenerationLaw := (h.close i _).dropReference i

theorem State.GenerationLaw.markSuspect (i : Nat) : (s.markSuspect i).GenerationLaw := by
  unfold State.markSuspect
  split
  · split <;> exact h
  · exact h

theorem State.GenerationLaw.damagePick (i : Nat) : (s.damagePick i).GenerationLaw := by
  unfold State.damagePick
  split
  · exact (h.undefer i).close i _
  split
  · exact h.markSuspect i
  split
  · exact h.leaveBundle i _ _ _
  · exact h

theorem State.GenerationLaw.putInto {t : State} {ci i : Nat} {p : Pick} (ht : s.putInto ci i p = some t) :
    t.GenerationLaw := by
  unfold State.putInto at ht
  simp only [Option.bind_eq_some_iff, Option.map_eq_some_iff] at ht
  obtain ⟨c, hc, d, hd, rfl⟩ := ht
  exact h.putContext ci ((h.contextAt hc).offer hd)

theorem State.GenerationLaw.createFor (ci i : Nat) (p : Pick) (atlas : AtlasCopy) : (s.createFor ci i p atlas).GenerationLaw :=
  h.putContext ci ((Context.GenerationLaw.create p.slot atlas).newClaim _ _ i p)

theorem State.GenerationLaw.visitDeferred (i : Nat) : (s.visitDeferred i).GenerationLaw := by
  unfold State.visitDeferred
  split
  · exact h
  split
  · split
    · exact h
    split
    · split
      · split
        · next ht => exact State.generationLaw_of_contexts (h.putInto ht) rfl
        · exact h
      · exact h
    · split
      · exact h
      · exact .ite ((h.undefer i).close i _) (h.createFor _ i _ _)
  · exact h

theorem State.GenerationLaw.walkDeferred : s.walkDeferred.GenerationLaw :=
  foldl_generationLaw _ (fun _ i hs => hs.visitDeferred i) _ h

theorem State.GenerationLaw.reportFault (x : FaultTable) (i : Nat) : (s.reportFault x i).GenerationLaw :=
  h.of_outside (s.reportFault_outside x i)

theorem State.GenerationLaw.handlePick (i : Nat) : (s.handlePick i).GenerationLaw :=
  State.GenerationLaw.reportFault (.ite (h.damagePick i).walkDeferred (h.damagePick i)) _ _

theorem State.GenerationLaw.handlePicks (l : List Nat) : (s.handlePicks l).GenerationLaw :=
  foldl_generationLaw _ (fun _ i hs => hs.handlePick i) _ h

theorem State.GenerationLaw.placementPass : s.placementPass.GenerationLaw := (h.handlePicks _).walkDeferred

theorem State.GenerationLaw.withdraw (i : Nat) (k : OutcomeKind) (cause : Cause) (b : Bool) :
    (s.withdraw i k cause b).GenerationLaw := (h.leaveBundle i k cause b).placementPass

theorem State.GenerationLaw.readPicks (f : Nat → Bool) : (s.readPicks f).GenerationLaw := h.handlePicks _
theorem State.GenerationLaw.checkPick (i : Nat) : (s.checkPick i).GenerationLaw := h.readPicks _
theorem State.GenerationLaw.checkPicks : s.checkPicks.GenerationLaw := h.readPicks _

theorem State.GenerationLaw.judgeFences : s.judgeFences.GenerationLaw := by
  have htake (fs : List Fence) : ∀ {t : State}, t.GenerationLaw → (t.takeFences fs).GenerationLaw := by
    induction fs with
    | nil => exact id
    | cons f fs ih =>
      intro t ht
      unfold State.takeFences
      exact .ite (ih ht) ht
  exact .ite h (htake _ h.checkPicks)

/-! ### Damaged contexts -/

theorem State.GenerationLaw.faultVictim (i : Nat) : (s.faultVictim i).GenerationLaw := (h.close i _).dropReference i

theorem State.GenerationLaw.darkenIfCold (c : Context) : (s.darkenIfCold c).GenerationLaw := .ite h h

theorem State.GenerationLaw.emptyContext {ci : Nat} {c : Context} (hc : c.GenerationLaw) :
    (s.emptyContext ci c).GenerationLaw := by
  have hvictims := foldl_generationLaw _ (fun _ i hs => hs.faultVictim i) (s.victims ci)
    (h.putContext ci (hc.emptied s.paused))
  exact .ite ((hvictims.freeContext ci).darkenIfCold c) (hvictims.settleContext ci)

theorem State.GenerationLaw.damageContext (ci : Nat) : (s.damageContext ci).GenerationLaw := by
  unfold State.damageContext
  split
  · exact (h.freeContext ci).reportFault _ _
  · next hc => exact (h.emptyContext (h.contextAt hc)).walkDeferred.reportFault _ _

theorem State.GenerationLaw.damageInTurn (ci : Nat) : (s.damageInTurn ci).GenerationLaw :=
  .ite (h.reportFault _ _) (h.damageContext ci)

theorem State.GenerationLaw.damagePickInTurn (i : Nat) : (s.damagePickInTurn i).GenerationLaw :=
  .ite (h.reportFault _ _) (h.handlePick i)

theorem State.GenerationLaw.damageContexts (bad : List Nat) : (s.damageContexts bad).GenerationLaw := by
  have hcontexts := foldl_generationLaw _ (fun _ ci hs => hs.damageInTurn ci) bad h
  exact .ite (foldl_generationLaw _ (fun _ i hs => hs.damagePickInTurn i) _ hcontexts) hcontexts

/-! ### Confirmations and presses -/

theorem State.GenerationLaw.closeBundle (size : Nat) (b : Bool) (position : Nat) (is cs : List Nat) :
    (s.closeBundle size b position is cs).GenerationLaw := by
  induction is generalizing s position cs with
  | nil => exact h
  | cons i is ih =>
    cases cs with
    | nil => exact h
    | cons n cs => exact ih (h.close i _) _ _

theorem State.GenerationLaw.closeClaim (ci serial : Nat) : (s.closeClaim ci serial).GenerationLaw := by
  unfold State.closeClaim
  split
  · exact h
  · next hc => exact (h.putContext ci ((h.contextAt hc).removeClaim _ _ _)).settleContext ci

theorem State.GenerationLaw.confirm (ci : Nat) (k : Claim) (n : Nat) (b : Bool) : (s.confirm ci k n b).GenerationLaw := by
  have hclosed := (h.closeBundle k.bundle.length b 1 k.bundle (apportion n (k.bundle.map s.requestedOf))).closeClaim ci k.serial
  exact State.GenerationLaw.placementPass (.ite hclosed.judgeFences hclosed)

theorem State.GenerationLaw.offer (r : OutcomeRecord) : (s.offer r).GenerationLaw := .ite h h

theorem State.GenerationLaw.strayPress (n a : Nat) (e : PressEvent) (cause : Cause) (slot lane : Nat) :
    (s.strayPress n a e cause slot lane).GenerationLaw := by
  unfold State.strayPress
  split
  · exact .ite (h.offer _) h
  · exact h

theorem State.GenerationLaw.adjustPress (n a : Nat) (e : PressEvent) (ci : Nat) (k : Claim) :
    (s.adjustPress n a e ci k).GenerationLaw := by
  unfold State.adjustPress
  split
  · exact h
  · next hc => exact .ite (h.strayPress _ _ _ _ _ _) (h.putContext ci ((h.contextAt hc).adjust _ _ _ _ _))

theorem State.GenerationLaw.confirmPress (ci : Nat) (k : Claim) (q : Nat) : (s.confirmPress ci k q).GenerationLaw := by
  unfold State.confirmPress
  split
  · exact h
  · split <;> exact h.confirm _ _ _ _

theorem State.GenerationLaw.checkPressed (n a : Nat) (e : PressEvent) : (s.checkPressed n a e).GenerationLaw := by
  unfold State.checkPressed
  split
  · exact h.readPicks _
  · exact h

theorem State.GenerationLaw.attributePress (n a : Nat) (e : PressEvent) : (s.attributePress n a e).GenerationLaw := by
  have hc := h.checkPressed n a e
  unfold State.attributePress
  dsimp only
  split
  · exact hc.strayPress _ _ _ _ _ _
  · split
    · exact hc.confirmPress _ _ _
    · exact hc.adjustPress _ _ _ _ _

end Table

end Sys2Proof.Machine
end

section
/-! Proofs of the family of 02 (slot contexts, claims and faces), fourth part: the generation law through string work, the intake, the
run states and the timers, and through every command (O60). -/

namespace Sys2Proof.Machine

/-! ### The lines -/

theorem State.GenerationLaw.offerString {s : State} (h : s.GenerationLaw) (n : Nat) (k : RecordKind) (cause : Cause) (m : Nat) :
    (s.offerString n k cause m).GenerationLaw := .ite h h

section Lines

variable {s : State} (h : s.GenerationLaw) (n : Nat)
include h

theorem State.GenerationLaw.closeSurvey (good : Nat) : (s.closeSurvey n good).GenerationLaw := by
  unfold State.closeSurvey
  split
  · exact h.offerString _ _ _ _
  · exact h.offerString _ _ _ _
  · exact h

theorem State.GenerationLaw.settleMode : (s.settleMode n).GenerationLaw := by
  unfold State.settleMode
  refine .ite h ?_
  split
  · exact .ite h (.ite h h)
  · exact .ite h h
  · exact .ite h h
  · exact h

/-- A hot turn writes a context only to send its due set (R40, R79). -/
theorem State.GenerationLaw.hotTurn (a : Nat) : (s.hotTurn n a).GenerationLaw := by
  unfold State.hotTurn
  refine .ite h ?_
  split
  · next ci _ =>
    split
    · next c hc =>
      split
      · next hdue =>
        rw [Bool.and_eq_true] at hdue
        exact (h.setString n _).putContext ci ((h.contextAt hc).send hdue.1)
      · exact h
    · exact h
  · exact h

theorem State.GenerationLaw.coldTurnAt (a : Nat) : (s.coldTurnAt n a).GenerationLaw := .ite h h

theorem State.GenerationLaw.roundTurn : (s.roundTurn n).GenerationLaw := by
  unfold State.roundTurn
  dsimp only
  split
  · exact h.hotTurn n _
  · split
    · exact (h.setString n _).coldTurnAt n _
    · split
      · exact (h.setString n _).hotTurn n _
      · exact h

theorem State.GenerationLaw.quietTurn : (s.quietTurn n).GenerationLaw := by
  unfold State.quietTurn
  refine .ite ?_ h
  dsimp only
  split
  · exact (h.setString n _).coldTurnAt n _
  · exact h

theorem State.GenerationLaw.sweepTurn (w : Sweep) : (s.sweepTurn n w).GenerationLaw := .ite h h

theorem State.GenerationLaw.turn : (s.turn n).GenerationLaw := by
  unfold State.turn
  dsimp only
  split
  · split
    · exact h.sweepTurn n _
    · exact h
  · split
    · exact h.sweepTurn n _
    · exact h.quietTurn n
  · exact h.roundTurn n
  · exact h

theorem State.GenerationLaw.endSweep : (s.endSweep n).GenerationLaw := by
  unfold State.endSweep
  dsimp only
  split
  · refine .ite ?_ h
    split
    · exact h.closeSurvey n _
    · exact h
    · exact h
  · exact h

theorem State.GenerationLaw.runLine : (s.runLine n).GenerationLaw := by
  have hmode := h.settleMode n
  unfold State.runLine
  dsimp only
  split
  · split
    · exact hmode
    · exact (hmode.endSweep n).turn n
  · exact hmode

omit n in
theorem State.GenerationLaw.eachString {f : State → Nat → State} (hf : ∀ t n, t.GenerationLaw → (f t n).GenerationLaw) :
    (s.eachString f).GenerationLaw := foldl_generationLaw f hf _ h

omit n in
theorem State.GenerationLaw.kick : s.kick.GenerationLaw :=
  h.eachString fun _ n ht => ht.runLine n

omit n in
theorem State.GenerationLaw.checkContexts : s.checkContexts.GenerationLaw := .ite h (h.damageContexts _).kick

end Lines

/-! ### Replies, misses and feed faults -/

section Exchanges

variable {s : State} (h : s.GenerationLaw)
include h

theorem State.GenerationLaw.offerModule (n a : Nat) (k : RecordKind) (cause : Cause) :
    (s.offerModule n a k cause).GenerationLaw := .ite (h.offer _) h

theorem State.GenerationLaw.releaseContext (ci : Nat) : (s.releaseContext ci).GenerationLaw := by
  unfold State.releaseContext
  split
  · exact .ite (h.freeContext ci).placementPass h
  · exact h

theorem State.GenerationLaw.reportContext (ci : Nat) {c : Context} (hc : c.GenerationLaw) :
    (s.reportContext ci c).GenerationLaw := (h.putContext ci hc).releaseContext ci

theorem State.GenerationLaw.displayReport (ci : Nat) (reboot : Bool) (generation : Nat) :
    (s.displayReport ci reboot generation).GenerationLaw := by
  unfold State.displayReport
  split
  · next hc => exact h.reportContext ci ((h.contextAt hc).display _ _)
  · exact h

theorem State.GenerationLaw.hearPresses (n a : Nat) (k : ExchangeKind) (r : Reply) :
    (s.hearPresses n a k r).GenerationLaw := by
  have hd : (s.restartDormancy n a r).GenerationLaw := .ite h h
  unfold State.hearPresses
  exact .ite (foldl_generationLaw _ (fun _ e ht => ht.attributePress n a e) _ hd) hd

theorem State.GenerationLaw.hearStatus (n a : Nat) (reboot : Bool) (r : Reply) :
    (s.hearStatus n a reboot r).GenerationLaw := by
  unfold State.hearStatus
  extract_lets was reported link present back full link
  have hr : reported.GenerationLaw := by
    unfold reported
    split
    · exact h.displayReport _ _ _
    · exact h
  have hb : back.GenerationLaw := .ite (State.GenerationLaw.offerModule (s := present) hr _ _ _ _) hr
  have hf : full.GenerationLaw := .ite (hb.offerModule _ _ _ _) hb
  exact .ite hf hf

theorem State.GenerationLaw.exchangeHeard (n a : Nat) (k : ExchangeKind) (w : Bool) (r : Reply) :
    (s.exchangeHeard n a k w r).GenerationLaw := by
  have hr : ((s.endLine n).handleReply n a k r).GenerationLaw :=
    (State.GenerationLaw.hearPresses (s := s.endLine n) h n a k r).hearStatus _ _ _ _
  have hw : (((s.endLine n).handleReply n a k r).sweepHeard n a k r).GenerationLaw := by
    unfold State.sweepHeard
    dsimp only
    split <;> exact hr
  exact State.GenerationLaw.kick (.ite hw hr)

theorem State.GenerationLaw.reportLost (n a : Nat) : (s.reportLost n a).GenerationLaw := by
  unfold State.reportLost
  split
  · split
    · next hc =>
      exact .ite ((h.putContext _ ((h.contextAt hc).endPin _ _)).settleContext _).placementPass (h.releaseContext _)
    · exact h
  · exact h

theorem State.GenerationLaw.becomeLost (n a : Nat) : (s.becomeLost n a).GenerationLaw :=
  ((h.setLink n a _).reportLost n a).offerModule n a _ _

theorem State.GenerationLaw.dropPending (n a : Nat) : (s.dropPending n a).GenerationLaw := by
  unfold State.dropPending
  split
  · split
    · next hc => exact h.reportContext _ (h.contextAt hc).dropPending
    · exact h
  · exact h

theorem State.GenerationLaw.missHot (n a : Nat) (k : ExchangeKind) : (s.missHot n a k).GenerationLaw := by
  unfold State.missHot
  extract_lets m counted dropped
  have hd : dropped.GenerationLaw := .ite (State.GenerationLaw.dropPending (s := counted) h n a) h
  exact .ite (hd.becomeLost n a) hd

theorem State.GenerationLaw.exchangeMissed (n a : Nat) (k : ExchangeKind) (w : Bool) :
    (s.exchangeMissed n a k w).GenerationLaw := by
  have hm : ((s.endLine n).handleMiss n a k w).GenerationLaw :=
    .ite (State.GenerationLaw.missHot (s := s.endLine n) h n a k) h
  have hw : (((s.endLine n).handleMiss n a k w).sweepMissed n a k).GenerationLaw := by
    unfold State.sweepMissed
    dsimp only
    split <;> exact hm
  exact State.GenerationLaw.kick (.ite hw hm)

theorem State.GenerationLaw.feedCloses (n : Nat) : (s.feedCloses n).GenerationLaw := by
  unfold State.feedCloses
  split
  case h_5 => exact h
  all_goals exact h.offerString _ _ _ _

theorem State.GenerationLaw.takeFeedFault (n : Nat) : (s.takeFeedFault n).GenerationLaw := by
  have hdrop : (s.dropInFlight n).GenerationLaw := by
    unfold State.dropInFlight
    split
    · exact h.dropPending n _
    · exact h
  have hcloses := hdrop.feedCloses n
  refine State.generationLaw_of_contexts ?_ (State.raise_contexts _ _)
  exact foldl_generationLaw _ (fun _ a ht => (ht.reportLost n a).offerModule n a _ _) _ hcloses

theorem State.GenerationLaw.judgeFeed (n : Nat) : (s.judgeFeed n).GenerationLaw := .ite (.ite h (h.takeFeedFault n)) h

theorem State.GenerationLaw.reoffer (free : Nat) : (s.reoffer free).GenerationLaw :=
  .ite (h.checkContexts.of_outside (State.offerHead_outside _)).kick h

theorem State.GenerationLaw.moduleReply (n : Nat) (frame : List Byte) : (s.moduleReply n frame).GenerationLaw := by
  unfold State.moduleReply
  split
  · split
    · exact (h.checkContexts.exchangeHeard _ _ _ _ _).reoffer _
    · exact h.checkContexts.exchangeMissed _ _ _ _
  · exact h

theorem State.GenerationLaw.exchangeMiss (n : Nat) : (s.exchangeMiss n).GenerationLaw := by
  unfold State.exchangeMiss
  split
  · exact h.checkContexts.exchangeMissed _ _ _ _
  · exact h

theorem State.GenerationLaw.broadcastEnd (n : Nat) : (s.broadcastEnd n).GenerationLaw := by
  unfold State.broadcastEnd
  split
  · exact (h.checkContexts.setString n _).kick
  · exact h

theorem State.GenerationLaw.stringEvent (n : Nat) (f : StringCtl → StringCtl) : (s.stringEvent n f).GenerationLaw :=
  (h.checkContexts.setString n _).kick

theorem State.GenerationLaw.feedInput (n : Nat) (asserted : Bool) : (s.feedInput n asserted).GenerationLaw :=
  ((h.checkContexts.setString n _).judgeFeed n).kick

end Exchanges

/-! ### The intake -/

section Records

variable {s : State} (h : s.GenerationLaw)
include h

theorem State.GenerationLaw.consumed : s.consumed.GenerationLaw := by
  refine State.GenerationLaw.kick (State.GenerationLaw.of_outside ?_ (State.afterHead_outside _))
  refine State.generationLaw_of_contexts h ?_
  unfold State.consumeHead
  dsimp only
  split <;> simp

theorem State.GenerationLaw.place (i : Nat) (p : Pick) (fields : Option AtlasFields) : (s.place i p fields).GenerationLaw := by
  unfold State.place
  split
  · split
    · next ht => exact h.putInto ht
    · exact h
  · split
    · exact h.createFor _ i p _
    · exact h

theorem State.GenerationLaw.takePick (i : Nat) (r : TaskRecord) (fields : Option AtlasFields) :
    (s.takePick i r fields).GenerationLaw := by
  unfold State.takePick
  dsimp only
  split
  · exact (((h.setPick i _).setPm _).setIu _).close i _
  · exact (((h.setPick i _).setPm _).setIu _).place i _ fields

theorem State.GenerationLaw.offerPick (r : TaskRecord) (fields : Option AtlasFields) : (s.offerPick r fields).GenerationLaw := by
  unfold State.offerPick
  split
  · exact (h.takePick _ r fields).consumed
  · exact h

theorem State.GenerationLaw.startRecordFetch : s.startRecordFetch.GenerationLaw := h.of_outside s.startRecordFetch_outside

theorem State.GenerationLaw.takeHeadPick (r : TaskRecord) : (s.takeHeadPick r).GenerationLaw := by
  have hask := h.of_outside (s.askAtlas_outside r.slot.toNat)
  unfold State.takeHeadPick
  refine .ite ?_ (h.offerPick r none)
  split
  · next he =>
    rw [he] at hask
    exact hask.offerPick r _
  · next he =>
    rw [he] at hask
    exact hask.startRecordFetch

theorem State.GenerationLaw.checkTables : s.checkTables.GenerationLaw := h.checkContexts.checkPicks

theorem State.GenerationLaw.headPick : s.headPick.GenerationLaw := by
  unfold State.headPick
  split
  · exact .ite (h.checkTables.takeHeadPick _).kick h
  · exact h

theorem State.GenerationLaw.headQualifier : s.headQualifier.GenerationLaw := by
  unfold State.headQualifier
  split
  · exact .ite (h.checkContexts.setIu _).consumed h
  · exact h

theorem State.GenerationLaw.directive (k : TaskKind) (room : Bool) {act : State → TaskRecord → State}
    (hact : ∀ r, (act s r).GenerationLaw) : (s.directive k room act).GenerationLaw := by
  unfold State.directive
  split
  · exact .ite (.ite (hact _).consumed h.startRecordFetch) h
  · exact h

theorem State.GenerationLaw.cancel (r : TaskRecord) : (s.cancel r).GenerationLaw := by
  unfold State.cancel
  split
  · exact h
  · exact h
  · split
    · exact (h.undefer _).close _ _
    · exact h.withdraw _ _ _ _

theorem State.GenerationLaw.amendPlaced (i : Nat) (p : Pick) (ci : Nat) (k : Claim) (quantity : Nat) :
    (s.amendPlaced i p ci k quantity).GenerationLaw := by
  unfold State.amendPlaced
  extract_lets written corrected
  have hc : corrected.GenerationLaw := by
    unfold corrected
    split
    · next hc => exact (h.setPick i _).putContext ci ((h.contextAt hc).correct _ _ _ _ _)
    · exact h
  exact .ite hc.placementPass hc

theorem State.GenerationLaw.amend (r : TaskRecord) : (s.amend r).GenerationLaw := by
  unfold State.amend
  refine .ite h ?_
  split
  · exact h
  · exact h
  · split
    · exact h
    · exact .ite h (h.amendPlaced _ _ _ _ _)

theorem State.GenerationLaw.refuse (r : TaskRecord) (cause : Cause) : (s.refuse r cause).GenerationLaw := h

theorem State.GenerationLaw.setupLane (r : TaskRecord) : (s.setupLane r).GenerationLaw := by
  unfold State.setupLane
  split <;> exact h

theorem State.GenerationLaw.atlasDrop (r : TaskRecord) : (s.atlasDrop r).GenerationLaw := by
  refine .ite h ?_
  have hways := h.of_outside (foldl_outside _ (State.dropWay_outside r.slot.toNat r.quantity.toNat)
    (List.range s.ac.ways.length) s)
  refine State.generationLaw_of_contexts hways ?_
  unfold State.dropAtlas State.voidAhead
  dsimp only
  split <;> rfl

theorem State.GenerationLaw.addFence (r : TaskRecord) : (s.addFence r).GenerationLaw :=
  (h.reserve.setPm _).judgeFences

theorem State.GenerationLaw.lightTest (r : TaskRecord) : (s.lightTest r).GenerationLaw := .ite h (.ite h (.ite h h))

theorem State.GenerationLaw.census (r : TaskRecord) : (s.census r).GenerationLaw :=
  .ite h (.ite h (.ite ((h.reserve.setString _ _).judgeFeed _) (.ite h h)))

end Records

/-! ### The run states -/

theorem State.generationLaw_discardRun (s : State) (parity : Bool) : (s.discardRun parity).GenerationLaw :=
  State.generationLaw_of_free fun _ he => by rw [List.eq_of_mem_replicate he]

theorem State.generationLaw_power (s : State) : s.power.GenerationLaw :=
  State.generationLaw_of_free fun _ he => by rw [List.eq_of_mem_replicate he]

theorem State.generationLaw_clearRun (s : State) : s.clearRun.GenerationLaw :=
  ((State.generationLaw_discardRun _ true).mapStrings _).kick

theorem State.generationLaw_resetAll (s : State) (link soft : Bool) : (s.resetAll link soft).GenerationLaw :=
  (((State.generationLaw_discardRun _ false).setTiu _).mapStrings _).kick

section RunStates

variable {s : State} (h : s.GenerationLaw)
include h

theorem State.GenerationLaw.setNotices (notice mask : BitVec 6) : (s.setNotices notice mask).GenerationLaw :=
  State.generationLaw_of_contexts h (s.setNotices_contexts notice mask)

theorem State.GenerationLaw.issueStart : s.issueStart.GenerationLaw :=
  State.generationLaw_of_contexts h (by simp [State.issueStart])

/-- A sweep of the table frees entries and writes no context (R175). -/
theorem State.GenerationLaw.sweep (lo hi : Nat) : (s.sweep lo hi).GenerationLaw := by
  have hmem (l : List ContextEntry) (n : Nat) (e : ContextEntry)
      (he : e ∈ mapBetween lo hi (fun _ => { parity := true, context := none }) n l) : e ∈ l ∨ e.context = none := by
    induction l generalizing n with
    | nil => cases he
    | cons x xs ih =>
      obtain rfl | he := List.mem_cons.1 he
      · split
        · exact .inr rfl
        · exact .inl List.mem_cons_self
      · exact (ih (n + 1) he).imp_left (List.mem_cons_of_mem _)
  intro e he c hc
  obtain he | hn := hmem _ _ e he
  · exact h e he c hc
  · exact nomatch hn.symm.trans hc

theorem State.GenerationLaw.rebuildAll : s.rebuildAll.GenerationLaw := by
  intro e he c hc
  obtain ⟨x, hx, rfl⟩ := List.mem_map.1 he
  split at hc
  · next d hd => exact Option.some.inj hc ▸ (h x hx d hd).turnRun _ _
  · exact h x hx c hc

theorem State.GenerationLaw.sealBlock : s.sealBlock.GenerationLaw := by
  refine State.generationLaw_of_contexts h ?_
  unfold State.sealBlock
  split <;> simp

theorem State.GenerationLaw.enterHalted : s.enterHalted.GenerationLaw := by
  have hr := (h.setLrc { s.lrc with run := .halted }).rebuildAll
  have hp : (if s.anyPin then (s.setLrc { s.lrc with run := .halted }).rebuildAll.placementPass
      else (s.setLrc { s.lrc with run := .halted }).rebuildAll).GenerationLaw := .ite hr.placementPass hr
  exact State.GenerationLaw.kick (.ite (hp.mapStrings _) (hp.mapStrings _).sealBlock)

theorem State.GenerationLaw.issuePoll : s.issuePoll.GenerationLaw := by
  refine State.generationLaw_of_contexts h ?_
  unfold State.issuePoll State.endInterval
  split <;> simp

theorem State.GenerationLaw.offerHead : s.offerHead.GenerationLaw := h.of_outside s.offerHead_outside

theorem State.GenerationLaw.candidateSearch : s.candidateSearch.GenerationLaw := h.of_outside s.candidateSearch_outside

theorem State.GenerationLaw.resumePoll : s.resumePoll.GenerationLaw := by
  unfold State.resumePoll
  split
  · exact h.issuePoll
  · exact h

theorem State.GenerationLaw.resumeFetch : s.resumeFetch.GenerationLaw := by
  unfold State.resumeFetch
  refine State.GenerationLaw.startRecordFetch ?_
  split <;> exact h

theorem State.GenerationLaw.resumeAtlas : s.resumeAtlas.GenerationLaw := by
  unfold State.resumeAtlas
  extract_lets demandHeld aheadHeld _ freed _ _ released
  have hf : freed.GenerationLaw := .ite h h
  have hr : released.GenerationLaw := .ite hf hf
  exact State.GenerationLaw.candidateSearch (.ite hr.offerHead hr)

theorem State.GenerationLaw.enterRunning : s.enterRunning.GenerationLaw :=
  ((h.setLrc _).rebuildAll.resumePoll.resumeFetch.resumeAtlas.mapStrings _).kick

theorem State.GenerationLaw.failStart (v : Verdict) : (s.failStart v).GenerationLaw :=
  State.generationLaw_of_contexts h (State.raise_contexts _ _)

theorem State.GenerationLaw.linkFault : s.linkFault.GenerationLaw := by
  have hr : (s.raise .link).GenerationLaw := State.generationLaw_of_contexts h (State.raise_contexts _ _)
  exact .ite hr.enterHalted hr

theorem State.GenerationLaw.failAt (r : ReadRef) (least : Nat) : (s.failAt r least).GenerationLaw := by
  have hc := h.checkContexts
  unfold State.failAt
  split
  · refine .ite ?_ h
    cases r with
    | startRead => exact hc.failStart _
    | voided _ => exact hc
    | _ => exact State.GenerationLaw.linkFault hc
  · exact h

theorem State.GenerationLaw.judgeStart (hostLine block : List Byte) : (s.judgeStart hostLine block).GenerationLaw := by
  have hblocks (u : Setup) : ((s.startBlocks u).partLine.judgeJournal false).GenerationLaw :=
    State.generationLaw_of_contexts h (by simp [State.startBlocks])
  have hstring (u : Setup) (t : State) (n : Nat) (ht : t.GenerationLaw) : (State.startString u t n).GenerationLaw :=
    (ht.setString n _).judgeFeed n
  unfold State.judgeStart
  split
  · exact ((hblocks _).eachString (hstring _)).kick
  · exact h.failStart _

theorem State.GenerationLaw.discardVoided (place : Nat) : (s.discardVoided place).GenerationLaw := by
  unfold State.discardVoided
  split
  · exact State.GenerationLaw.candidateSearch h.checkContexts
  · exact State.GenerationLaw.candidateSearch h.checkContexts
  · exact h
  · exact h

theorem State.GenerationLaw.prompt : s.prompt.GenerationLaw := by
  unfold State.prompt
  split
  · exact h.issuePoll
  · exact h
  · exact h

omit h in
theorem State.raiseExchange_contexts (s : State) (post release : Bool) :
    (s.raiseExchange post release).contexts = s.contexts := by
  unfold State.raiseExchange
  split
  · exact State.raise_contexts _ _
  · rfl

theorem State.GenerationLaw.pollArrives (hostLine : List Byte) : (s.pollArrives hostLine).GenerationLaw := by
  unfold State.pollArrives
  split
  · exact h
  · extract_lets posted released advanced _ polled raised _ judged started
    have hs : started.GenerationLaw := by
      refine State.GenerationLaw.startRecordFetch (State.generationLaw_of_contexts h ?_)
      exact (State.judgeJournal_contexts _ _).trans (State.raiseExchange_contexts polled _ _)
    exact .ite hs.issuePoll hs

theorem State.GenerationLaw.fetchArrives (n : Nat) (data : List Byte) : (s.fetchArrives n data).GenerationLaw := by
  unfold State.fetchArrives
  extract_lets _ queued offered
  have ho : offered.GenerationLaw := .ite (State.GenerationLaw.offerHead (s := queued) h) h
  exact State.GenerationLaw.candidateSearch (.ite ho ho.startRecordFetch)

theorem State.GenerationLaw.demandArrives (slot : Nat) (f : AtlasFields) : (s.demandArrives slot f).GenerationLaw :=
  ((h.of_outside (s.install_outside slot f)).setAc _).offerHead.candidateSearch

theorem State.GenerationLaw.aheadArrives (slot : Nat) (f : AtlasFields) : (s.aheadArrives slot f).GenerationLaw :=
  State.GenerationLaw.candidateSearch (.ite ((h.setAc _).setIu _).offerHead (h.setAc _))

/-! ### Timers and the journal -/

theorem State.GenerationLaw.goOverdue (i : Nat) : (s.goOverdue i).GenerationLaw := by
  unfold State.goOverdue
  split
  · exact .ite ((h.setPick i _).offer _) h
  · exact h

theorem State.GenerationLaw.expireLinger (ci serial : Nat) : (s.expireLinger ci serial).GenerationLaw := by
  cases hc : s.contextAt ci with
  | some c =>
    rw [State.expireLinger_eq hc]
    have hset : (c.setClaim serial Claim.lingered).GenerationLaw := (h.contextAt hc).of_sets rfl rfl rfl
    exact h.putContext ci (hset.rebuild _ _)
  | none =>
    rw [State.expireLinger, hc]
    exact h

theorem State.GenerationLaw.expirePin (ci : Nat) : (s.expirePin ci).GenerationLaw := by
  unfold State.expirePin
  split
  · next hc => exact .ite (h.putContext ci ((h.contextAt hc).endPin _ _)).placementPass h
  · exact h

theorem State.GenerationLaw.closeBlock (u : Setup) (fence : Bool) : (s.closeBlock u fence).GenerationLaw :=
  .ite h.sealBlock h

theorem State.GenerationLaw.writeRecord (u : Setup) (data : List Byte) : (s.writeRecord u data).GenerationLaw :=
  State.generationLaw_of_contexts h (State.linkWrite_contexts _ _ _)

theorem State.GenerationLaw.examineFences : s.examineFences.GenerationLaw := .ite h h.checkContexts.judgeFences.kick

theorem State.GenerationLaw.writePick (u : Setup) (i : Nat) : (s.writePick u i).GenerationLaw := by
  unfold State.writePick
  dsimp only
  split
  · exact ((((h.checkPick i).writeRecord u _).release i).examineFences.reoffer _).closeBlock u _
  · exact h

theorem State.GenerationLaw.writeOldest : s.writeOldest.GenerationLaw := by
  unfold State.writeOldest
  split
  · exact h.writePick _ _
  · exact ((h.writeRecord _ _).setJw _).closeBlock _ _
  · exact h

end RunStates

/-! ### Every command -/

/-- The law holds of the next state that a command answers, where it answers one. -/
def Result.KeepsGenerations (r : Result) : Prop := ∀ t, r = .next t → t.GenerationLaw

theorem keepsGenerations_next {t : State} (h : t.GenerationLaw) : Result.KeepsGenerations (.next t) := by
  rintro u ⟨⟩
  exact h

theorem keepsGenerations_attempt {s t : State} (b : Bool) (h : s.GenerationLaw) (ht : t.GenerationLaw) :
    Result.KeepsGenerations (attempt b s t) := keepsGenerations_next (.ite ht h)

theorem keepsGenerations_action {s t : State} (b : Bool) (h : s.GenerationLaw) (ht : t.GenerationLaw) :
    Result.KeepsGenerations (action b s t) := keepsGenerations_next (.ite ht h)

theorem keepsGenerations_wellFormed {r : Result} (i : Instr) (h : r.KeepsGenerations) : (wellFormed i r).KeepsGenerations := by
  unfold wellFormed
  split
  · exact h
  · exact fun u hu => nomatch hu

/-- Every command keeps the generation law of every context. -/
theorem exec_generationLaw {s : State} (h : s.GenerationLaw) (c : Instr) : Result.KeepsGenerations (exec c s) := by
  cases c with
  | powerOn => exact keepsGenerations_next s.generationLaw_power
  | linkReset => exact keepsGenerations_next (s.generationLaw_resetAll _ _)
  | sweepDone => exact keepsGenerations_attempt _ h ((h.sweep _ _).setLrc _)
  | start => exact keepsGenerations_action _ h h.issueStart
  | halt => exact keepsGenerations_action _ h h.checkContexts.enterHalted
  | resume => exact keepsGenerations_action _ h h.checkContexts.enterRunning
  | clear => exact keepsGenerations_action _ h s.generationLaw_clearRun
  | reset => exact keepsGenerations_next (s.generationLaw_resetAll _ _)
  | prompt => exact keepsGenerations_action _ h h.prompt
  | actionOutOfRange v => exact keepsGenerations_wellFormed _ (keepsGenerations_next (h.setLrc _))
  | exbaseWrite hi v => exact keepsGenerations_action _ h (.ite (h.setLrc _) (h.setLrc _))
  | noticeWrite v => exact keepsGenerations_next ((h.setLrc _).setNotices _ _)
  | noticeMaskWrite v => exact keepsGenerations_next (h.setNotices _ _)
  | faultWhereWrite v => exact keepsGenerations_next h
  | stateRead => exact keepsGenerations_next h
  | registerWriteIgnored o v => exact keepsGenerations_wellFormed _ (keepsGenerations_next h)
  | startReadArrival hostLine block =>
    exact keepsGenerations_wellFormed _ (keepsGenerations_attempt _ h (h.judgeStart hostLine block))
  | linkReadError r =>
    cases r with
    | voided place => exact keepsGenerations_next (h.setLrc _)
    | _ => exact keepsGenerations_next (h.failAt _ 0)
  | linkReadTimeout r => exact keepsGenerations_next (h.failAt r 50)
  | voidedReadArrival place => exact keepsGenerations_next (h.discardVoided place)
  | headerPollIssue => exact keepsGenerations_attempt _ h h.issuePoll
  | headerPollArrival hostLine =>
    exact keepsGenerations_wellFormed _ (keepsGenerations_attempt _ h (h.pollArrives hostLine))
  | recordFetchArrival data =>
    exact keepsGenerations_wellFormed _ (keepsGenerations_attempt _ h (h.checkContexts.fetchArrives _ data))
  | atlasDemandArrival entry =>
    exact keepsGenerations_wellFormed _ (keepsGenerations_attempt _ h (h.checkContexts.demandArrives _ _))
  | atlasLookaheadArrival entry =>
    exact keepsGenerations_wellFormed _ (keepsGenerations_attempt _ h (h.checkContexts.aheadArrives _ _))
  | pick => exact keepsGenerations_next h.headPick
  | qualifier => exact keepsGenerations_next h.headQualifier
  | cancel => exact keepsGenerations_next (h.directive _ _ fun r => h.checkTables.cancel r)
  | amend => exact keepsGenerations_next (h.directive _ _ fun r => h.checkTables.amend r)
  | laneSetup => exact keepsGenerations_next (h.directive _ _ fun r => h.checkTables.setupLane r)
  | atlasDrop => exact keepsGenerations_next (h.directive _ _ fun r => h.checkContexts.atlasDrop r)
  | fence => exact keepsGenerations_next (h.directive _ _ fun r => h.checkContexts.addFence r)
  | lightTest => exact keepsGenerations_next (h.directive _ _ fun r => h.checkContexts.lightTest r)
  | census => exact keepsGenerations_next (h.directive _ _ fun r => h.checkContexts.census r)
  | skip => exact keepsGenerations_next (h.directive _ _ fun _ => h.checkContexts)
  | unknownKind => exact keepsGenerations_next (h.directive _ _ fun r => h.checkContexts.refuse r _)
  | moduleReply n frame => exact keepsGenerations_next (h.moduleReply n frame)
  | exchangeMiss n => exact keepsGenerations_next (h.exchangeMiss n)
  | broadcastEnd n => exact keepsGenerations_next (h.broadcastEnd n)
  | settlingEnd n => exact keepsGenerations_attempt _ h (h.stringEvent n _)
  | lightTestEnd n => exact keepsGenerations_attempt _ h (h.stringEvent n _)
  | quietPeriod n => exact keepsGenerations_attempt _ h (h.stringEvent n _)
  | dormancyTimeout n => exact keepsGenerations_attempt _ h (h.stringEvent n _)
  | attentionWake n low => exact keepsGenerations_next (h.stringEvent n _)
  | feedFault n asserted => exact keepsGenerations_next (h.feedInput n asserted)
  | abandonTimeout i =>
    exact keepsGenerations_wellFormed _ (keepsGenerations_attempt _ h ((h.checkContexts.checkPick i).goOverdue i).kick)
  | lingerExpiry ci serial =>
    exact keepsGenerations_wellFormed _ (keepsGenerations_attempt _ h (h.checkContexts.expireLinger ci serial).kick)
  | pinTimeout ci =>
    exact keepsGenerations_wellFormed _ (keepsGenerations_attempt _ h (h.checkContexts.expirePin ci).kick)
  | sealTimeout => exact keepsGenerations_attempt _ h h.sealBlock
  | journalWrite => exact keepsGenerations_attempt _ h h.writeOldest

/-- Settles O60: the law of one context is kept by the Slot Manager's work on it, and each command is made of that work. -/
theorem commandsKeepTheGenerationLaw : Obligations.CommandsKeepTheGenerationLaw := by
  unfold Obligations.CommandsKeepTheGenerationLaw
  intro c s t h ht
  exact exec_generationLaw h c t ht

end Sys2Proof.Machine
end

section
/-! Proofs of the family of 02 (slot contexts, claims and faces), fifth part: the join rule, face selection, and what the placement
pass does with a deferred pick (O53). -/

namespace Sys2Proof.Machine

/-! ### The join rule -/

/-- Whether a claim takes a pick into its bundle (R28, step 1). -/
def Context.Joins (c : Context) (p : Pick) (k : Claim) : Prop :=
  k.urgent = p.urgent ∧ (∀ q, c.pin = some q → k.face.isSome = true → q.serial ≠ k.serial) ∧ k.bundle.length < 8 ∧
    k.sum + p.requested ≤ 999

/-- A claim is PINNED when it holds a face and the context's pin names it (Table 2-2). -/
theorem Context.claimState_ne_pinned (c : Context) (k : Claim) :
    c.claimState k ≠ .pinned ↔ ∀ q, c.pin = some q → k.face.isSome = true → q.serial ≠ k.serial := by
  unfold Context.claimState
  cases k.face with
  | none => simp
  | some x => cases c.pin <;> simp

theorem Context.joinable_of_joins {c : Context} {p : Pick} {k : Claim}
    (hlast : (c.claims.filter fun k => k.lane == p.lane).getLast? = some k) (h : c.Joins p k) : c.joinable p = some k := by
  obtain ⟨hurgent, hpin, hbundle, hsum⟩ := h
  simp [Context.joinable, hlast, hurgent, (c.claimState_ne_pinned k).2 hpin, hbundle, hsum]

theorem Context.joinable_eq_none {c : Context} {p : Pick}
    (h : ∀ k, (c.claims.filter fun k => k.lane == p.lane).getLast? = some k → ¬c.Joins p k) : c.joinable p = none := by
  unfold Context.joinable
  split
  · next k hlast =>
    refine if_neg fun hjoins => h k hlast ?_
    simp only [Bool.and_eq_true, beq_iff_eq, bne_iff_ne, decide_eq_true_eq, c.claimState_ne_pinned] at hjoins
    obtain ⟨⟨⟨hurgent, hpin⟩, hbundle⟩, hsum⟩ := hjoins
    exact ⟨hurgent, hpin, hbundle, hsum⟩
  · rfl

/-! ### The serial of a new claim

The search for a serial reads the serials alone, so that what holds of it under the law of claims holds whatever the faces. -/

/-- A claim but for its face and its linger timer, which selection writes. -/
def Claim.still (k : Claim) : Claim := { k with face := none, linger := none }

/-- A context whose claims hold no face. -/
def Context.faceless (c : Context) : Context := { c with claims := c.claims.map Claim.still, desired := FaceSet.nothing }

theorem Context.serialFrom_lt (c : Context) (fuel : Nat) {n : Nat} (h : n < 256) : c.serialFrom fuel n < 256 := by
  induction fuel generalizing n with
  | zero => exact h
  | succ fuel ih =>
    unfold Context.serialFrom
    split
    · exact ih (Nat.mod_lt _ (by decide))
    · exact h

theorem Context.newSerial_lt (c : Context) : c.newSerial < 256 := c.serialFrom_lt 12 (Nat.mod_lt _ (by decide))

theorem Context.serialFrom_congr {c d : Context} (h : ∀ n, c.serialTaken n = d.serialTaken n) (fuel n : Nat) :
    c.serialFrom fuel n = d.serialFrom fuel n := by
  induction fuel generalizing n with
  | zero => rfl
  | succ fuel ih => rw [Context.serialFrom, Context.serialFrom, h, ih]

theorem Context.faceless_serialTaken (c : Context) (n : Nat) : c.faceless.serialTaken n = c.serialTaken n := by
  simp [Context.serialTaken, Context.faceless, Claim.still, Function.comp_def]

theorem Context.serialTaken_newSerial {c : Context} (hclaims : c.claims.length ≤ 6)
    (hserials : (c.claims.map Claim.serial).Nodup) (hdisplayed : c.displayed.faces.length ≤ 3)
    (hpending : ∀ x, c.pending = some x → x.faces.length ≤ 3) : c.serialTaken c.newSerial = false := by
  have hlaw : c.faceless.ClaimLaw := by
    have hfaces : c.faceless.claims.filterMap Claim.face = [] := by
      simp [Context.faceless, Claim.still]
    refine ⟨by simpa [Context.faceless] using hclaims, by simpa [Context.faceless, Claim.still, Function.comp_def] using hserials,
      by simp [hfaces], fun k hk x hx => ?_, Nat.zero_le _, hdisplayed, hpending⟩
    have : x ∈ c.faceless.claims.filterMap Claim.face := List.mem_filterMap.2 ⟨k, hk, hx⟩
    simp [hfaces] at this
  have hsame : c.newSerial = c.faceless.newSerial :=
    Context.serialFrom_congr (fun n => (c.faceless_serialTaken n).symm) 12 _
  rw [hsame, ← c.faceless_serialTaken, ← Bool.not_eq_true, Context.serialTaken_iff]
  exact Context.newSerial_free hlaw

/-! ### What selection leaves of the claims -/

theorem Context.showOne_still (c : Context) (lanes : List Lane) (paused : Bool) :
    (c.showOne lanes paused).claims.map Claim.still = c.claims.map Claim.still := by
  obtain hc | ⟨i, k, -, -, -, -, hc⟩ := c.showOne_cases lanes paused
  · rw [hc]
  · rw [hc, Context.rebuild_claims, Context.setClaim, List.map_map]
    refine List.map_congr_left fun j _ => ?_
    dsimp only [Function.comp_apply]
    split <;> rfl

/-- Selection changes claims in their faces and linger timers alone (R33, R34). -/
theorem Context.select_still (c : Context) (lanes : List Lane) (paused : Bool) :
    (c.select lanes paused).claims.map Claim.still = c.claims.map Claim.still := by
  rw [Context.select, Context.showOne_still, Context.showOne_still, Context.showOne_still]

theorem Context.showOne_nextSerial (c : Context) (lanes : List Lane) (paused : Bool) :
    (c.showOne lanes paused).nextSerial = c.nextSerial := by
  obtain hc | ⟨i, k, -, -, -, -, hc⟩ := c.showOne_cases lanes paused
  · rw [hc]
  · obtain ⟨g, x, hr, -⟩ := Context.rebuild_eq (c.setClaim k.serial fun j =>
      { j with face := some i, linger := lingerStart lanes j.lane }) lanes paused
    rw [hc, hr]
    rfl

theorem Context.select_nextSerial (c : Context) (lanes : List Lane) (paused : Bool) :
    (c.select lanes paused).nextSerial = c.nextSerial := by
  rw [Context.select, Context.showOne_nextSerial, Context.showOne_nextSerial, Context.showOne_nextSerial]

theorem Context.serials_of_still {c d : Context} (h : d.claims.map Claim.still = c.claims.map Claim.still) :
    d.claims.map Claim.serial = c.claims.map Claim.serial := by
  have := congrArg (List.map Claim.serial) h
  simpa [Function.comp_def, Claim.still] using this

/-- Claims that stand but for faces and linger timers are found under their serials. -/
theorem Context.claim_of_still {c d : Context} (h : d.claims.map Claim.still = c.claims.map Claim.still) {n : Nat} {k : Claim}
    (hk : c.claim n = some k) : ∃ j, d.claim n = some j ∧ j.still = k.still := by
  have hfind (e : Context) : (e.claims.map Claim.still).find? (fun j => j.serial == n) = (e.claim n).map Claim.still := by
    rw [List.find?_map]
    rfl
  have hd := hfind d
  rw [h, hfind c, hk] at hd
  obtain ⟨j, hj, hjk⟩ := Option.map_eq_some_iff.1 hd.symm
  exact ⟨j, hj, hjk⟩

/-! ### The end of selection -/

/-- The face indices that no claim holds (R32). -/
def Context.freeIndices (c : Context) : List Nat := c.indices.filter fun i => c.claims.all fun k => k.face != some i

/-- No further claim can be shown (R33). -/
def Context.Selected (c : Context) : Prop := c.freeIndex = none ∨ c.nextToShow = none

theorem Context.freeIndex_eq_head? (c : Context) : c.freeIndex = c.freeIndices.head? := List.head?_filter.symm

theorem Context.freeIndices_length_le (c : Context) : c.freeIndices.length ≤ 3 := by
  refine (List.length_filter_le _ _).trans ?_
  unfold Context.indices
  split <;> simp

/-- A claim that waited and takes a free index leaves fewer of them. -/
theorem Context.freeIndices_setFace {c d : Context} (hserials : (c.claims.map Claim.serial).Nodup) {k : Claim}
    (hk : k ∈ c.claims) (hw : k.face = none) {i : Nat} (hi : i ∈ c.freeIndices) {f : Claim → Claim} (hf : (f k).face = some i)
    (hatlas : d.atlas = c.atlas) (hd : d.claims = (c.setClaim k.serial f).claims) :
    d.freeIndices.length < c.freeIndices.length := by
  obtain ⟨l, m, hlm, hset⟩ := Context.setClaim_split hserials hk f
  have hsub : d.freeIndices.Sublist c.freeIndices := by
    unfold Context.freeIndices Context.indices
    rw [hatlas, hd, hset, hlm]
    refine List.monotone_filter_right _ fun x hx => ?_
    simp only [List.all_append, List.all_cons, Bool.and_eq_true] at hx ⊢
    obtain ⟨hl, -, hm⟩ := hx
    exact ⟨hl, by simp [hw], hm⟩
  refine lt_of_le_of_ne hsub.length_le fun heq => ?_
  rw [← hsub.eq_of_length heq] at hi
  obtain ⟨-, hall⟩ := List.mem_filter.1 hi
  rw [hd, hset, List.all_append, List.all_cons, hf] at hall
  simp at hall

/-- A pass of selection leaves nothing to show, or one free index fewer. -/
theorem Context.showOne_narrows {c : Context} (hserials : (c.claims.map Claim.serial).Nodup) (lanes : List Lane) (paused : Bool)
    {n : Nat} (h : c.Selected ∨ c.freeIndices.length ≤ n + 1) :
    (c.showOne lanes paused).Selected ∨ (c.showOne lanes paused).freeIndices.length ≤ n := by
  cases hi : c.freeIndex with
  | none =>
    have hstay : c.showOne lanes paused = c := by simp [Context.showOne, hi]
    rw [hstay]
    exact .inl (.inl hi)
  | some i =>
    cases hk : c.nextToShow with
    | none =>
      have hstay : c.showOne lanes paused = c := by simp [Context.showOne, hk]
      rw [hstay]
      exact .inl (.inr hk)
    | some k =>
      have hlen := h.resolve_left (by simp [Context.Selected, hi, hk])
      have hmem : i ∈ c.freeIndices := List.mem_of_head? (c.freeIndex_eq_head?.symm.trans hi)
      have hw : k.face = none := by
        have := List.find?_some hk
        simp only [Bool.and_eq_true, Option.isNone_iff_eq_none] at this
        exact this.1
      have hshow : c.showOne lanes paused = (c.setClaim k.serial fun j =>
          { j with face := some i, linger := lingerStart lanes j.lane }).rebuild lanes paused := by
        simp [Context.showOne, hi, hk]
      obtain ⟨g, x, hr, -⟩ := Context.rebuild_eq (c.setClaim k.serial fun j =>
        { j with face := some i, linger := lingerStart lanes j.lane }) lanes paused
      have hless := Context.freeIndices_setFace (d := c.showOne lanes paused)
        (f := fun j => { j with face := some i, linger := lingerStart lanes j.lane }) hserials
        (List.mem_of_find?_eq_some hk) hw hmem rfl (by rw [hshow, hr]; rfl) (by rw [hshow, Context.rebuild_claims])
      exact .inr (by omega)

/-- After selection no further claim can be shown: a slot has three face indices, and selection three passes (R32, R33). -/
theorem Context.select_selected {c : Context} (hserials : (c.claims.map Claim.serial).Nodup) (lanes : List Lane)
    (paused : Bool) : (c.select lanes paused).Selected := by
  have hkeeps (d : Context) (h : (d.claims.map Claim.serial).Nodup) :
      ((d.showOne lanes paused).claims.map Claim.serial).Nodup := by
    rwa [Context.serials_of_still (d.showOne_still lanes paused)]
  have hserials1 := hkeeps c hserials
  have hserials2 := hkeeps _ hserials1
  have h1 := Context.showOne_narrows hserials lanes paused (.inr c.freeIndices_length_le)
  have h2 := Context.showOne_narrows hserials1 lanes paused h1
  obtain h3 | h3 := Context.showOne_narrows hserials2 lanes paused h2
  · exact h3
  · refine .inl ((Context.freeIndex_eq_head? _).trans ?_)
    rw [Context.select, List.eq_nil_of_length_eq_zero (Nat.le_zero.1 h3)]
    rfl

/-! ### What the join rule answers -/

/-- Serials are distinct, so that a claim is found under its own. -/
theorem Context.claim_of_mem {c : Context} (h : (c.claims.map Claim.serial).Nodup) {k : Claim} (hk : k ∈ c.claims) :
    c.claim k.serial = some k := by
  cases hc : c.claim k.serial with
  | none => simpa using List.find?_eq_none.1 hc k hk
  | some j =>
    obtain ⟨hj, hjs⟩ := Context.claim_serial hc
    rw [List.inj_on_of_nodup_map h hj hk hjs]

/-- The serials of a claim list that a new claim has joined (R27). -/
theorem insertClaim_serials (l : List Claim) (k : Claim) : (insertClaim l k).map Claim.serial =
    if k.urgent then (l.takeWhile Claim.urgent).map Claim.serial ++ k.serial :: (l.dropWhile Claim.urgent).map Claim.serial
    else l.map Claim.serial ++ [k.serial] := by
  unfold insertClaim
  split <;> simp

section Offer

variable {c : Context} (lanes : List Lane) (paused : Bool) (i : Nat) (p : Pick)

theorem Context.offer_of_joins {k : Claim} (hlast : (c.claims.filter fun k => k.lane == p.lane).getLast? = some k)
    (h : c.Joins p k) : ∃ d, c.offer lanes paused i p = some d ∧ d.claims =
      c.claims.map fun j => if j.serial = k.serial then { j with bundle := j.bundle ++ [i], sum := j.sum + p.requested } else j := by
  refine ⟨_, by rw [Context.offer, Context.joinable_of_joins hlast h], ?_⟩
  simp [Context.setClaim]

theorem Context.offer_of_room (h : ∀ k, (c.claims.filter fun k => k.lane == p.lane).getLast? = some k → ¬c.Joins p k)
    (hroom : c.claims.length < 6) : c.offer lanes paused i p = some ((c.openClaim i p).select lanes paused) := by
  rw [Context.offer, Context.joinable_eq_none h]
  exact if_pos hroom

theorem Context.offer_of_full (h : ∀ k, (c.claims.filter fun k => k.lane == p.lane).getLast? = some k → ¬c.Joins p k)
    (hfull : c.claims.length = 6) : c.offer lanes paused i p = none := by
  rw [Context.offer, Context.joinable_eq_none h]
  exact if_neg (by omega)

/-- A new claim, after the selection that follows: its place, its serial and what it holds (R27, R33). -/
theorem Context.openClaim_select (hclaims : c.claims.length ≤ 6) (hserials : (c.claims.map Claim.serial).Nodup)
    (hdisplayed : c.displayed.faces.length ≤ 3) (hpending : ∀ x, c.pending = some x → x.faces.length ≤ 3) :
    let d := (c.openClaim i p).select lanes paused
    d.nextSerial = (c.newSerial + 1) % 256 ∧
      d.claims.map Claim.serial =
        (if p.urgent then (c.claims.takeWhile Claim.urgent).map Claim.serial ++ c.newSerial ::
          (c.claims.dropWhile Claim.urgent).map Claim.serial else c.claims.map Claim.serial ++ [c.newSerial]) ∧
      (∃ k, d.claim c.newSerial = some k ∧ k.lane = p.lane ∧ k.urgent = p.urgent ∧ k.bundle = [i] ∧ k.sum = p.requested ∧
        k.lingerExpired = false) ∧ d.Selected := by
  have hfree := Context.serialTaken_newSerial hclaims hserials hdisplayed hpending
  have hnew : c.newSerial ∉ c.claims.map Claim.serial := by
    intro hmem
    have := (c.serialTaken_iff _).2 (List.mem_append_left _ (List.mem_append_left _ hmem))
    simp [hfree] at this
  have hperm := insertClaim_perm c.claims
    { lane := p.lane, urgent := p.urgent, serial := c.newSerial, face := none, linger := none, lingerExpired := false,
      bundle := [i], sum := p.requested }
  have hopen : ((c.openClaim i p).claims.map Claim.serial).Nodup :=
    (hperm.map Claim.serial).nodup_iff.2 (List.nodup_cons.2 ⟨hnew, hserials⟩)
  have hstill := (c.openClaim i p).select_still lanes paused
  refine ⟨(c.openClaim i p).select_nextSerial lanes paused, ?_, ?_, Context.select_selected hopen lanes paused⟩
  · rw [Context.serials_of_still hstill]
    exact insertClaim_serials _ _
  · obtain ⟨k, hk, hks⟩ := Context.claim_of_still hstill
      (Context.claim_of_mem hopen (hperm.mem_iff.2 List.mem_cons_self))
    simp only [Claim.still, Claim.mk.injEq] at hks
    obtain ⟨hlane, hurgent, -, -, -, hexpired, hbundle, hsum⟩ := hks
    exact ⟨k, hk, hlane, hurgent, hbundle, hsum, hexpired⟩

end Offer

/-! ### The visit of a deferred pick -/

/-- An entry of the context table with no free one before it is not free: the table is full (R22). -/
theorem State.lowestFreeContext_eq_none {s : State} (h : ∀ ci < s.contexts.length, s.contextAt ci ≠ none) :
    s.lowestFreeContext = none := by
  refine firstFrom_eq_none _ _ _ fun e he => ?_
  obtain ⟨ci, hci, rfl⟩ := List.mem_iff_getElem.1 he
  have := h ci hci
  simpa [State.contextAt, hci, Option.ne_none_iff_isSome] using this

/-- The lowest-numbered free context entry, read off the table (R22). -/
theorem State.lowestFreeContext_eq_some {s : State} {ci : Nat} (hci : ci < s.contexts.length) (h : s.contextAt ci = none)
    (hl : ∀ cj < ci, s.contextAt cj ≠ none) : s.lowestFreeContext = some ci := by
  have hf := firstFrom_eq_some (fun e : ContextEntry => e.context.isNone) 0 s.contexts ci hci
    (by simpa [State.contextAt, hci] using h) fun cj hj => by
      have := hl cj hj
      simpa [State.contextAt, Nat.lt_trans hj hci, Option.ne_none_iff_isSome] using this
  rwa [Nat.zero_add] at hf

theorem State.contextIntact_of_intact {s : State} (h : ∀ e ∈ s.contexts, e.parity = true) (ci : Nat) :
    s.contextIntact ci = true := by
  unfold State.contextIntact
  cases hc : s.contexts[ci]? with
  | none => rfl
  | some e => simpa using h e (List.mem_of_getElem? hc)

section Visit

variable {s : State} (hs : s.Intact) {i ci : Nat} {p : Pick} {atlas : AtlasCopy} (hp : s.pickAt i = some p)
  (hstage : p.stage = .deferred atlas)
include hs hp hstage

/-- The visit of a deferred pick, on tables with good parity (R15). -/
theorem State.visitDeferred_of_intact : s.visitDeferred i =
    match s.contextOfSlot p.slot with
    | some ci => ((s.putInto ci i p).map fun t => t.undefer i).getD s
    | none => (s.lowestFreeContext.map fun ci =>
        if s.hot atlas.string atlas.address then
          (s.undefer i).close i (s.outcome .refused .moduleShared 0 1 1 false false)
        else (s.createFor ci i p atlas).undefer i).getD s := by
  obtain ⟨hpicks, hcontexts, -⟩ := hs
  simp only [State.visitDeferred, hp, hstage, s.pickIntact_of_intact hpicks, State.contextIntact_of_intact hcontexts,
    s.heldUp_of_intact hpicks]
  cases s.contextOfSlot p.slot with
  | some ci => cases h : s.putInto ci i p <;> simp [h]
  | none => cases s.lowestFreeContext <;> simp

theorem State.visitDeferred_of_joined {c d : Context} (hslot : s.contextOfSlot p.slot = some ci) (hc : s.contextAt ci = some c)
    (ho : c.offer s.pm.lanes s.paused i p = some d) :
    s.visitDeferred i = ((s.setContext ci (some d)).setPick i (some { p with stage := .placed })).undefer i := by
  simp [State.visitDeferred_of_intact hs hp hstage, hslot, State.putInto_eq hc, ho]

theorem State.visitDeferred_of_full {c : Context} (hslot : s.contextOfSlot p.slot = some ci) (hc : s.contextAt ci = some c)
    (ho : c.offer s.pm.lanes s.paused i p = none) : s.visitDeferred i = s := by
  simp [State.visitDeferred_of_intact hs hp hstage, hslot, State.putInto_eq hc, ho]

theorem State.visitDeferred_of_noContext (hslot : s.contextOfSlot p.slot = none) (hfree : s.lowestFreeContext = none) :
    s.visitDeferred i = s := by
  simp [State.visitDeferred_of_intact hs hp hstage, hslot, hfree]

theorem State.visitDeferred_of_created (hslot : s.contextOfSlot p.slot = none) (hfree : s.lowestFreeContext = some ci)
    (hcold : s.hot atlas.string atlas.address = false) : s.visitDeferred i = (s.createFor ci i p atlas).undefer i := by
  simp [State.visitDeferred_of_intact hs hp hstage, hslot, hfree, hcold]

theorem State.visitDeferred_of_shared (hslot : s.contextOfSlot p.slot = none) (hfree : s.lowestFreeContext = some ci)
    (hhot : s.hot atlas.string atlas.address = true) :
    s.visitDeferred i = ((s.undefer i).setPick i (some { p with
      abandon := none, stage := .reporting (s.outcome .refused .moduleShared 0 1 1 false false) })).appendItem (.pick i) := by
  have hp' : (s.undefer i).pickAt i = some p := hp
  simp [State.visitDeferred_of_intact hs hp hstage, hslot, hfree, hhot, State.close_eq hp', State.outcome]

end Visit

/-- Settles O53: the join rule by the last claim of the lane, selection by the free indices it leaves, and the pass by what the visit
of one deferred pick does. -/
theorem picksJoinOrOpenClaims : Obligations.PicksJoinOrOpenClaims := by
  unfold Obligations.PicksJoinOrOpenClaims
  refine ⟨fun c lanes paused i p hclaims hserials hdisplayed hpending => ⟨fun k hlast hjoins => ?_, fun hno hroom => ?_,
    fun hno hfull => ?_⟩, fun slot atlas => rfl, fun s hs => s.placementPass_of_intact hs, fun s i p atlas hs hp hstage =>
    ⟨fun ci c hslot hc => ⟨fun d ho => ?_, fun ho => ?_⟩, fun hslot hused => ?_, fun ci hslot hci hc hlow =>
      ⟨fun hcold => ?_, fun hhot => ?_⟩⟩⟩
  · exact Context.offer_of_joins lanes paused i p hlast hjoins
  · obtain ⟨hnext, hplace, hclaim, hend⟩ := Context.openClaim_select lanes paused i p hclaims hserials hdisplayed hpending
    exact ⟨_, c.newSerial, Context.offer_of_room lanes paused i p hno hroom, c.newSerial_lt,
      Context.serialTaken_newSerial hclaims hserials hdisplayed hpending, hnext, hplace, hclaim, hend⟩
  · exact Context.offer_of_full lanes paused i p hno hfull
  · exact State.visitDeferred_of_joined hs hp hstage hslot hc ho
  · exact State.visitDeferred_of_full hs hp hstage hslot hc ho
  · exact State.visitDeferred_of_noContext hs hp hstage hslot (State.lowestFreeContext_eq_none hused)
  · exact State.visitDeferred_of_created hs hp hstage hslot (State.lowestFreeContext_eq_some hci hc hlow)
      (by simp [State.hot, hcold])
  · exact State.visitDeferred_of_shared hs hp hstage hslot (State.lowestFreeContext_eq_some hci hc hlow)
      (Option.isSome_iff_ne_none.2 hhot)

end Sys2Proof.Machine
end

section
/-! Proofs of the family of 03 (press attribution and apportioning), first part: the division of a confirmed count, what the closing of
one pick leaves, and the presses that adjust a count (O49, O51). -/

namespace Sys2Proof.Machine

/-! ### The division of a confirmed count -/

/-- Each pick but the last takes what it asks for, as far as the count goes (R58). -/
theorem apportion_cons_cons (c r q : Nat) (rs : List Nat) :
    apportion c (r :: q :: rs) = min r c :: apportion (c - min r c) (q :: rs) := rfl

theorem apportion_length (c : Nat) (rs : List Nat) : (apportion c rs).length = rs.length := by
  induction rs generalizing c with
  | nil => rfl
  | cons r rs ih =>
    cases rs with
    | nil => rfl
    | cons q rs => rw [apportion_cons_cons, List.length_cons, ih, List.length_cons (a := r)]

theorem apportion_sum (c : Nat) {rs : List Nat} (h : rs ≠ []) : (apportion c rs).sum = c := by
  induction rs generalizing c with
  | nil => exact absurd rfl h
  | cons r rs ih =>
    cases rs with
    | nil => simp [apportion]
    | cons q rs =>
      rw [apportion_cons_cons, List.sum_cons, ih _ (List.cons_ne_nil q rs)]
      omega

/-- The part of a pick before the last: its request, or what the earlier ones have left (R58). -/
theorem apportion_getD_of_lt (c : Nat) {rs : List Nat} {i : Nat} (h : i + 1 < rs.length) :
    (apportion c rs).getD i 0 = min (rs.getD i 0) (c - (rs.take i).sum) := by
  induction rs generalizing c i with
  | nil => cases h
  | cons r rs ih =>
    cases rs with
    | nil => simp at h
    | cons q rs =>
      rw [apportion_cons_cons]
      cases i with
      | zero => simp
      | succ i =>
        rw [List.getD_cons_succ, List.getD_cons_succ, ih _ (Nat.lt_of_succ_lt_succ h), List.take_succ_cons, List.sum_cons]
        omega

/-- The part of the last pick: what the earlier ones have left (R58). -/
theorem apportion_getD_last (c : Nat) {rs : List Nat} (h : rs ≠ []) :
    (apportion c rs).getD (rs.length - 1) 0 = c - (rs.take (rs.length - 1)).sum := by
  induction rs generalizing c with
  | nil => exact absurd rfl h
  | cons r rs ih =>
    cases rs with
    | nil => simp [apportion]
    | cons q rs =>
      have := ih (c - min r c) (List.cons_ne_nil q rs)
      simp only [apportion_cons_cons, List.length_cons, Nat.add_sub_cancel, List.getD_cons_succ, List.take_succ_cons,
        List.sum_cons] at this ⊢
      omega

/-- A pick receives something only where its predecessors' requests do not use the count up. -/
theorem sum_take_lt_of_apportion_pos {c : Nat} {rs : List Nat} {j : Nat} (hj : j < rs.length)
    (h : 0 < (apportion c rs).getD j 0) : (rs.take j).sum < c := by
  by_cases hlast : j + 1 < rs.length
  · rw [apportion_getD_of_lt c hlast] at h
    omega
  · have hne : rs ≠ [] := List.ne_nil_of_length_pos (by omega)
    obtain rfl : j = rs.length - 1 := by omega
    rw [apportion_getD_last c hne] at h
    omega

theorem sum_take_succ_getD {rs : List Nat} {i : Nat} (h : i < rs.length) :
    (rs.take (i + 1)).sum = (rs.take i).sum + rs.getD i 0 := by
  rw [List.sum_take_succ rs i h, List.getD_eq_getElem rs 0 h]

theorem sum_take_le_sum_take (rs : List Nat) {i j : Nat} (h : i ≤ j) : (rs.take i).sum ≤ (rs.take j).sum :=
  List.Sublist.sum_le_sum (List.take_prefix_take_left h).sublist fun _ _ => Nat.zero_le _

/-- A pick with something to it has every earlier pick filled before it (R58). -/
theorem apportion_filled {c : Nat} {rs : List Nat} {i j : Nat} (hij : i < j) (hj : j < rs.length)
    (h : 0 < (apportion c rs).getD j 0) : (apportion c rs).getD i 0 = rs.getD i 0 := by
  have hlt := sum_take_lt_of_apportion_pos hj h
  have hle := sum_take_le_sum_take rs (Nat.succ_le_of_lt hij)
  rw [sum_take_succ_getD (hij.trans hj)] at hle
  rw [apportion_getD_of_lt c (by omega)]
  omega

theorem sum_eq_take_add_last {rs : List Nat} (h : rs ≠ []) :
    rs.sum = (rs.take (rs.length - 1)).sum + rs.getD (rs.length - 1) 0 := by
  have hlen := List.length_pos_of_ne_nil h
  rw [← sum_take_succ_getD (by omega), Nat.sub_add_cancel hlen, List.take_length]

/-! ### The outcome of one pick -/

theorem outcomeKind_eq_full (c r : Nat) : outcomeKind c r = .full ↔ c = r := by
  unfold outcomeKind
  split_ifs <;> simp_all

theorem outcomeKind_of_lt {c r : Nat} (h : c < r) : outcomeKind c r = .short := by
  simp [outcomeKind, h, h.ne]

theorem outcomeKind_of_gt {c r : Nat} (h : r < c) : outcomeKind c r = .over := by
  simp [outcomeKind, h.ne', h.not_gt]

/-- A quiet pick confirmed FULL is freed without a record (R7). -/
theorem State.close_of_quiet {s : State} {i : Nat} {p : Pick} (h : s.pickAt i = some p) {o : Outcome} (hq : p.quiet = true)
    (hk : o.kind = .full) : s.close i o = s.release i := by
  simp [State.close, h, hq, hk]

/-- A pick with any other outcome waits in REPORTING (R6). -/
theorem State.close_of_reported {s : State} {i : Nat} {p : Pick} (h : s.pickAt i = some p) {o : Outcome}
    (hk : ¬(p.quiet = true ∧ o.kind = .full)) :
    s.close i o = (s.setPick i (some { p with stage := .reporting o, abandon := none })).appendItem (.pick i) := by
  simp only [State.close, h]
  exact if_neg (by simpa using hk)

/-- Settles O49: the last pick takes what the others leave, and every other one the smaller of its request and what is left. -/
theorem apportioningDividesTheConfirmedCount : Obligations.ApportioningDividesTheConfirmedCount := by
  unfold Obligations.ApportioningDividesTheConfirmedCount
  refine ⟨?_, fun c r => ⟨(outcomeKind_eq_full c r).2, outcomeKind_of_lt, outcomeKind_of_gt⟩, ?_⟩
  · intro c rs hne _ hc cs
    have hsum : cs.sum = c := apportion_sum c hne
    have hparts {i : Nat} (hi : i + 1 < rs.length) := apportion_getD_of_lt c hi
    have htotal := sum_eq_take_add_last hne
    have hlast := apportion_getD_last c hne
    refine ⟨apportion_length c rs, hsum, fun x hx => ?_, fun i hi => hparts hi, fun i hi => ?_,
      fun i j hij hj hpos => apportion_filled hij hj hpos, fun hle => ?_, fun hle => ?_⟩
    · have := List.le_sum_of_mem hx
      omega
    · rw [hparts hi]
      exact Nat.min_le_left _ _
    · rw [hlast]
      omega
    · rw [hlast, List.dropLast_eq_take]
      omega
  · intro s i p o hp left
    refine ⟨fun hq hk => State.close_of_quiet hp hq hk, fun hk => State.close_of_reported hp ?_, rfl, rfl, rfl⟩
    rintro ⟨hq, hf⟩
    obtain hq' | hf' := hk
    · exact nomatch hq.symm.trans hq'
    · exact hf' hf

/-! ### Presses that adjust a count -/

/-- Two pins of one claim with one count give one face set: the timer is not shown (R35, R38). -/
theorem Context.rebuild_of_pinned {c : Context} {lanes : List Lane} {paused : Bool} {p : Pin} (hp : c.pin = some p)
    (hstays : c.rebuild lanes paused = c) (timer : Nat) :
    ({ c with pin := some { p with timer := timer } } : Context).rebuild lanes paused =
      { c with pin := some { p with timer := timer } } := by
  have hsame : c.facesNow lanes = c.desired.faces ∧ paused = c.desired.paused ∧ c.pinnedIndex = c.desired.pinned := by
    refine ⟨?_, ?_, ?_⟩
    · rw [← Context.rebuild_faces c lanes paused, hstays]
    · by_contra hne
      rw [Context.rebuild_of_new fun h => hne h.2.1] at hstays
      exact hne (congrArg (fun d : Context => d.desired.paused) hstays)
    · rw [← Context.rebuild_pinned c lanes paused, hstays]
  obtain ⟨hfaces, hpaused, hpinned⟩ := hsame
  have hface (k : Claim) (i : Nat) :
      Context.faceOf { c with pin := some { p with timer := timer } } lanes k i = c.faceOf lanes k i := by
    by_cases hk : p.serial = k.serial <;> simp [Context.faceOf, hp, hk, Option.filter]
  refine Context.rebuild_of_same ⟨?_, hpaused, ?_⟩
  · simpa only [Context.facesNow, hface] using hfaces
  · rw [← hpinned, Context.pinnedIndex, Context.pinnedIndex, hp]
    rfl

/-- An adjust press pins its claim, with the count that the press makes of A (R53, R54). -/
theorem Context.adjust_pin (c : Context) (lanes : List Lane) (paused : Bool) (k : Claim) (button : Button) (timer : Nat) :
    (c.adjust lanes paused k button timer).pin =
      some { serial := k.serial, count := adjusted button ((c.pin.map Pin.count).getD k.sum) (c.ceilingOf k.sum)
             timer := timer } :=
  Context.rebuild_pin _ _ _

/-- A press that leaves A of a pinned claim leaves its context but for the pin timer (R39, R54). -/
theorem Context.adjust_of_same {c : Context} {lanes : List Lane} {paused : Bool} {k : Claim} {button : Button} {p : Pin}
    (hp : c.pin = some p) (hserial : p.serial = k.serial) (hstays : c.rebuild lanes paused = c)
    (hcount : adjusted button p.count (c.ceilingOf k.sum) = p.count) (timer : Nat) :
    c.adjust lanes paused k button timer = { c with pin := some { p with timer := timer } } := by
  rw [← Context.rebuild_of_pinned hp hstays timer, Context.adjust]
  simp [hp, hcount, ← hserial]

/-- A claim whose bundle has changed keeps it, with its sum; a pin on it keeps at most the new ceiling (R61). -/
theorem Context.correct_claims (c : Context) (lanes : List Lane) (paused : Bool) (serial : Nat) (bundle : List Nat) (sum : Nat) :
    (c.correct lanes paused serial bundle sum).claims =
      c.claims.map fun j => if j.serial = serial then { j with bundle := bundle, sum := sum } else j := by
  rw [Context.correct, Context.rebuild_claims]
  simp [Context.setClaim]

theorem Context.correct_pin {c : Context} {p : Pin} (hp : c.pin = some p) (lanes : List Lane) (paused : Bool)
    (bundle : List Nat) (sum : Nat) :
    (c.correct lanes paused p.serial bundle sum).pin = some { p with count := min p.count (c.ceilingOf sum) } := by
  rw [Context.correct, Context.rebuild_pin]
  simp [Context.setClaim, hp, Context.ceilingOf]

/-- Settles O51: an adjust press counts from A, or from S where nothing is pinned, and stops at 0 and at the ceiling. -/
theorem adjustPressesMoveTheCountWithinItsCeiling : Obligations.AdjustPressesMoveTheCountWithinItsCeiling := by
  unfold Obligations.AdjustPressesMoveTheCountWithinItsCeiling
  intro c lanes paused k timer h a hpin _
  refine ⟨c.adjust_pin lanes paused k .minus timer, c.adjust_pin lanes paused k .plus timer,
    fun hsome hstays => ?_, fun bundle sum p hp => ?_⟩
  · obtain ⟨p, hp⟩ := Option.isSome_iff_exists.1 hsome
    have ha : a = p.count := by simp [a, hp]
    have hstill (button : Button) (hcount : adjusted button p.count (c.ceilingOf k.sum) = p.count) :
        (c.adjust lanes paused k button timer).desired = c.desired ∧
          (c.adjust lanes paused k button timer).generation = c.generation := by
      rw [Context.adjust_of_same hp (hpin p hp) hstays hcount]
      exact ⟨rfl, rfl⟩
    refine ⟨fun hz => hstill .minus ?_, fun hh => hstill .plus ?_⟩
    · show p.count - 1 = p.count
      omega
    · have : p.count = c.ceilingOf k.sum := ha.symm.trans hh
      simp [adjusted, this]
  · rw [← hpin p hp]
    exact ⟨Context.correct_pin hp lanes paused bundle sum, Context.correct_claims c lanes paused p.serial bundle sum⟩

end Sys2Proof.Machine
end

section
/-! Proofs of the family of 03 (press attribution and apportioning), second part: how a claim leaves its context, and what a confirmation
does to the picks of its bundle and to the report list (O50). -/

namespace Sys2Proof.Machine

/-! ### How a claim leaves its context -/

/-- A pass of selection writes claims and the desired set alone (R33, R34). -/
theorem Context.showOne_eq (c : Context) (lanes : List Lane) (paused : Bool) :
    ∃ l g x, c.showOne lanes paused = { c with claims := l, generation := g, desired := x } := by
  obtain hc | ⟨i, k, -, -, -, -, hc⟩ := c.showOne_cases lanes paused
  · exact ⟨c.claims, c.generation, c.desired, hc⟩
  · obtain ⟨g, x, hr, -⟩ := Context.rebuild_eq (c.setClaim k.serial fun j =>
      { j with face := some i, linger := lingerStart lanes j.lane }) lanes paused
    exact ⟨_, g, x, hc.trans hr⟩

theorem Context.select_eq (c : Context) (lanes : List Lane) (paused : Bool) :
    ∃ l g x, c.select lanes paused = { c with claims := l, generation := g, desired := x } := by
  obtain ⟨l1, g1, x1, h1⟩ := c.showOne_eq lanes paused
  obtain ⟨l2, g2, x2, h2⟩ := (c.showOne lanes paused).showOne_eq lanes paused
  obtain ⟨l3, g3, x3, h3⟩ := ((c.showOne lanes paused).showOne lanes paused).showOne_eq lanes paused
  exact ⟨l3, g3, x3, by rw [Context.select, h3, h2, h1]⟩

/-- The context without a claim and without its pin: Context.removeClaim before the selection that follows (R31). -/
def Context.dropClaim (c : Context) (serial : Nat) : Context :=
  { c with
    claims := c.claims.filter fun k => k.serial != serial
    pin := c.pin.filter fun (p : Pin) => p.serial != serial }

section RemoveClaim

variable (c : Context) (lanes : List Lane) (paused : Bool) (serial : Nat)

theorem Context.removeClaim_eq_rebuild : c.removeClaim lanes paused serial =
    ((c.dropClaim serial).select lanes paused).rebuild lanes paused := rfl

/-- A claim's departure writes claims, pin and the desired set alone (R31). -/
theorem Context.removeClaim_eq : ∃ l g x, c.removeClaim lanes paused serial =
    { c.dropClaim serial with claims := l, generation := g, desired := x } := by
  obtain ⟨l, g, x, hs⟩ := (c.dropClaim serial).select_eq lanes paused
  obtain ⟨g', x', hr, -⟩ := Context.rebuild_eq ((c.dropClaim serial).select lanes paused) lanes paused
  exact ⟨l, g', x', by rw [c.removeClaim_eq_rebuild, hr, hs]⟩

/-- The other claims close up, their faces and linger timers apart (R31). -/
theorem Context.removeClaim_still : (c.removeClaim lanes paused serial).claims.map Claim.still =
    (c.claims.filter fun k => k.serial != serial).map Claim.still := by
  rw [c.removeClaim_eq_rebuild, Context.rebuild_claims, Context.select_still]
  rfl

theorem Context.removeClaim_pin :
    (c.removeClaim lanes paused serial).pin = c.pin.filter fun (p : Pin) => p.serial != serial := by
  obtain ⟨l, g, x, h⟩ := c.removeClaim_eq lanes paused serial
  rw [h]
  rfl

/-- The sets on their way and on show, the slot and the atlas copy stand. -/
theorem Context.removeClaim_keeps : (c.removeClaim lanes paused serial).pending = c.pending ∧
    (c.removeClaim lanes paused serial).displayed = c.displayed ∧ (c.removeClaim lanes paused serial).slot = c.slot ∧
    (c.removeClaim lanes paused serial).atlas = c.atlas := by
  obtain ⟨l, g, x, h⟩ := c.removeClaim_eq lanes paused serial
  rw [h]
  exact ⟨rfl, rfl, rfl, rfl⟩

theorem Context.removeClaim_faces :
    (c.removeClaim lanes paused serial).desired.faces = (c.removeClaim lanes paused serial).facesNow lanes := by
  rw [c.removeClaim_eq_rebuild, Context.rebuild_faces]
  obtain ⟨g, x, h, -⟩ := Context.rebuild_eq ((c.dropClaim serial).select lanes paused) lanes paused
  rw [h]
  rfl

theorem Context.removeClaim_pinned :
    (c.removeClaim lanes paused serial).desired.pinned = (c.removeClaim lanes paused serial).pinnedIndex := by
  rw [c.removeClaim_eq_rebuild, Context.rebuild_pinned]
  obtain ⟨g, x, h, -⟩ := Context.rebuild_eq ((c.dropClaim serial).select lanes paused) lanes paused
  rw [h]
  rfl

/-- Selection has shown what it can once a claim has left (R31, R33). -/
theorem Context.removeClaim_selected {c : Context} (h : (c.claims.map Claim.serial).Nodup) :
    (c.removeClaim lanes paused serial).Selected := by
  have hdrop : ((c.dropClaim serial).claims.map Claim.serial).Nodup := h.sublist (List.filter_sublist.map Claim.serial)
  have hs := Context.select_selected hdrop lanes paused
  obtain ⟨g, x, hr, -⟩ := Context.rebuild_eq ((c.dropClaim serial).select lanes paused) lanes paused
  rw [c.removeClaim_eq_rebuild, hr]
  exact hs

end RemoveClaim

theorem Context.facesNow_of_noClaim {c : Context} (h : c.claims = []) (lanes : List Lane) : c.facesNow lanes = [] := by
  simp [Context.facesNow, h]

theorem Context.pinnedIndex_of_noClaim {c : Context} (h : c.claims = []) : c.pinnedIndex = none := by
  simp [Context.pinnedIndex, Context.claim, h]

/-! ### A context with no claim -/

theorem State.freeable_iff (s : State) (c : Context) :
    s.freeable c = true ↔ c.claims = [] ∧ ((c.displayed.faces = [] ∧ c.pending = none) ∨
      (s.link c.atlas.string c.atlas.address).presence = .lost) := by
  simp [State.freeable, Context.draining]

theorem State.settleContext_of_freeable {s : State} {ci : Nat} {c : Context} (h : s.contextAt ci = some c)
    (hf : s.freeable c = true) : s.settleContext ci = s.setContext ci none := by
  simp [State.settleContext, h, hf]

theorem State.settleContext_of_not_freeable {s : State} {ci : Nat} {c : Context} (h : s.contextAt ci = some c)
    (hf : s.freeable c = false) : s.settleContext ci = s := by
  simp [State.settleContext, h, hf]

/-- Whether a context may be freed is read off the context and the per-address state of its module (R24). -/
theorem State.freeable_of_strings {s t : State} (h : t.strings = s.strings) (c : Context) : t.freeable c = s.freeable c := by
  simp [State.freeable, State.link, State.stringAt, h]

/-! ### The closing of one pick -/

theorem State.lt_of_pickAt {s : State} {i : Nat} {p : Pick} (h : s.pickAt i = some p) : i < s.pm.entries.length := by
  obtain ⟨e, he, -⟩ := Option.bind_eq_some_iff.1 h
  exact (List.getElem?_eq_some_iff.1 he).1

/-- What the closing of a pick leaves in its entry: nothing of a quiet pick confirmed FULL, else the pick in REPORTING (R6, R7). -/
def Pick.closed (p : Pick) (o : Outcome) : Option Pick :=
  if p.quiet = true ∧ o.kind = .full then none else some { p with abandon := none, stage := .reporting o }

/-- What a closing does: the entry holds what is left of its pick, and a pick that is not freed joins the report list. -/
theorem State.close_eq_of_pickAt {s : State} {i : Nat} {p : Pick} (h : s.pickAt i = some p) (o : Outcome) :
    s.close i o =
      if p.quiet = true ∧ o.kind = .full then s.release i else (s.setPick i (p.closed o)).appendItem (.pick i) := by
  split
  · next hk => exact State.close_of_quiet h hk.1 hk.2
  · next hk => rw [State.close_of_reported h hk, Pick.closed, if_neg hk]

theorem State.pickAt_close_self {s : State} {i : Nat} {p : Pick} (h : s.pickAt i = some p) (o : Outcome) :
    (s.close i o).pickAt i = p.closed o := by
  have hset (q : Option Pick) := s.pickAt_setPick_self i q (State.lt_of_pickAt h)
  rw [State.close_eq_of_pickAt h]
  split
  · next hk => exact (hset none).trans (if_pos hk).symm
  · exact hset _

theorem State.pickAt_close_of_ne (s : State) {i j : Nat} (h : i ≠ j) (o : Outcome) : (s.close i o).pickAt j = s.pickAt j := by
  cases hp : s.pickAt i with
  | none => simp [State.close, hp]
  | some p =>
    have hset (q : Option Pick) := s.pickAt_setPick_of_ne i j q h
    rw [State.close_eq_of_pickAt hp]
    split <;> exact hset _

/-- The entries and contexts pass their checks. -/
structure State.Undamaged (s : State) : Prop where
  picks : ∀ e ∈ s.pm.entries, e.parity = true
  contexts : ∀ e ∈ s.contexts, e.parity = true

theorem State.Intact.undamaged {s : State} (h : s.Intact) : s.Undamaged := ⟨h.1, h.2.1⟩

theorem State.Undamaged.of_tables {s t : State} (h : s.Undamaged) (hp : t.pm.entries = s.pm.entries)
    (hc : t.contexts = s.contexts) : t.Undamaged := ⟨hp ▸ h.picks, hc ▸ h.contexts⟩

/-- A write gives an entry good parity (R171). -/
theorem State.Undamaged.setPick {s : State} (h : s.Undamaged) (i : Nat) (p : Option Pick) : (s.setPick i p).Undamaged :=
  ⟨fun e he => (List.mem_or_eq_of_mem_set he).elim (h.picks e) fun heq => heq ▸ rfl, h.contexts⟩

theorem State.Undamaged.setContext {s : State} (h : s.Undamaged) (ci : Nat) (x : Option Context) :
    (s.setContext ci x).Undamaged :=
  ⟨h.picks, fun e he => (List.mem_or_eq_of_mem_set he).elim (h.contexts e) fun heq => heq ▸ rfl⟩

theorem State.Undamaged.close {s : State} (h : s.Undamaged) (i : Nat) (o : Outcome) : (s.close i o).Undamaged := by
  cases hp : s.pickAt i with
  | none => simpa [State.close, hp] using h
  | some p =>
    rw [State.close_eq_of_pickAt hp]
    split
    · exact (h.setPick i none).of_tables rfl rfl
    · exact (h.setPick i _).of_tables rfl rfl

/-- What the closing of picks leaves alone: run control, the strings, the contexts, the deferred list and the lanes. -/
structure State.ClosesOnly (s t : State) : Prop where
  lrc : t.lrc = s.lrc
  strings : t.strings = s.strings
  contexts : t.contexts = s.contexts
  deferred : t.pm.deferred = s.pm.deferred
  lanes : t.pm.lanes = s.pm.lanes

theorem State.ClosesOnly.refl (s : State) : s.ClosesOnly s := ⟨rfl, rfl, rfl, rfl, rfl⟩

theorem State.ClosesOnly.trans {s t u : State} (h : s.ClosesOnly t) (k : t.ClosesOnly u) : s.ClosesOnly u :=
  ⟨k.lrc.trans h.lrc, k.strings.trans h.strings, k.contexts.trans h.contexts, k.deferred.trans h.deferred,
    k.lanes.trans h.lanes⟩

theorem State.closesOnly_close (s : State) (i : Nat) (o : Outcome) : s.ClosesOnly (s.close i o) := by
  cases hp : s.pickAt i with
  | none => simpa [State.close, hp] using State.ClosesOnly.refl s
  | some p =>
    rw [State.close_eq_of_pickAt hp]
    split <;> exact ⟨rfl, rfl, rfl, rfl, rfl⟩

/-! ### The closing of a bundle -/

/-- Whether the part of the count that a pick is given frees its entry: it is quiet and the part is what it asks for (R7). -/
def State.frees (s : State) (i c : Nat) : Bool := ((s.pickAt i).map Pick.quiet).getD false && c == s.requestedOf i

theorem State.frees_of_pickAt {s t : State} {i : Nat} (h : t.pickAt i = s.pickAt i) (c : Nat) : t.frees i c = s.frees i c := by
  simp [State.frees, State.requestedOf, h]

/-- The outcome that a confirmation gives to one pick (R59, R60). -/
def State.confirmed (s : State) (i c size position : Nat) (adjusted : Bool) : Outcome :=
  s.outcome (outcomeKind c (s.requestedOf i)) .none c size position adjusted false

theorem State.frees_iff {s : State} {i : Nat} {p : Pick} (h : s.pickAt i = some p) (c size position : Nat) (adjusted : Bool) :
    s.frees i c = true ↔ p.quiet = true ∧ (s.confirmed i c size position adjusted).kind = .full := by
  simp [State.frees, State.confirmed, State.outcome, outcomeKind_eq_full, h]

section CloseBundle

variable {s : State} {size : Nat} {adjusted : Bool}

theorem State.Undamaged.closeBundle (h : s.Undamaged) (position : Nat) (is cs : List Nat) :
    (s.closeBundle size adjusted position is cs).Undamaged := by
  induction is generalizing s position cs with
  | nil => exact h
  | cons i is ih =>
    cases cs with
    | nil => exact h
    | cons c cs => exact ih (h.close i _) _ _

theorem State.closesOnly_closeBundle (position : Nat) (is cs : List Nat) :
    s.ClosesOnly (s.closeBundle size adjusted position is cs) := by
  induction is generalizing s position cs with
  | nil => exact .refl s
  | cons i is ih =>
    cases cs with
    | nil => exact .refl s
    | cons c cs => exact (s.closesOnly_close i _).trans (ih _ _)

theorem State.pickAt_closeBundle_of_notMem {i : Nat} (position : Nat) {is : List Nat} (cs : List Nat) (h : i ∉ is) :
    (s.closeBundle size adjusted position is cs).pickAt i = s.pickAt i := by
  induction is generalizing s position cs with
  | nil => rfl
  | cons j is ih =>
    obtain ⟨hne, hi⟩ := not_or.1 (mt List.mem_cons.2 h)
    cases cs with
    | nil => rfl
    | cons c cs => exact (ih _ _ hi).trans (s.pickAt_close_of_ne (Ne.symm hne) _)

/-- Each pick of the bundle is closed with its own part of the count, at its own place (R60, step 1). -/
theorem State.pickAt_closeBundle (position : Nat) {is cs : List Nat} (hlen : cs.length = is.length) (hnodup : is.Nodup) {j : Nat}
    (hj : j < is.length) {p : Pick} (hp : s.pickAt (is.getD j 0) = some p) :
    (s.closeBundle size adjusted position is cs).pickAt (is.getD j 0) =
      p.closed (s.confirmed (is.getD j 0) (cs.getD j 0) size (position + j) adjusted) := by
  induction is generalizing s position cs j with
  | nil => cases hj
  | cons i is ih =>
    obtain ⟨c, cs, rfl⟩ := List.exists_cons_of_length_eq_add_one hlen
    obtain ⟨hi, hnodup⟩ := List.nodup_cons.1 hnodup
    cases j with
    | zero => exact (State.pickAt_closeBundle_of_notMem _ _ hi).trans (State.pickAt_close_self hp _)
    | succ j =>
      rw [List.getD_cons_succ] at hp ⊢
      have hj : j < is.length := Nat.lt_of_succ_lt_succ hj
      have hne : i ≠ is.getD j 0 := fun he => hi (by rw [he, List.getD_eq_getElem is 0 hj]; exact List.getElem_mem hj)
      have hclosed := s.pickAt_close_of_ne hne (s.confirmed i c size position adjusted)
      have hnow : (s.close i (s.confirmed i c size position adjusted)).now = s.now :=
        congrArg RunControl.clock (s.closesOnly_close i _).lrc
      refine (ih (s := s.close i (s.confirmed i c size position adjusted)) (position + 1) (Nat.succ.inj hlen) hnodup hj
        (hclosed.trans hp)).trans ?_
      simp only [State.confirmed, State.outcome, State.requestedOf, List.getD_cons_succ] at hclosed hnow ⊢
      rw [hclosed, hnow, Nat.add_assoc, Nat.add_comm 1 j]

/-- The picks of a bundle that their parts of the count do not free join the report list together, in bundle order, and the others
are counted FREE (R60, R7). -/
theorem State.closeBundle_report (position : Nat) {is : List Nat} (cs : List Nat) (hnodup : is.Nodup)
    (hused : ∀ i ∈ is, ∃ p, s.pickAt i = some p) :
    let t := s.closeBundle size adjusted position is cs
    t.jw.report = s.jw.report ++ ((is.zip cs).filter fun x => !s.frees x.1 x.2).map (fun x => Item.pick x.1) ∧
      t.pm.free = s.pm.free + ((is.zip cs).filter fun x => s.frees x.1 x.2).length := by
  induction is generalizing s position cs with
  | nil => simp [State.closeBundle]
  | cons i is ih =>
    obtain ⟨hi, hnodup⟩ := List.nodup_cons.1 hnodup
    cases cs with
    | nil => simp [State.closeBundle]
    | cons c cs =>
      obtain ⟨p, hp⟩ := hused i List.mem_cons_self
      have hclosed (o : Outcome) {j : Nat} (hj : j ∈ is) : (s.close i o).pickAt j = s.pickAt j := by
        refine s.pickAt_close_of_ne ?_ o
        rintro rfl
        exact hi hj
      have hsame (o : Outcome) : ∀ x ∈ is.zip cs, (s.close i o).frees x.1 x.2 = s.frees x.1 x.2 := fun x hx =>
        State.frees_of_pickAt (hclosed o (List.of_mem_zip (a := x.1) (b := x.2) hx).1) x.2
      obtain ⟨hreport, hfree⟩ := ih (s := s.close i (s.confirmed i c size position adjusted)) (position + 1) cs hnodup
        fun j hj => by
          rw [hclosed _ hj]
          exact hused j (List.mem_cons_of_mem i hj)
      rw [List.filter_congr fun x hx => congrArg not (hsame _ x hx)] at hreport
      rw [List.filter_congr (hsame _)] at hfree
      have hthis : s.closeBundle size adjusted position (i :: is) (c :: cs) =
          (s.close i (s.confirmed i c size position adjusted)).closeBundle size adjusted (position + 1) is cs := rfl
      have hfrees := State.frees_iff hp c size position adjusted
      dsimp only
      rw [hthis, hreport, hfree, State.close_eq_of_pickAt hp, List.zip_cons_cons]
      split
      · next hk =>
        have : s.frees i c = true := hfrees.2 hk
        simp [this, State.release]
        omega
      · next hk =>
        have : s.frees i c = false := Bool.eq_false_iff.2 (mt hfrees.1 hk)
        simp [this, State.appendItem]

end CloseBundle

/-- A list with another one of its length, place by place. -/
theorem zip_eq_map_range {is cs : List Nat} (h : cs.length = is.length) :
    is.zip cs = (List.range is.length).map fun j => (is.getD j 0, cs.getD j 0) := by
  refine List.ext_getElem (by simp [h]) fun j hj _ => ?_
  have hjs : j < is.length := by simpa [h] using hj
  simp [hjs, h]

end Sys2Proof.Machine
end

section
/-! Proofs of the family of 03 (press attribution and apportioning), third part: what follows the closing of a bundle, and the
confirmation as a whole (O50). -/

namespace Sys2Proof.Machine

/-! ### What a placement pass leaves -/

/-- An entry is FREE, or its pick is not DEFERRED: no placement pass takes it up (R15). -/
def State.NotDeferred (s : State) (j : Nat) : Prop := ∀ p, s.pickAt j = some p → ∀ atlas, p.stage ≠ .deferred atlas

/-- What a pass does with one deferred pick: nothing, or it is placed in a context, or refused (R15). -/
theorem State.visitDeferred_cases (s : State) (i : Nat) : s.visitDeferred i = s ∨ ∃ p : Pick, ¬s.NotDeferred i ∧
    ((∃ ci d, s.visitDeferred i =
      ((s.setContext ci (some d)).setPick i (some { p with stage := .placed })).undefer i) ∨
      ∃ o, s.visitDeferred i =
        ((s.undefer i).setPick i (some { p with stage := .reporting o, abandon := none })).appendItem (.pick i)) := by
  unfold State.visitDeferred
  split
  · exact .inl rfl
  · next p hp =>
    split
    · next atlas hstage =>
      have hdeferred : ¬s.NotDeferred i := fun h => h p hp atlas hstage
      split
      · exact .inl rfl
      split
      · split
        · split
          · next t ht =>
            unfold State.putInto at ht
            simp only [Option.bind_eq_some_iff, Option.map_eq_some_iff] at ht
            obtain ⟨c, -, d, -, rfl⟩ := ht
            exact .inr ⟨p, hdeferred, .inl ⟨_, d, rfl⟩⟩
          · exact .inl rfl
        · exact .inl rfl
      · split
        · exact .inl rfl
        · split
          · exact .inr ⟨p, hdeferred, .inr ⟨s.outcome .refused .moduleShared 0 1 1 false false,
              State.close_eq (s := s.undefer i) hp (fun h => nomatch h)⟩⟩
          · exact .inr ⟨p, hdeferred, .inl ⟨_, _, rfl⟩⟩
    · exact .inl rfl

/-- Entries and contexts still pass their checks, and every entry stands but those of DEFERRED picks. -/
structure State.Follows (s t : State) : Prop where
  undamaged : t.Undamaged
  stands : ∀ j, s.NotDeferred j → t.pickAt j = s.pickAt j

theorem State.Undamaged.follows {s : State} (h : s.Undamaged) : s.Follows s := ⟨h, fun _ _ => rfl⟩

theorem State.Follows.trans {s t u : State} (h : s.Follows t) (k : t.Follows u) : s.Follows u := by
  refine ⟨k.undamaged, fun j hj => ?_⟩
  have hst := h.stands j hj
  have hjt : t.NotDeferred j := by
    unfold State.NotDeferred
    rw [hst]
    exact hj
  exact (k.stands j hjt).trans hst

/-- Work outside the pick entries and the contexts leaves both. -/
theorem State.Undamaged.follows_of_tables {s t : State} (h : s.Undamaged) (hp : t.pm.entries = s.pm.entries)
    (hc : t.contexts = s.contexts) : s.Follows t :=
  ⟨h.of_tables hp hc, fun j _ => by rw [State.pickAt, hp]; rfl⟩

theorem State.Undamaged.follows_setContext {s : State} (h : s.Undamaged) (ci : Nat) (x : Option Context) :
    s.Follows (s.setContext ci x) := ⟨h.setContext ci x, fun _ _ => rfl⟩

theorem State.Undamaged.follows_visitDeferred {s : State} (h : s.Undamaged) (i : Nat) : s.Follows (s.visitDeferred i) := by
  have hne {j : Nat} (hd : ¬s.NotDeferred i) (hj : s.NotDeferred j) : i ≠ j := by
    rintro rfl
    exact hd hj
  obtain hv | ⟨p, hd, ⟨ci, d, hv⟩ | ⟨o, hv⟩⟩ := s.visitDeferred_cases i
  all_goals rw [hv]
  · exact h.follows
  · exact ⟨((h.setContext ci _).setPick i _).of_tables rfl rfl, fun j hj =>
      (s.setContext ci (some d)).pickAt_setPick_of_ne i j _ (hne hd hj)⟩
  · exact ⟨((h.of_tables (t := s.undefer i) rfl rfl).setPick i _).of_tables rfl rfl, fun j hj =>
      (s.undefer i).pickAt_setPick_of_ne i j _ (hne hd hj)⟩

theorem foldl_follows {α : Type} (f : State → α → State) (hf : ∀ (s : State) a, s.Undamaged → s.Follows (f s a))
    (l : List α) {s : State} (h : s.Undamaged) : s.Follows (l.foldl f s) := by
  induction l generalizing s with
  | nil => exact h.follows
  | cons a l ih =>
    have ha := hf s a h
    exact ha.trans (ih ha.undamaged)

theorem State.Undamaged.follows_walkDeferred {s : State} (h : s.Undamaged) : s.Follows s.walkDeferred :=
  foldl_follows _ (fun _ i ht => ht.follows_visitDeferred i) _ h

theorem State.Undamaged.follows_placementPass {s : State} (h : s.Undamaged) : s.Follows s.placementPass := by
  rw [s.placementPass_of_intact h.picks]
  exact h.follows_walkDeferred

/-- Run control, the strings and the FREE count stand, and the report list only grows. -/
structure State.Grows (s t : State) : Prop where
  lrc : t.lrc = s.lrc
  strings : t.strings = s.strings
  free : t.pm.free = s.pm.free
  report : s.jw.report <+: t.jw.report

theorem State.Grows.refl (s : State) : s.Grows s := ⟨rfl, rfl, rfl, List.prefix_refl _⟩

theorem State.Grows.trans {s t u : State} (h : s.Grows t) (k : t.Grows u) : s.Grows u :=
  ⟨k.lrc.trans h.lrc, k.strings.trans h.strings, k.free.trans h.free, h.report.trans k.report⟩

theorem State.grows_visitDeferred (s : State) (i : Nat) : s.Grows (s.visitDeferred i) := by
  obtain hv | ⟨p, -, ⟨ci, d, hv⟩ | ⟨o, hv⟩⟩ := s.visitDeferred_cases i
  all_goals rw [hv]
  · exact .refl s
  · exact ⟨rfl, rfl, rfl, List.prefix_refl _⟩
  · exact ⟨rfl, rfl, rfl, List.prefix_append _ _⟩

theorem State.grows_walkDeferred (s : State) : s.Grows s.walkDeferred := by
  have hfold (l : List Nat) (t : State) : t.Grows (l.foldl State.visitDeferred t) := by
    induction l generalizing t with
    | nil => exact .refl t
    | cons i l ih => exact (t.grows_visitDeferred i).trans (ih _)
  exact hfold _ s

/-! ### The fence list and the claim -/

/-- Fences leave their list and items join the report list; nothing else changes of the tables, the strings and run control. -/
structure State.TakesFences (s t : State) : Prop where
  lrc : t.lrc = s.lrc
  strings : t.strings = s.strings
  contexts : t.contexts = s.contexts
  pm : t.pm = { s.pm with fences := t.pm.fences }
  report : s.jw.report <+: t.jw.report

theorem State.TakesFences.refl (s : State) : s.TakesFences s := ⟨rfl, rfl, rfl, rfl, List.prefix_refl _⟩

theorem State.TakesFences.grows {s t : State} (h : s.TakesFences t) : s.Grows t :=
  ⟨h.lrc, h.strings, by rw [h.pm], h.report⟩

theorem State.TakesFences.follows {s t : State} (h : s.TakesFences t) (hs : s.Undamaged) : s.Follows t :=
  hs.follows_of_tables (by rw [h.pm]) h.contexts

/-- Reached fences put their advisories on the report list (R146). -/
theorem State.takesFences_takeFences (s : State) (fs : List Fence) : s.TakesFences (s.takeFences fs) := by
  induction fs generalizing s with
  | nil => exact .refl s
  | cons f fs ih =>
    unfold State.takeFences
    split
    · have h := ih ((s.setPm { s.pm with fences := fs }).offerClosing (s.fenceRecord f))
      exact ⟨h.lrc, h.strings, h.contexts, h.pm, (List.prefix_append _ _).trans h.report⟩
    · exact .refl s

theorem State.Undamaged.takesFences_judgeFences {s : State} (h : s.Undamaged) : s.TakesFences s.judgeFences := by
  unfold State.judgeFences
  split
  · exact .refl s
  · rw [s.checkPicks_of_intact h.picks]
    exact s.takesFences_takeFences s.pm.fences

theorem State.Undamaged.follows_settleContext {s : State} (h : s.Undamaged) (ci : Nat) : s.Follows (s.settleContext ci) := by
  unfold State.settleContext
  split
  · split
    · exact h.follows_setContext ci none
    · exact h.follows
  · exact h.follows

theorem State.Undamaged.follows_closeClaim {s : State} (h : s.Undamaged) (ci serial : Nat) :
    s.Follows (s.closeClaim ci serial) := by
  unfold State.closeClaim
  split
  · exact h.follows
  · exact (h.follows_setContext ci _).trans ((h.setContext ci _).follows_settleContext ci)

/-- A claim's departure writes the context table alone (R31, R60). -/
theorem State.closeClaim_eq (s : State) (ci serial : Nat) : ∃ l, s.closeClaim ci serial = s.setContexts l := by
  unfold State.closeClaim State.settleContext
  repeat' split
  all_goals exact ⟨_, rfl⟩

@[simp] theorem State.closeClaim_pm (s : State) (ci serial : Nat) : (s.closeClaim ci serial).pm = s.pm := by
  obtain ⟨l, h⟩ := s.closeClaim_eq ci serial
  rw [h, State.setContexts_pm]

theorem State.grows_closeClaim (s : State) (ci serial : Nat) : s.Grows (s.closeClaim ci serial) := by
  obtain ⟨l, h⟩ := s.closeClaim_eq ci serial
  rw [h]
  exact ⟨rfl, rfl, rfl, List.prefix_refl _⟩

/-- The context that a claim leaves is freed if it may be, and stands without the claim if not (R24, R31). -/
theorem State.closeClaim_contextAt {s : State} {ci : Nat} {c : Context} (h : s.contextAt ci = some c) (serial : Nat) :
    (s.closeClaim ci serial).contextAt ci =
      if s.freeable (c.removeClaim s.pm.lanes s.paused serial) = true then none
      else some (c.removeClaim s.pm.lanes s.paused serial) := by
  have hlt := State.lt_of_contextAt h
  have hset := s.contextAt_setContext_self ci (some (c.removeClaim s.pm.lanes s.paused serial)) hlt
  have hsame := State.freeable_of_strings (s := s) (t := s.setContext ci (some (c.removeClaim s.pm.lanes s.paused serial))) rfl
    (c.removeClaim s.pm.lanes s.paused serial)
  simp only [State.closeClaim, h]
  split
  · next hf =>
    rw [State.settleContext_of_freeable hset (hsame.trans hf)]
    exact State.contextAt_setContext_self _ ci none (by simpa [State.setContext] using hlt)
  · next hf => rw [State.settleContext_of_not_freeable hset (hsame.trans (by simpa using hf)), hset]

/-! ### The confirmation -/

/-- The bundle of a confirmed claim closed: State.confirm before the claim leaves its context (R60, steps 1 and 2). -/
def State.closedBundle (s : State) (k : Claim) (count : Nat) (adjusted : Bool) : State :=
  s.closeBundle k.bundle.length adjusted 1 k.bundle (apportion count (k.bundle.map s.requestedOf))

/-- No placement pass takes up a pick that has been closed. -/
theorem Pick.closed_notDeferred {t : State} {i : Nat} {p : Pick} {o : Outcome} (h : t.pickAt i = p.closed o) :
    t.NotDeferred i := by
  intro q hq atlas
  rw [h, Pick.closed] at hq
  split at hq
  · cases hq
  · obtain rfl := Option.some.inj hq
    simp

/-- What a confirmation leaves of a pick, by its part of the count, the time, and its place in a bundle of that size (R60). -/
def Pick.confirmed (p : Pick) (c : Nat) (clock : Clock) (size position : Nat) (adjusted : Bool) : Option Pick :=
  p.closed { kind := outcomeKind c p.requested, cause := .none, confirmed := c, timeClosed := clock, bundleSize := size,
             bundlePosition := position, adjusted := adjusted, suspectTag := false }

theorem Pick.confirmed_eq (p : Pick) (c : Nat) (clock : Clock) (size position : Nat) (adjusted : Bool) :
    p.confirmed c clock size position adjusted =
      if p.quiet = true ∧ c = p.requested then none
      else some { p with
        abandon := none
        stage := .reporting { kind := outcomeKind c p.requested, cause := .none, confirmed := c, timeClosed := clock
                              bundleSize := size, bundlePosition := position, adjusted := adjusted, suspectTag := false } } := by
  simp only [Pick.confirmed, Pick.closed, outcomeKind_eq_full]

section Confirm

variable {s : State} {ci : Nat} {k : Claim} {count : Nat} {adjusted : Bool}

/-- On tables of good parity a confirmation closes the bundle, then the claim, takes reached fences, and walks the deferred list. -/
theorem State.Undamaged.confirm_eq (h : s.Undamaged) :
    ∃ t, ((s.closedBundle k count adjusted).closeClaim ci k.serial).TakesFences t ∧
      s.confirm ci k count adjusted = t.walkDeferred := by
  have hbundle : (s.closedBundle k count adjusted).Undamaged := h.closeBundle _ _ _
  have hclaim := (hbundle.follows_closeClaim ci k.serial).undamaged
  have hconfirm : s.confirm ci k count adjusted = State.placementPass
      (if s.pm.free < ((s.closedBundle k count adjusted).closeClaim ci k.serial).pm.free then
        ((s.closedBundle k count adjusted).closeClaim ci k.serial).judgeFences
      else (s.closedBundle k count adjusted).closeClaim ci k.serial) := rfl
  rw [hconfirm]
  split
  · have hfences := hclaim.takesFences_judgeFences
    exact ⟨_, hfences, State.placementPass_of_intact _ (hfences.follows hclaim).undamaged.picks⟩
  · exact ⟨_, .refl _, State.placementPass_of_intact _ hclaim.picks⟩

/-- What follows the closing of the bundle takes up no pick that is not DEFERRED. -/
theorem State.Undamaged.follows_confirm (h : s.Undamaged) :
    (s.closedBundle k count adjusted).Follows (s.confirm ci k count adjusted) := by
  have hbundle : (s.closedBundle k count adjusted).Undamaged := h.closeBundle _ _ _
  have hclaim := hbundle.follows_closeClaim ci k.serial
  obtain ⟨t, hfences, ht⟩ := h.confirm_eq (ci := ci) (k := k) (count := count) (adjusted := adjusted)
  have hbefore := hclaim.trans (hfences.follows hclaim.undamaged)
  rw [ht]
  exact hbefore.trans hbefore.undamaged.follows_walkDeferred

/-- What follows the closing of the bundle frees no further entry and takes nothing from the report list. -/
theorem State.Undamaged.grows_confirm (h : s.Undamaged) :
    (s.closedBundle k count adjusted).Grows (s.confirm ci k count adjusted) := by
  obtain ⟨t, hfences, ht⟩ := h.confirm_eq (ci := ci) (k := k) (count := count) (adjusted := adjusted)
  rw [ht]
  exact ((State.grows_closeClaim _ _ _).trans hfences.grows).trans (State.grows_walkDeferred _)

/-- A confirmed pick, at its place in the bundle: what its part of the count leaves of it (R60). -/
theorem State.Undamaged.pickAt_confirm (h : s.Undamaged) (hnodup : k.bundle.Nodup) {j : Nat} (hj : j < k.bundle.length) {p : Pick}
    (hp : s.pickAt (k.bundle.getD j 0) = some p) :
    (s.confirm ci k count adjusted).pickAt (k.bundle.getD j 0) =
      p.confirmed ((apportion count (k.bundle.map s.requestedOf)).getD j 0) s.lrc.clock k.bundle.length (j + 1) adjusted := by
  have hclosed : (s.closedBundle k count adjusted).pickAt (k.bundle.getD j 0) = p.closed (s.confirmed (k.bundle.getD j 0)
      ((apportion count (k.bundle.map s.requestedOf)).getD j 0) k.bundle.length (1 + j) adjusted) :=
    State.pickAt_closeBundle 1 (by rw [apportion_length, List.length_map]) hnodup hj hp
  have hrequested : s.requestedOf (k.bundle.getD j 0) = p.requested := by rw [State.requestedOf, hp]; rfl
  rw [h.follows_confirm.stands _ (Pick.closed_notDeferred hclosed), hclosed, State.confirmed, hrequested, Nat.add_comm 1 j]
  rfl

/-- The context of a confirmed claim, where no pick waits for a placement (R24, R31, R60). -/
theorem State.Undamaged.contextAt_confirm (h : s.Undamaged) {c : Context} (hc : s.contextAt ci = some c)
    (hdeferred : s.pm.deferred = []) :
    (s.confirm ci k count adjusted).contextAt ci =
      if s.freeable (c.removeClaim s.pm.lanes s.paused k.serial) = true then none
      else some (c.removeClaim s.pm.lanes s.paused k.serial) := by
  have hcloses : s.ClosesOnly (s.closedBundle k count adjusted) := State.closesOnly_closeBundle 1 _ _
  have hpaused : (s.closedBundle k count adjusted).paused = s.paused := by simp [State.paused, hcloses.lrc]
  have hclaim := State.closeClaim_contextAt ((State.contextAt_of_contexts hcloses.contexts ci).trans hc) k.serial
  rw [hcloses.lanes, hpaused, State.freeable_of_strings hcloses.strings] at hclaim
  obtain ⟨t, hfences, ht⟩ := h.confirm_eq (ci := ci) (k := k) (count := count) (adjusted := adjusted)
  have hnone : t.pm.deferred = [] := by rw [hfences.pm, State.closeClaim_pm, hcloses.deferred, hdeferred]
  rw [ht, State.walkDeferred, hnone, ← hclaim]
  exact State.contextAt_of_contexts hfences.contexts ci

/-- The picks that a confirmation does not free join the report list together, and the others are counted FREE (R60). -/
theorem State.Undamaged.report_confirm (h : s.Undamaged) (hnodup : k.bundle.Nodup)
    (hused : ∀ i ∈ k.bundle, ∃ p, s.pickAt i = some p) :
    let freed (j : Nat) : Bool := s.frees (k.bundle.getD j 0) ((apportion count (k.bundle.map s.requestedOf)).getD j 0)
    (∃ more, (s.confirm ci k count adjusted).jw.report = s.jw.report ++
      ((List.range k.bundle.length).filter fun j => !freed j).map (fun j => Item.pick (k.bundle.getD j 0)) ++ more) ∧
      (s.confirm ci k count adjusted).pm.free = s.pm.free + ((List.range k.bundle.length).filter freed).length := by
  intro freed
  have hgrows := h.grows_confirm (ci := ci) (k := k) (count := count) (adjusted := adjusted)
  obtain ⟨hreport, hfree⟩ := State.closeBundle_report (size := k.bundle.length) (adjusted := adjusted) 1
    (apportion count (k.bundle.map s.requestedOf)) hnodup hused
  rw [zip_eq_map_range (by rw [apportion_length, List.length_map]), List.filter_map] at hreport hfree
  obtain ⟨more, hmore⟩ := hgrows.report
  refine ⟨⟨more, ?_⟩, ?_⟩
  · rw [← hmore, State.closedBundle, hreport, List.map_map]
    rfl
  · rw [hgrows.free, State.closedBundle, hfree, List.length_map]
    rfl

end Confirm

/-- Settles O50: how a claim leaves by removeClaim, what is left of its context by freeable, and the confirmation by the closing of its
bundle, which all that follows leaves standing. -/
theorem confirmationClosesTheBundle : Obligations.ConfirmationClosesTheBundle := by
  unfold Obligations.ConfirmationClosesTheBundle
  refine ⟨?_, fun s ci c hc => ?_, ?_⟩
  · intro c lanes paused serial hserials d
    have hfaces : d.desired.faces = d.facesNow lanes := c.removeClaim_faces lanes paused serial
    have hpinned : d.desired.pinned = d.pinnedIndex := c.removeClaim_pinned lanes paused serial
    have hpin : d.pin = c.pin.filter fun (p : Pin) => p.serial != serial := c.removeClaim_pin lanes paused serial
    refine ⟨?_, fun p hp => ?_, fun hp => ?_, Context.removeClaim_selected lanes paused serial hserials, hfaces, fun hnone => ?_,
      c.removeClaim_keeps lanes paused serial⟩
    · have hstill := congrArg (List.map fun k : Claim => (k.serial, k.lane, k.bundle, k.sum))
        (c.removeClaim_still lanes paused serial)
      simpa only [List.map_map, Function.comp_def, Claim.still] using hstill
    · by_cases hs : p.serial = serial <;> simp [hpin, hp, hs, Option.filter]
    · simp [hpin, hp]
    · rw [hfaces, hpinned]
      exact ⟨Context.facesNow_of_noClaim hnone lanes, Context.pinnedIndex_of_noClaim hnone⟩
  · have hiff := s.freeable_iff c
    refine ⟨hiff, fun hfree => State.settleContext_of_freeable hc (hiff.2 hfree), fun hnot => ?_⟩
    exact State.settleContext_of_not_freeable hc (Bool.eq_false_iff.2 (mt hiff.1 hnot))
  · intro s ci k count adjusted hi _ hnodup hplaced t cs
    have hu := hi.undamaged
    have hcloses : s.ClosesOnly (s.closedBundle k count adjusted) := State.closesOnly_closeBundle 1 _ _
    have hgrows := hu.grows_confirm (ci := ci) (k := k) (count := count) (adjusted := adjusted)
    have hframe := s.confirm_frame ci k count adjusted
    refine ⟨fun j p hj hp => (hu.pickAt_confirm hnodup hj hp).trans (p.confirmed_eq _ _ _ _ _), ?_, fun c hc hdeferred => ?_,
      State.lanes_of_frame hframe, State.iu_of_frame hframe, hgrows.strings.trans hcloses.strings, hgrows.lrc.trans hcloses.lrc⟩
    · exact hu.report_confirm hnodup fun i hm => (hplaced i hm).imp fun p hp => hp.1
    · have hcontext := hu.contextAt_confirm (k := k) (count := count) (adjusted := adjusted) hc hdeferred
      exact ⟨fun hf => hcontext.trans (if_pos hf), fun hf => hcontext.trans (if_neg (by simp [hf]))⟩

end Sys2Proof.Machine
end

section
/-! Proofs of the family of 03 (press attribution and apportioning), fourth part: how a press is matched, and what a stray or matched
press does (O54). -/

namespace Sys2Proof.Machine

/-! ### Matching -/

section Matching

variable {c : Context} {ci : Nat} {e : PressEvent} {x : FaceSet} {f : Face} {k : Claim}

/-- A press that carries neither generation finds no face set (R48). -/
theorem Context.matchedSet_eq_none {g : Nat} (hd : g ≠ c.displayed.generation)
    (hp : ∀ x, c.pending = some x → x.generation ≠ g) : c.matchedSet g = none := by
  unfold Context.matchedSet
  rw [if_neg (by simpa using Ne.symm hd)]
  cases hx : c.pending with
  | none => rfl
  | some x => simp [Option.filter, hp x hx]

/-- The set of a press is the displayed one, or the pending one when the displayed one has another generation (R48). -/
theorem Context.matchedSet_eq_some {g : Nat} (hx : x = c.displayed ∨ (c.pending = some x ∧ c.displayed.generation ≠ g))
    (hg : x.generation = g) : c.matchedSet g = some x := by
  unfold Context.matchedSet
  obtain rfl | ⟨hp, hd⟩ := hx
  · simp [hg]
  · simp [hp, hd, hg, Option.filter]

theorem Context.matchPress_of_noSet (h : c.matchedSet e.generation = none) : c.matchPress ci e = .stray .stale c.slot := by
  simp [Context.matchPress, h]

theorem Context.matchPress_of_noFace (h : c.matchedSet e.generation = some x) (hf : x.faceAt e.face = none) :
    c.matchPress ci e = .stray .noFace c.slot := by
  simp [Context.matchPress, h, hf]

theorem Context.matchPress_of_noClaim (h : c.matchedSet e.generation = some x) (hf : x.faceAt e.face = some f)
    (hk : c.claim f.serial = none) : c.matchPress ci e = .stray .withdrawn c.slot := by
  simp [Context.matchPress, h, hf, hk]

theorem Context.matchPress_of_claim (h : c.matchedSet e.generation = some x) (hf : x.faceAt e.face = some f)
    (hk : c.claim f.serial = some k) : c.matchPress ci e = .claim ci k f.quantity := by
  simp [Context.matchPress, h, hf, hk]

/-- A press is matched to a claim of its context (R50). -/
theorem Context.mem_of_matchPress {cj q : Nat} (h : c.matchPress ci e = .claim cj k q) : cj = ci ∧ k ∈ c.claims := by
  unfold Context.matchPress at h
  split at h
  · cases h
  · split at h
    · cases h
    · split at h
      · cases h
      · next hk =>
        cases h
        exact ⟨rfl, (Context.claim_serial hk).1⟩

end Matching

section Presses

variable {s : State} {n a ci q : Nat} {e : PressEvent} {c : Context} {k : Claim}

theorem State.matchPress_of_cold (h : s.contextOfModule n a = none) : s.matchPress n a e = .stray .cold 1024 := by
  simp [State.matchPress, h]

theorem State.matchPress_of_context (h : s.contextOfModule n a = some ci) (hc : s.contextAt ci = some c) :
    s.matchPress n a e = c.matchPress ci e := by
  simp [State.matchPress, h, hc]

/-- A matched press names the context of its module and a claim of it (R47, R50). -/
theorem State.context_of_matchPress (h : s.matchPress n a e = .claim ci k q) :
    s.contextOfModule n a = some ci ∧ ∃ c, s.contextAt ci = some c ∧ k ∈ c.claims := by
  unfold State.matchPress at h
  split at h
  · cases h
  · next cj hcj =>
    split at h
    · cases h
    · next c hc =>
      obtain ⟨rfl, hk⟩ := Context.mem_of_matchPress h
      exact ⟨hcj, c, hc, hk⟩

/-- Matching reads the context table alone (R47 to R50). -/
theorem State.matchPress_of_contexts {t : State} (h : t.contexts = s.contexts) : t.matchPress n a e = s.matchPress n a e := by
  simp [State.matchPress, State.contextOfModule, State.findContext, State.contextAt, h]

/-! ### Stray presses -/

/-- The STRAY-PRESS advisory of a press (R51). -/
def State.strayRecord (s : State) (n a : Nat) (e : PressEvent) (cause : Cause) (slot lane : Nat) : OutcomeRecord :=
  { s.advisory .strayPress cause slot (pressLocator n a e) with lane := BitVec.ofNat 8 lane }

section Stray

variable {u : Setup} (hu : s.lrc.setup = some u) (cause : Cause) (slot lane : Nat)
include hu

theorem State.strayPress_of_unreported (h : u.stray = false) : s.strayPress n a e cause slot lane = s := by
  simp [State.strayPress, hu, h]

theorem State.strayPress_of_reported (h : u.stray = true) :
    s.strayPress n a e cause slot lane = s.offer (s.strayRecord n a e cause slot lane) := by
  simp only [State.strayPress, hu, h]
  rfl

end Stray

/-- A stray press writes the journal alone (R51). -/
theorem State.strayPress_eq (s : State) (n a : Nat) (e : PressEvent) (cause : Cause) (slot lane : Nat) :
    ∃ j, s.strayPress n a e cause slot lane = s.setJw j := by
  unfold State.strayPress State.offer
  repeat' split
  all_goals exact ⟨_, rfl⟩

theorem State.attributePress_of_stray {cause : Cause} {slot : Nat} (h : s.matchPress n a e = .stray cause slot) :
    s.attributePress n a e = s.strayPress n a e cause slot 0 := by
  have hcheck : s.checkPressed n a e = s := by
    unfold State.checkPressed
    rw [h]
    cases e.button <;> rfl
  simp [State.attributePress, hcheck, h]

/-! ### Matched presses -/

/-- The pin of a context, when it is on a claim (R57). -/
def Context.pinOf (c : Context) (k : Claim) : Option Pin := c.pin.filter fun (p : Pin) => p.serial == k.serial

theorem Context.pinOf_of_pinned {p : Pin} (hp : c.pin = some p) (h : p.serial = k.serial) : c.pinOf k = some p := by
  simp [Context.pinOf, hp, h, Option.filter]

theorem Context.pinOf_of_other (h : ∀ p, c.pin = some p → p.serial ≠ k.serial) : c.pinOf k = none := by
  unfold Context.pinOf
  cases hp : c.pin with
  | none => rfl
  | some p => simp [Option.filter, h p hp]

/-- A matched CONFIRM, on entries of good parity, closes the bundle with A while its claim is PINNED, else with the quantity that the
module showed (R57). -/
theorem State.attributePress_of_confirm (hpicks : ∀ x ∈ s.pm.entries, x.parity = true)
    (h : s.matchPress n a e = .claim ci k q) (hc : s.contextAt ci = some c) (hb : e.button = .confirm) :
    s.attributePress n a e = s.confirm ci k (((c.pinOf k).map Pin.count).getD q) (c.pinOf k).isSome := by
  have hcheck : s.checkPressed n a e = s := by
    simp only [State.checkPressed, hb, h]
    exact s.readPicks_of_intact hpicks _
  have hpress : s.attributePress n a e = s.confirmPress ci k q := by
    simp [State.attributePress, hcheck, h, hb]
  rw [hpress, State.confirmPress, hc]
  dsimp only
  split
  · next p hp => rw [show c.pinOf k = some p from hp]; rfl
  · next hp => rw [show c.pinOf k = none from hp]; rfl

/-- A matched MINUS or PLUS reads no pick entry (R52, R53). -/
theorem State.attributePress_of_adjust (h : s.matchPress n a e = .claim ci k q) (hb : e.button ≠ .confirm) :
    s.attributePress n a e = s.adjustPress n a e ci k := by
  have hcheck : s.checkPressed n a e = s := by
    unfold State.checkPressed
    split
    · next hb' _ => exact absurd hb' hb
    · rfl
  simp only [State.attributePress, hcheck, h]

theorem State.adjustPress_of_free (hc : s.contextAt ci = some c) (hpin : ∀ p, c.pin = some p → p.serial = k.serial) :
    s.adjustPress n a e ci k = s.setContext ci (some (c.adjust s.pm.lanes s.paused k e.button s.pinMs)) := by
  simp only [State.adjustPress, hc]
  refine if_neg ?_
  cases hp : c.pin with
  | none => simp
  | some p => simp [hpin p hp]

theorem State.adjustPress_of_conflict (hc : s.contextAt ci = some c) {p : Pin} (hp : c.pin = some p)
    (hne : p.serial ≠ k.serial) : s.adjustPress n a e ci k = s.strayPress n a e .pinConflict c.slot k.lane := by
  simp [State.adjustPress, hc, hp, hne]

end Presses

end Sys2Proof.Machine
end

section
/-! Proofs of the family of 03 (press attribution and apportioning), fifth part: a reply with one accepted press, from the end of its
exchange to the lines it sets off (O54). -/

namespace Sys2Proof.Machine

/-! ### Context entries of good parity through the taking up of the lines -/

/-- The context entries pass their checks. -/
def State.SoundContexts (s : State) : Prop := ∀ e ∈ s.contexts, e.parity = true

theorem State.SoundContexts.ite {b : Prop} [Decidable b] {t u : State} (ht : t.SoundContexts) (hu : u.SoundContexts) :
    (if b then t else u).SoundContexts := by
  split
  · exact ht
  · exact hu

section Lines

variable {s : State} (h : s.SoundContexts) (n : Nat)
include h

theorem State.SoundContexts.setContext (ci : Nat) (x : Option Context) : (s.setContext ci x).SoundContexts :=
  fun e he => (List.mem_or_eq_of_mem_set he).elim (h e) fun heq => heq ▸ rfl

theorem State.SoundContexts.settleMode : (s.settleMode n).SoundContexts := by
  unfold State.settleMode
  refine .ite h ?_
  split
  · exact .ite h (.ite h h)
  · exact .ite h h
  · exact .ite h h
  · exact h

/-- A hot turn writes a context only to send its due set (R40, R79). -/
theorem State.SoundContexts.hotTurn (a : Nat) : (s.hotTurn n a).SoundContexts := by
  unfold State.hotTurn
  refine .ite h ?_
  split
  · next ci _ =>
    split
    · exact .ite (h.setContext ci _) h
    · exact h
  · exact h

theorem State.SoundContexts.coldTurnAt (a : Nat) : (s.coldTurnAt n a).SoundContexts := .ite h h

theorem State.SoundContexts.roundTurn : (s.roundTurn n).SoundContexts := by
  unfold State.roundTurn
  dsimp only
  split
  · exact h.hotTurn n _
  · split
    · exact State.SoundContexts.coldTurnAt (s := s.setString n _) h n _
    · split
      · exact State.SoundContexts.hotTurn (s := s.setString n _) h n _
      · exact h

theorem State.SoundContexts.sweepTurn (w : Sweep) : (s.sweepTurn n w).SoundContexts := .ite h h

theorem State.SoundContexts.quietTurn : (s.quietTurn n).SoundContexts := by
  unfold State.quietTurn
  refine .ite ?_ h
  dsimp only
  split
  · exact State.SoundContexts.coldTurnAt (s := s.setString n _) h n _
  · exact h

theorem State.SoundContexts.turn : (s.turn n).SoundContexts := by
  unfold State.turn
  dsimp only
  split
  · split
    · exact h.sweepTurn n _
    · exact h
  · split
    · exact h.sweepTurn n _
    · exact h.quietTurn n
  · exact h.roundTurn n
  · exact h

theorem State.SoundContexts.endSweep : (s.endSweep n).SoundContexts := by
  have hclose (good : Nat) : (s.closeSurvey n good).SoundContexts := by
    unfold State.closeSurvey State.offerString
    split
    · exact .ite h h
    · exact .ite h h
    · exact h
  unfold State.endSweep
  dsimp only
  split
  · refine .ite ?_ h
    split
    · exact hclose _
    · exact h
    · exact h
  · exact h

theorem State.SoundContexts.runLine : (s.runLine n).SoundContexts := by
  have hmode := h.settleMode n
  unfold State.runLine
  dsimp only
  split
  · split
    · exact hmode
    · exact (hmode.endSweep n).turn n
  · exact hmode

omit n in
theorem State.SoundContexts.kick : s.kick.SoundContexts := by
  simp only [State.kick, State.eachString, List.foldl]
  exact (((h.runLine 0).runLine 1).runLine 2).runLine 3

end Lines

/-! ### What follows the presses of a reply -/

section Follows

variable {s : State} (h : s.Undamaged)
include h

theorem State.Undamaged.follows_kick : s.Follows s.kick :=
  ⟨⟨by rw [State.kick_pm]; exact h.picks, State.SoundContexts.kick h.contexts⟩,
    fun j _ => State.pickAt_of_pm s.kick_pm j⟩

theorem State.Undamaged.follows_releaseContext (ci : Nat) : s.Follows (s.releaseContext ci) := by
  unfold State.releaseContext
  split
  · split
    · exact (h.follows_setContext ci none).trans (h.setContext ci none).follows_placementPass
    · exact h.follows
  · exact h.follows

theorem State.Undamaged.follows_displayReport (ci : Nat) (reboot : Bool) (generation : Nat) :
    s.Follows (s.displayReport ci reboot generation) := by
  unfold State.displayReport
  split
  · exact (h.follows_setContext ci _).trans ((h.setContext ci _).follows_releaseContext ci)
  · exact h.follows

/-- A freed entry offers the head again, which takes no pick up (R8, R96). -/
theorem State.Undamaged.follows_reoffer (free : Nat) : s.Follows (s.reoffer free) := by
  have hhead := s.offerHead_outside
  have hoffer := h.follows_of_tables (t := s.offerHead) (congrArg PickManager.entries (State.pm_of_outside hhead))
    (State.contexts_of_outside hhead)
  unfold State.reoffer
  split
  · rw [s.checkContexts_of_intact h.contexts]
    exact hoffer.trans hoffer.undamaged.follows_kick
  · exact h.follows

end Follows

/-! ### The steps of a reply -/

@[simp] theorem State.offer_contexts (s : State) (r : OutcomeRecord) : (s.offer r).contexts = s.contexts := by
  unfold State.offer
  split <;> rfl

@[simp] theorem State.offerModule_pm (s : State) (n a : Nat) (k : RecordKind) (cause : Cause) :
    (s.offerModule n a k cause).pm = s.pm := by
  unfold State.offerModule
  split <;> simp

@[simp] theorem State.offerModule_contexts (s : State) (n a : Nat) (k : RecordKind) (cause : Cause) :
    (s.offerModule n a k cause).contexts = s.contexts := by
  unfold State.offerModule
  split <;> simp

section Status

variable {s : State} {n a ci : Nat} (reboot : Bool) (r : Reply)

/-- Of steps 3 to 6 of a reply to a hot module the display report alone works on the tables (R74). -/
theorem State.hearStatus_of_hot (h : s.contextOfModule n a = some ci) :
    (s.hearStatus n a reboot r).pm = (s.displayReport ci reboot r.generation).pm ∧
      (s.hearStatus n a reboot r).contexts = (s.displayReport ci reboot r.generation).contexts := by
  unfold State.hearStatus
  rw [h]
  dsimp only
  repeat' split
  all_goals simp

theorem State.hearStatus_of_cold (h : s.contextOfModule n a = none) :
    (s.hearStatus n a reboot r).pm = s.pm ∧ (s.hearStatus n a reboot r).contexts = s.contexts := by
  unfold State.hearStatus
  rw [h]
  dsimp only
  repeat' split
  all_goals simp

theorem State.Undamaged.follows_hearStatus (h : s.Undamaged) : s.Follows (s.hearStatus n a reboot r) := by
  cases hm : s.contextOfModule n a with
  | none =>
    obtain ⟨hpm, hcontexts⟩ := State.hearStatus_of_cold reboot r hm
    exact h.follows_of_tables (congrArg PickManager.entries hpm) hcontexts
  | some ci =>
    obtain ⟨hpm, hcontexts⟩ := State.hearStatus_of_hot reboot r hm
    have hdisplay := h.follows_displayReport ci reboot r.generation
    exact hdisplay.trans (hdisplay.undamaged.follows_of_tables (congrArg PickManager.entries hpm) hcontexts)

end Status

@[simp] theorem State.sweepHeard_pm (s : State) (n a : Nat) (kind : ExchangeKind) (r : Reply) :
    (s.sweepHeard n a kind r).pm = s.pm := by
  unfold State.sweepHeard
  dsimp only
  split <;> rfl

@[simp] theorem State.sweepHeard_contexts (s : State) (n a : Nat) (kind : ExchangeKind) (r : Reply) :
    (s.sweepHeard n a kind r).contexts = s.contexts := by
  unfold State.sweepHeard
  dsimp only
  split <;> rfl

/-- What an exchange that ends with a reply does once its presses are attributed: the report of the module, the sweep, the lines. -/
theorem State.exchangeHeard_eq (s : State) (n a : Nat) (kind : ExchangeKind) (sweep : Bool) (r : Reply) :
    ∃ (reboot : Bool) (t : State), s.exchangeHeard n a kind sweep r = t.kick ∧
      t.pm = (((s.endLine n).hearPresses n a kind r).hearStatus n a reboot r).pm ∧
      t.contexts = (((s.endLine n).hearPresses n a kind r).hearStatus n a reboot r).contexts := by
  refine ⟨r.fresh && !((s.endLine n).link n a).bootNoted, _, rfl, ?_, ?_⟩
  all_goals
    split
    · simp [State.handleReply]
    · rfl

/-- The presses of a reply are attributed on the tables, the lanes and the run state as they stood (R74). -/
theorem State.hearPresses_of_one {s : State} {n a : Nat} {kind : ExchangeKind} {r : Reply} {e : PressEvent} (hrun : s.inRun = true)
    (hone : let before := if r.fresh && !(s.link n a).bootNoted then none else (s.link n a).lastSequence
      (judgeEvents before.isNone before r.events).1 = [e]) :
    ∃ t : State, t.pm = s.pm ∧ t.contexts = s.contexts ∧ t.lrc = s.lrc ∧
      (s.endLine n).hearPresses n a kind r = t.attributePress n a e := by
  have hlasting : (s.endLine n).lasting = s.lasting := State.setString_lasting _ _ _ rfl
  have hframe (m : ModuleLink) : (((s.endLine n).restartDormancy n a r).setLink n a m).frame = s.frame := by simp
  have htables (m : ModuleLink) : (((s.endLine n).restartDormancy n a r).setLink n a m).pm = s.pm ∧
      (((s.endLine n).restartDormancy n a r).setLink n a m).contexts = s.contexts ∧
      (((s.endLine n).restartDormancy n a r).setLink n a m).lrc = s.lrc := by
    unfold State.restartDormancy
    split <;> exact ⟨rfl, rfl, rfl⟩
  dsimp only at hone
  unfold State.hearPresses
  dsimp only
  rw [State.link_of_lasting hlasting, hone, State.inRun_of_frame (hframe _), if_pos hrun]
  obtain ⟨hpm, hcontexts, hlrc⟩ := htables _
  exact ⟨_, hpm, hcontexts, hlrc, rfl⟩

end Sys2Proof.Machine
end

section
/-! Proofs of the family of 03 (press attribution and apportioning), sixth part: the effect of a reply with one accepted press, and the
attribution of presses as a whole (O54). -/

namespace Sys2Proof.Machine

/-! ### A reply to the module of a context with claims -/

@[simp] theorem Context.display_claims (c : Context) (reboot : Bool) (generation : Nat) :
    (c.display reboot generation).claims = c.claims := by
  unfold Context.display
  repeat' split
  all_goals rfl

@[simp] theorem Context.display_pin (c : Context) (reboot : Bool) (generation : Nat) :
    (c.display reboot generation).pin = c.pin := by
  unfold Context.display
  repeat' split
  all_goals rfl

/-- A display report frees no context that has a claim (R23, R24). -/
theorem State.displayReport_of_claims {s : State} {ci : Nat} {c : Context} (hc : s.contextAt ci = some c) (hne : c.claims ≠ [])
    (reboot : Bool) (generation : Nat) :
    s.displayReport ci reboot generation = s.setContext ci (some (c.display reboot generation)) := by
  have hset := s.contextAt_setContext_self ci (some (c.display reboot generation)) (State.lt_of_contextAt hc)
  have hbusy : ¬(s.setContext ci (some (c.display reboot generation))).freeable (c.display reboot generation) = true := by
    rw [State.freeable_iff, Context.display_claims]
    exact fun h => hne h.1
  simp only [State.displayReport, hc, State.reportContext, State.releaseContext, hset]
  exact if_neg hbusy

theorem State.reoffer_of_same {s : State} {free : Nat} (h : s.pm.free = free) : s.reoffer free = s := by
  refine if_neg ?_
  simp only [Bool.and_eq_true, beq_iff_eq, decide_eq_true_eq, not_and]
  omega

section Reply

variable {s t : State} {n a ci : Nat} {kind : ExchangeKind} {sweep : Bool} {r : Reply}

/-- Behind its presses a reply takes up no pick that is not DEFERRED (R74). -/
theorem State.follows_reply (hpresses : (s.endLine n).hearPresses n a kind r = t) (ht : t.Undamaged) (free : Nat) :
    t.Follows ((s.exchangeHeard n a kind sweep r).reoffer free) := by
  obtain ⟨reboot, u, hheard, hpm, hcontexts⟩ := s.exchangeHeard_eq n a kind sweep r
  rw [hpresses] at hpm hcontexts
  have hstatus : t.Follows (t.hearStatus n a reboot r) := ht.follows_hearStatus reboot r
  have hsweep : t.Follows u :=
    hstatus.trans (hstatus.undamaged.follows_of_tables (congrArg PickManager.entries hpm) hcontexts)
  have hkick := hsweep.trans hsweep.undamaged.follows_kick
  rw [hheard]
  exact hkick.trans (hkick.undamaged.follows_reoffer free)

/-- Behind its presses a reply leaves the claims and the pin of the context of its module, while that has a claim (R74). -/
theorem State.contextAt_reply (hpresses : (s.endLine n).hearPresses n a kind r = t) (hm : t.contextOfModule n a = some ci)
    {c : Context} (hc : t.contextAt ci = some c) (hne : c.claims ≠ []) :
    ∃ d, ((s.exchangeHeard n a kind sweep r).reoffer t.pm.free).contextAt ci = some d ∧ d.claims = c.claims ∧ d.pin = c.pin := by
  obtain ⟨reboot, u, hheard, hpm, hcontexts⟩ := s.exchangeHeard_eq n a kind sweep r
  rw [hpresses] at hpm hcontexts
  obtain ⟨hstatusPm, hstatusContexts⟩ := State.hearStatus_of_hot reboot r hm
  rw [State.displayReport_of_claims hc hne] at hstatusPm hstatusContexts
  have hset := t.contextAt_setContext_self ci (some (c.display reboot r.generation)) (State.lt_of_contextAt hc)
  obtain ⟨x, hx⟩ := State.contextAt_of_lasting u.kick_lasting
    ((State.contextAt_of_contexts (hcontexts.trans hstatusContexts) ci).trans hset)
  have hfree : u.kick.pm.free = t.pm.free := by rw [State.kick_pm, hpm, hstatusPm, State.setContext_pm]
  exact ⟨_, by rw [hheard, State.reoffer_of_same hfree]; exact hx, by simp, by simp⟩

end Reply

/-! ### The context of a module through an adjustment -/

theorem firstFrom_congr {α : Type} {test : α → Bool} {l m : List α} (h : l.map test = m.map test) (n : Nat) :
    firstFrom test n l = firstFrom test n m := by
  induction l generalizing m n with
  | nil =>
    obtain rfl := List.map_eq_nil_iff.1 h.symm
    rfl
  | cons x l ih =>
    cases m with
    | nil => cases h
    | cons y m =>
      obtain ⟨hx, hl⟩ := List.cons.inj h
      rw [firstFrom, firstFrom, hx, ih hl]

/-- A search of the contexts does not see a write that leaves what it tests. -/
theorem State.findContext_setContext {s : State} {ci : Nat} {c d : Context} (hc : s.contextAt ci = some c)
    {test : Context → Bool} (h : test d = test c) : (s.setContext ci (some d)).findContext test = s.findContext test := by
  obtain ⟨e, he, hec⟩ := Option.bind_eq_some_iff.1 hc
  obtain ⟨hlt, rfl⟩ := List.getElem?_eq_some_iff.1 he
  refine firstFrom_congr ?_ 0
  rw [State.setContext, State.setContexts_contexts, List.map_set]
  refine List.ext_getElem (by simp) fun j hj _ => ?_
  rw [List.getElem_set]
  split
  · next hij =>
    subst hij
    simp [hec, h]
  · rfl

theorem Context.rebuild_atlas (c : Context) (lanes : List Lane) (paused : Bool) : (c.rebuild lanes paused).atlas = c.atlas := by
  obtain ⟨g, x, h, -⟩ := c.rebuild_eq lanes paused
  rw [h]

/-- After a matched MINUS or PLUS: the tables of picks stand, and the context of the module its claims, with the pin that the press
leaves (R52, R53). -/
theorem State.attributePress_adjusts {s : State} {n a ci q : Nat} {e : PressEvent} {k : Claim} {c : Context}
    (h : s.matchPress n a e = .claim ci k q) (hc : s.contextAt ci = some c) (hb : e.button ≠ .confirm) :
    (s.attributePress n a e).pm = s.pm ∧ (s.attributePress n a e).contextOfModule n a = some ci ∧
      ∃ d, (s.attributePress n a e).contextAt ci = some d ∧ d.claims = c.claims ∧
        ((∀ p, c.pin = some p → p.serial = k.serial) → d.pin = (c.adjust s.pm.lanes s.paused k e.button s.pinMs).pin) ∧
        (∀ p, c.pin = some p → p.serial ≠ k.serial → d.pin = c.pin) := by
  obtain ⟨hm, -⟩ := State.context_of_matchPress h
  rw [State.attributePress_of_adjust h hb]
  by_cases hpin : ∀ p, c.pin = some p → p.serial = k.serial
  · have hclaims : (c.adjust s.pm.lanes s.paused k e.button s.pinMs).claims = c.claims := Context.rebuild_claims _ _ _
    have hatlas : (c.adjust s.pm.lanes s.paused k e.button s.pinMs).atlas = c.atlas := Context.rebuild_atlas _ _ _
    rw [State.adjustPress_of_free hc hpin]
    refine ⟨rfl, ?_, _, s.contextAt_setContext_self ci _ (State.lt_of_contextAt hc), hclaims, fun _ => rfl,
      fun p hp hne => absurd (hpin p hp) hne⟩
    refine (State.findContext_setContext hc ?_).trans hm
    simp [Context.names, hatlas]
  · obtain ⟨p, hp, hne⟩ : ∃ p, c.pin = some p ∧ p.serial ≠ k.serial := by simpa using hpin
    obtain ⟨j, hj⟩ := s.strayPress_eq n a e .pinConflict c.slot k.lane
    rw [State.adjustPress_of_conflict hc hp hne, hj]
    exact ⟨rfl, hm, c, hc, rfl, fun hall => absurd hall hpin, fun _ _ _ => rfl⟩

/-! ### MODULE_REPLY with one accepted press -/

section ModuleReply

variable {s : State} {n : Fin 4} {a ci q : Nat} {kind : ExchangeKind} {sweep : Bool} {r : Reply} {e : PressEvent} {k : Claim}
  {frame : List Byte}

/-- A valid reply on tables of good parity (R74). -/
theorem exec_moduleReply (hi : s.Intact) (hline : (s.stringAt n).line = .exchange a kind sweep 0)
    (hr : decodeReply a frame = some r) :
    exec (.moduleReply n frame) s = .next ((s.exchangeHeard n a kind sweep r).reoffer s.pm.free) := by
  refine congrArg Host.Outcome.next ?_
  simp only [State.moduleReply, StringCtl.ending, hline, hr, s.checkContexts_of_intact hi.undamaged.contexts]

/-- The one accepted press of a reply, matched as the tables stood when the reply came (R46). -/
theorem State.reply_press (hrun : s.inRun = true)
    (hone : let before := if r.fresh && !(s.link n a).bootNoted then none else (s.link n a).lastSequence
      (judgeEvents before.isNone before r.events).1 = [e]) (hmatch : s.matchPress n a e = .claim ci k q) :
    ∃ t : State, t.pm = s.pm ∧ t.contexts = s.contexts ∧ t.lrc = s.lrc ∧ t.matchPress n a e = .claim ci k q ∧
      (s.endLine n).hearPresses n a kind r = t.attributePress n a e := by
  obtain ⟨t, hpm, hcontexts, hlrc, ht⟩ := State.hearPresses_of_one (kind := kind) hrun hone
  exact ⟨t, hpm, hcontexts, hlrc, (State.matchPress_of_contexts hcontexts).trans hmatch, ht⟩

/-- A reply whose one accepted press is a matched CONFIRM closes the claim's bundle, and what follows in the reply leaves the picks so
(R57, R74). -/
theorem exec_moduleReply_confirm (hi : s.Intact) (hrun : s.inRun = true) (hline : (s.stringAt n).line = .exchange a kind sweep 0)
    (hr : decodeReply a frame = some r)
    (hone : let before := if r.fresh && !(s.link n a).bootNoted then none else (s.link n a).lastSequence
      (judgeEvents before.isNone before r.events).1 = [e]) (hmatch : s.matchPress n a e = .claim ci k q)
    {c : Context} (hc : s.contextAt ci = some c) (hb : e.button = .confirm) (hnodup : k.bundle.Nodup) :
    ∃ t, exec (.moduleReply n frame) s = .next t ∧ ∀ j p, j < k.bundle.length → s.pickAt (k.bundle.getD j 0) = some p →
      t.pickAt (k.bundle.getD j 0) =
        p.confirmed ((apportion (((c.pinOf k).map Pin.count).getD q) (k.bundle.map s.requestedOf)).getD j 0) s.lrc.clock
          k.bundle.length (j + 1) (c.pinOf k).isSome := by
  obtain ⟨t, hpm, hcontexts, hlrc, hmatcht, hpress⟩ := State.reply_press (kind := kind) hrun hone hmatch
  have ht : t.Undamaged := hi.undamaged.of_tables (congrArg PickManager.entries hpm) hcontexts
  have hrequested : t.requestedOf = s.requestedOf := funext fun i => by rw [State.requestedOf, State.pickAt_of_pm hpm]; rfl
  rw [State.attributePress_of_confirm ht.picks hmatcht ((State.contextAt_of_contexts hcontexts ci).trans hc) hb] at hpress
  refine ⟨_, exec_moduleReply hi hline hr, fun j p hj hp => ?_⟩
  have hclosed := ht.pickAt_confirm (ci := ci) (count := ((c.pinOf k).map Pin.count).getD q) (adjusted := (c.pinOf k).isSome)
    hnodup hj ((State.pickAt_of_pm hpm _).trans hp)
  have hfollows := State.follows_reply (sweep := sweep) hpress ht.follows_confirm.undamaged s.pm.free
  rw [hfollows.stands _ (Pick.closed_notDeferred hclosed), hclosed, hrequested, hlrc]

/-- A reply whose one accepted press is a matched MINUS or PLUS leaves the claims of the context, with the pin that the press leaves
(R52, R53, R74). -/
theorem exec_moduleReply_adjust (hi : s.Intact) (hrun : s.inRun = true) (hline : (s.stringAt n).line = .exchange a kind sweep 0)
    (hr : decodeReply a frame = some r)
    (hone : let before := if r.fresh && !(s.link n a).bootNoted then none else (s.link n a).lastSequence
      (judgeEvents before.isNone before r.events).1 = [e]) (hmatch : s.matchPress n a e = .claim ci k q)
    {c : Context} (hc : s.contextAt ci = some c) (hb : e.button ≠ .confirm) :
    ∃ t d, exec (.moduleReply n frame) s = .next t ∧ t.contextAt ci = some d ∧ d.claims = c.claims ∧
      ((∀ p, c.pin = some p → p.serial = k.serial) → d.pin = (c.adjust s.pm.lanes s.paused k e.button s.pinMs).pin) ∧
      (∀ p, c.pin = some p → p.serial ≠ k.serial → d.pin = c.pin) := by
  obtain ⟨t, hpm, hcontexts, hlrc, hmatcht, hpress⟩ := State.reply_press (kind := kind) hrun hone hmatch
  obtain ⟨hpmt, hmt, d, hd, hclaims, hfree, hconflict⟩ :=
    State.attributePress_adjusts hmatcht ((State.contextAt_of_contexts hcontexts ci).trans hc) hb
  have hpaused : t.paused = s.paused := by simp [State.paused, hlrc]
  have hms : t.pinMs = s.pinMs := by simp [State.pinMs, hlrc]
  rw [hpm, hpaused, hms] at hfree
  obtain ⟨-, c', hc', hk⟩ := State.context_of_matchPress hmatch
  obtain rfl : c' = c := Option.some.inj (hc'.symm.trans hc)
  obtain ⟨x, hx, hxclaims, hxpin⟩ :=
    State.contextAt_reply (sweep := sweep) hpress hmt hd (hclaims ▸ List.ne_nil_of_mem hk)
  rw [hpmt, hpm] at hx
  exact ⟨_, x, exec_moduleReply hi hline hr, hx, hxclaims.trans hclaims, fun hpin => hxpin.trans (hfree hpin),
    fun p hp hother => hxpin.trans (hconflict p hp hother)⟩

end ModuleReply

/-- Settles O54: matching by its steps, the stray and the matched press by attributePress on tables of good parity, and a reply by its
one press, behind which the closed picks and the pin stand. -/
theorem pressesAreMatchedOrStray : Obligations.PressesAreMatchedOrStray := by
  unfold Obligations.PressesAreMatchedOrStray
  refine ⟨fun s n a e => ⟨State.matchPress_of_cold, fun ci c hm hc => ?_, ?_⟩, fun s n a e es => ⟨rfl, rfl⟩, ?_, ?_⟩
  · rw [State.matchPress_of_context hm hc]
    refine ⟨fun hd hp => Context.matchPress_of_noSet (Context.matchedSet_eq_none hd hp), fun x hx hg => ?_⟩
    have hset := Context.matchedSet_eq_some hx hg
    exact ⟨Context.matchPress_of_noFace hset, fun f => Context.matchPress_of_noClaim hset,
      fun f k => Context.matchPress_of_claim hset⟩
  · intro cause slot u hstray hu t
    have ht : t = s.strayPress n a e cause slot 0 := State.attributePress_of_stray hstray
    obtain ⟨j, hj⟩ := s.strayPress_eq n a e cause slot 0
    rw [ht]
    refine ⟨by rw [hj]; rfl, by rw [hj]; rfl, by rw [hj]; rfl, State.strayPress_of_unreported hu cause slot 0,
      fun hon hfull => ?_, fun hon hspare => ?_⟩
    · rw [State.strayPress_of_reported hu cause slot 0 hon, State.offer_of_full hfull]
      rfl
    · rw [State.strayPress_of_reported hu cause slot 0 hon, State.offer_of_spare hspare]
      rfl
  · intro s n a e ci k q c u hpicks hmatch hc hu
    have hms : s.pinMs = u.pinTimeout * 1000 := by simp [State.pinMs, hu]
    refine ⟨fun hb => ?_, fun hb => ⟨fun hpin => ?_, fun p hp hne => ?_⟩⟩
    · rw [State.attributePress_of_confirm hpicks hmatch hc hb]
      refine ⟨fun p hp hserial => ?_, fun hother => ?_⟩
      · rw [Context.pinOf_of_pinned hp hserial]
        rfl
      · rw [Context.pinOf_of_other hother]
        rfl
    · rw [State.attributePress_of_adjust hmatch hb, State.adjustPress_of_free hc hpin, hms]
      rfl
    · rw [State.attributePress_of_adjust hmatch hb, State.adjustPress_of_conflict hc hp hne]
      refine ⟨State.strayPress_of_unreported hu _ _ _, fun hon hspare => ?_⟩
      rw [State.strayPress_of_reported hu _ _ _ hon, State.offer_of_spare hspare]
      rfl
  · intro s n frame a kind sweep r e ci k q c hi _ hrun hline _ _ hr before hone hmatch hc
    refine ⟨fun hb hnodup _ => ?_, exec_moduleReply_adjust hi hrun hline hr hone hmatch hc⟩
    obtain ⟨t, ht, hclosed⟩ := exec_moduleReply_confirm hi hrun hline hr hone hmatch hc hb hnodup
    exact ⟨t, ht, fun j p hj hp => (hclosed j p hj hp).trans (p.confirmed_eq _ _ _ _ _)⟩

end Sys2Proof.Machine
end

section
/-! Proofs of the family of 04 (lamp strings), first part: what the string events and the abandon, linger and pin timers leave of the
intake, of run control, of the lanes and of the journal's counts (O56). -/

namespace Sys2Proof.Machine

/-! ### The offer of the head -/

/-- The intake of two states is the same but for whether the head waits on the lookahead fetch (R100). -/
def State.SameIntake (s t : State) : Prop := t.iu = { s.iu with onLookahead := t.iu.onLookahead }

theorem State.sameIntake_of_iu {s t : State} (h : t.iu = s.iu) : s.SameIntake t := by
  rw [State.SameIntake, h]

@[simp] theorem State.reportFault_iu (s : State) (x : FaultTable) (i : Nat) : (s.reportFault x i).iu = s.iu := by
  unfold State.reportFault
  split <;> simp

@[simp] theorem State.checkSet_iu (s : State) (slot : Nat) : (s.checkSet slot).iu = s.iu := by
  have hway (t : State) (i : Nat) : (t.checkWay i).iu = t.iu := by
    unfold State.checkWay
    split <;> simp [State.invalidateWay]
  simp [State.checkSet, hway]

@[simp] theorem State.lookup_iu (s : State) (slot : Nat) : (s.lookup slot).1.iu = s.iu := by
  unfold State.lookup
  dsimp only
  repeat' split
  all_goals simp [State.install]

/-- Only a miss that the lookahead fetch will answer marks the intake (R100). -/
theorem State.sameIntake_demand (s : State) (slot : Nat) : s.SameIntake (s.demand slot) := by
  unfold State.demand
  split
  · rfl
  · exact State.sameIntake_of_iu (by simp [State.readEntry])

theorem State.sameIntake_offerHead (s : State) : s.SameIntake s.offerHead := by
  unfold State.offerHead
  split
  · next r _ =>
    split
    · unfold State.askAtlas
      have hlookup := s.lookup_iu r.slot.toNat
      split
      · next t _ heq => exact State.sameIntake_of_iu (by simpa [heq] using hlookup)
      · next t heq =>
        obtain rfl : (s.lookup r.slot.toNat).1 = t := by rw [heq]
        have hdemand := State.sameIntake_demand (s.lookup r.slot.toNat).1 r.slot.toNat
        rwa [State.SameIntake, hlookup] at hdemand
    · exact State.sameIntake_of_iu rfl
  · exact State.sameIntake_of_iu rfl

/-! ### What stands through a string event or a timer -/

/-- What a string event or a timer leaves: run control but for NOTICE, the lanes, and the journal's counts and open block. -/
structure State.LeavesRun (s t : State) : Prop where
  lrc : t.lrc = { s.lrc with notice := t.lrc.notice }
  lanes : t.pm.lanes = s.pm.lanes
  sealed : t.jw.sealed = s.jw.sealed
  released : t.jw.released = s.jw.released
  written : t.jw.written = s.jw.written
  sealTimer : t.jw.sealTimer = s.jw.sealTimer

/-- Run control but for NOTICE, read off a frame that holds it with NOTICE at 0. -/
theorem lrc_of_control {x y : RunControl} (h : { x with notice := 0 } = { y with notice := 0 }) :
    x = { y with notice := x.notice } :=
  congrArg (fun z : RunControl => { z with notice := x.notice }) h

theorem State.leavesRun_of_frame {s t : State} (h : t.frame = s.frame) : s.LeavesRun t where
  lrc := lrc_of_control (congrArg Frame.control h)
  lanes := State.lanes_of_frame h
  sealed := State.sealed_of_frame h
  released := State.released_of_frame h
  written := State.written_of_frame h
  sealTimer := State.sealTimer_of_frame h

theorem State.leavesRun_of_outside {s t : State} (h : t.outside = s.outside) : s.LeavesRun t where
  lrc := lrc_of_control (congrArg Outside.control h)
  lanes := by rw [State.pm_of_outside h]
  sealed := by rw [State.jw_of_outside h]
  released := by rw [State.jw_of_outside h]
  written := by rw [State.jw_of_outside h]
  sealTimer := by rw [State.jw_of_outside h]

theorem State.LeavesRun.trans {s t u : State} (h : s.LeavesRun t) (k : t.LeavesRun u) : s.LeavesRun u where
  lrc := by rw [k.lrc, h.lrc]
  lanes := k.lanes.trans h.lanes
  sealed := k.sealed.trans h.sealed
  released := k.released.trans h.released
  written := k.written.trans h.written
  sealTimer := k.sealTimer.trans h.sealTimer

/-- Of the string events a reply alone may offer the head anew (R8, R96). -/
theorem State.reoffer_leaves (s : State) (free : Nat) : s.LeavesRun (s.reoffer free) ∧ s.SameIntake (s.reoffer free) := by
  unfold State.reoffer
  split
  · have hcheck := s.checkContexts_frame
    have hoffer := s.checkContexts.sameIntake_offerHead
    rw [State.SameIntake, State.iu_of_frame hcheck] at hoffer
    refine ⟨((State.leavesRun_of_frame hcheck).trans (State.leavesRun_of_outside (State.offerHead_outside _))).trans
      (State.leavesRun_of_frame (State.kick_frame _)), ?_⟩
    rw [State.SameIntake, State.kick_iu]
    exact hoffer
  · exact ⟨State.leavesRun_of_frame rfl, State.sameIntake_of_iu rfl⟩

theorem State.moduleReply_leaves (s : State) (n : Nat) (f : List Byte) :
    s.LeavesRun (s.moduleReply n f) ∧ s.SameIntake (s.moduleReply n f) := by
  unfold State.moduleReply
  split
  · next a kind sweep _ =>
    split
    · next r _ =>
      have hheard : (s.checkContexts.exchangeHeard n a kind sweep r).frame = s.frame := by simp
      obtain ⟨hrun, hintake⟩ := (s.checkContexts.exchangeHeard n a kind sweep r).reoffer_leaves s.pm.free
      rw [State.SameIntake, State.iu_of_frame hheard] at hintake
      exact ⟨(State.leavesRun_of_frame hheard).trans hrun, hintake⟩
    · exact ⟨State.leavesRun_of_frame (by simp), State.sameIntake_of_iu (State.iu_of_frame (by simp))⟩
  · exact ⟨State.leavesRun_of_frame rfl, State.sameIntake_of_iu rfl⟩

/-! ### The events that keep the frame -/

@[simp] theorem State.exchangeMiss_frame (s : State) (n : Nat) : (s.exchangeMiss n).frame = s.frame := by
  unfold State.exchangeMiss
  split <;> simp

@[simp] theorem State.broadcastEnd_frame (s : State) (n : Nat) : (s.broadcastEnd n).frame = s.frame := by
  unfold State.broadcastEnd
  split
  · rw [State.kick_frame, State.setString_frame _ _ _ (by rw [StringCtl.endBroadcast_modules]), State.checkContexts_frame]
  · rfl

theorem State.stringEvent_frame (s : State) (n : Nat) (f : StringCtl → StringCtl) (h : ∀ x, (f x).modules = x.modules) :
    (s.stringEvent n f).frame = s.frame := by
  rw [State.stringEvent, State.kick_frame, State.setString_frame _ _ _ (by rw [h]), State.checkContexts_frame]

@[simp] theorem State.feedInput_frame (s : State) (n : Nat) (asserted : Bool) : (s.feedInput n asserted).frame = s.frame := by
  simp [State.feedInput, State.setString_frame]

@[simp] theorem State.expireLinger_frame (s : State) (ci serial : Nat) : (s.expireLinger ci serial).frame = s.frame := by
  unfold State.expireLinger
  split <;> simp

@[simp] theorem State.expirePin_frame (s : State) (ci : Nat) : (s.expirePin ci).frame = s.frame := by
  unfold State.expirePin
  repeat' split
  all_goals simp

/-- The next state that a command answers, where it answers one, keeps the frame of `s`. -/
def State.AnswersFrame (s : State) (r : Result) : Prop := ∀ t, r = .next t → t.frame = s.frame

theorem State.answersFrame_next {s t : State} (h : t.frame = s.frame) : s.AnswersFrame (.next t) := by
  rintro u ⟨⟩
  exact h

theorem State.answersFrame_attempt {s t : State} (b : Bool) (h : t.frame = s.frame) : s.AnswersFrame (attempt b s t) := by
  cases b
  · exact State.answersFrame_next rfl
  · exact State.answersFrame_next h

theorem State.answersFrame_wellFormed {s : State} {r : Result} (i : Instr) (h : s.AnswersFrame r) :
    s.AnswersFrame (wellFormed i r) := by
  unfold wellFormed
  split
  · exact h
  · exact fun u hu => nomatch hu

/-- Settles O56: every event and timer of the list but MODULE_REPLY keeps the frame; a reply may offer the head anew besides. -/
theorem stringEventsAndTimersLeaveTheIntakeAlone : Obligations.StringEventsAndTimersLeaveTheIntakeAlone := by
  unfold Obligations.StringEventsAndTimersLeaveTheIntakeAlone
  intro c s t hc ht
  have key : s.LeavesRun t ∧ s.SameIntake t ∧ ((∀ n f, c ≠ .moduleReply n f) → t.iu = s.iu ∧ t.ac = s.ac) := by
    obtain ⟨n, f, rfl⟩ | hc := hc
    · obtain rfl : s.moduleReply n f = t := Host.Outcome.next.inj ht
      obtain ⟨hrun, hintake⟩ := s.moduleReply_leaves n f
      exact ⟨hrun, hintake, fun hne => absurd rfl (hne n f)⟩
    · suffices hframe : s.AnswersFrame (exec c s) by
        have h := hframe t ht
        exact ⟨State.leavesRun_of_frame h, State.sameIntake_of_iu (State.iu_of_frame h),
          fun _ => ⟨State.iu_of_frame h, State.ac_of_frame h⟩⟩
      obtain ⟨n, rfl⟩ | ⟨n, rfl⟩ | ⟨n, rfl⟩ | ⟨n, rfl⟩ | ⟨n, rfl⟩ | ⟨n, rfl⟩ | ⟨n, low, rfl⟩ | ⟨n, b, rfl⟩ | ⟨i, rfl⟩ |
        ⟨ci, serial, rfl⟩ | ⟨ci, rfl⟩ := hc
      · exact State.answersFrame_next (s.exchangeMiss_frame n)
      · exact State.answersFrame_next (s.broadcastEnd_frame n)
      · exact State.answersFrame_attempt _ (s.stringEvent_frame n _ fun _ => rfl)
      · exact State.answersFrame_attempt _ (s.stringEvent_frame n _ fun _ => rfl)
      · exact State.answersFrame_attempt _ (s.stringEvent_frame n _ fun _ => rfl)
      · exact State.answersFrame_attempt _ (s.stringEvent_frame n _ fun _ => rfl)
      · exact State.answersFrame_next (s.stringEvent_frame n _ fun x => x.attend_modules low)
      · exact State.answersFrame_next (s.feedInput_frame n b)
      · exact State.answersFrame_wellFormed _ (State.answersFrame_attempt _ (by simp))
      · exact State.answersFrame_wellFormed _ (State.answersFrame_attempt _ (by simp))
      · exact State.answersFrame_wellFormed _ (State.answersFrame_attempt _ (by simp))
  obtain ⟨hrun, hintake, hsame⟩ := key
  exact ⟨hrun.lrc, hintake, hsame, hrun.lanes, hrun.sealed, hrun.released, hrun.written, hrun.sealTimer⟩

end Sys2Proof.Machine
end

section
/-! Proofs of the family of 04 (lamp strings), second part: what a controller does when it takes up its line, said once for each
state of the line, and the addresses of the next turns. -/

namespace Sys2Proof.Machine

/-! ### The sizes of the string tables -/

section Shape

variable {s : State} (h : s.Shape)
include h

theorem State.Shape.strings_length : s.strings.length = 4 := by
  obtain ⟨-, -, -, -, -, hstrings, -⟩ := h
  exact hstrings

theorem State.Shape.lt_strings (n : Fin 4) : (n : Nat) < s.strings.length := by
  rw [h.strings_length]
  exact n.isLt

theorem State.Shape.modules_length (n : Fin 4) : (s.stringAt n).modules.length = 120 := by
  obtain ⟨-, -, -, -, -, -, hmodules⟩ := id h
  rw [State.stringAt, List.getD_eq_getElem _ _ (h.lt_strings n)]
  exact hmodules _ (List.getElem_mem _)

end Shape

/-! ### Writes of one controller -/

theorem State.setString_setString (s : State) (n : Nat) (x y : StringCtl) :
    (s.setString n x).setString n y = s.setString n y := by
  simp [State.setString, State.setStrings]

/-- A controller is written and a frame goes out on its string. -/
def State.sent (s : State) (n : Nat) (y : StringCtl) (frame : List Byte) : State := (s.setString n y).emit (.frame n frame)

theorem State.setString_sent (s : State) (n : Nat) (x y : StringCtl) (frame : List Byte) :
    (s.setString n x).sent n y frame = s.sent n y frame := by
  rw [State.sent, State.setString_setString, State.sent]

theorem State.sent_stringAt (s : State) {n : Nat} (h : n < s.strings.length) (y : StringCtl) (frame : List Byte) :
    (s.sent n y frame).stringAt n = y := s.stringAt_setString_self n y h

/-- The links of a controller lie in its modules. -/
theorem State.link_setString (s : State) {n : Nat} (h : n < s.strings.length) {y : StringCtl}
    (hy : y.modules = (s.stringAt n).modules) (a : Nat) : (s.setString n y).link n a = s.link n a := by
  simp [State.link, StringCtl.link, s.stringAt_setString_self n y h, hy]

/-! ### What the lines leave of the hot addresses -/

/-- A search of the contexts that does not look at pending sets finds the same after the lines as before. -/
theorem State.findContext_of_lasting {s t : State} (h : t.lasting = s.lasting) {test : Context → Bool}
    (htest : ∀ c, test c.core = test c) : t.findContext test = s.findContext test := by
  have hmap (u : State) : (u.contexts.map fun e => (e.context.map test).getD false) =
      u.cores.map fun o => (o.map test).getD false := by
    simp [State.cores, Function.comp_def, htest]
  have hcores : t.cores = s.cores := congrArg Lasting.cores h
  exact firstFrom_congr (by rw [hmap, hmap, hcores]) 0

section Lasting

variable {s t : State} (h : t.lasting = s.lasting)
include h

theorem State.contextOfModule_of_lasting (n a : Nat) : t.contextOfModule n a = s.contextOfModule n a :=
  State.findContext_of_lasting h fun _ => rfl

theorem State.hot_of_lasting (n a : Nat) : t.hot n a = s.hot n a := by
  simp [State.hot, State.contextOfModule_of_lasting h]

theorem State.anyHot_of_lasting (n : Nat) : t.anyHot n = s.anyHot n := by
  rw [State.anyHot, State.findContext_of_lasting h fun _ => rfl, State.anyHot]

theorem State.stringCount_of_lasting : t.strings.length = s.strings.length := by
  simpa [State.lasting] using congrArg (fun l => l.wires.length) h

end Lasting

/-- One controller is written and the lines are taken up: its own line is, in a state of the same hot addresses. -/
theorem State.kick_setString {s : State} {n : Nat} (hn : n < 4) (hs : s.strings.length = 4) (y : StringCtl) :
    ∃ t : State, n < t.strings.length ∧ t.stringAt n = y ∧ (∀ a, t.hot n a = s.hot n a) ∧ t.anyHot n = s.anyHot n ∧
      (s.setString n y).kick.stringAt n = (t.runLine n).stringAt n := by
  obtain ⟨t, hlasting, -, hat, hkick⟩ := (s.setString n y).kick_stringAt hn
  have hlt : n < s.strings.length := by omega
  refine ⟨t, ?_, hat.trans (s.stringAt_setString_self n y hlt), State.hot_of_lasting hlasting n,
    State.anyHot_of_lasting hlasting n, hkick⟩
  rw [State.stringCount_of_lasting hlasting]
  simpa [State.setString] using hlt

/-! ### The mode of a string as its line is taken up -/

section Settled

variable {s : State} {n : Nat}

theorem State.settleMode_of_inExchange (h : (s.stringAt n).line.inExchange = true) : s.settleMode n = s := if_pos h

/-- Only ACTIVE, QUIET and DORMANT are left when the line is taken up (R81, R83). -/
theorem State.settleMode_of_mode (hactive : (s.stringAt n).mode ≠ .active) (hquiet : (s.stringAt n).mode ≠ .quiet)
    (hdormant : (s.stringAt n).mode ≠ .dormant) : s.settleMode n = s := by
  unfold State.settleMode
  dsimp only
  split
  · rfl
  · split
    · exact absurd ‹_› hquiet
    · exact absurd ‹_› hdormant
    · exact absurd ‹_› hactive
    · rfl

theorem State.settleMode_of_active (hmode : (s.stringAt n).mode = .active) (hhot : s.anyHot n = true) : s.settleMode n = s := by
  simp [State.settleMode, hmode, hhot]

theorem State.settleMode_of_quiet (hmode : (s.stringAt n).mode = .quiet) (hhot : s.anyHot n = false)
    (hdue : (s.stringAt n).dormancyDue = false) : s.settleMode n = s := by
  simp [State.settleMode, hmode, hhot, hdue]

theorem State.settleMode_of_dormant (hmode : (s.stringAt n).mode = .dormant) (hhot : s.anyHot n = false) :
    s.settleMode n = s := by
  simp [State.settleMode, hmode, hhot]

section Free

variable (hfree : (s.stringAt n).line.inExchange = false)
include hfree

/-- A QUIET or DORMANT string with a context enters ACTIVE (R83). -/
theorem State.settleMode_to_active (hmode : (s.stringAt n).mode = .quiet ∨ (s.stringAt n).mode = .dormant)
    (hhot : s.anyHot n = true) : s.settleMode n = s.setString n (s.stringAt n).enterActive := by
  obtain hm | hm := hmode <;> simp [State.settleMode, hfree, hm, hhot]

/-- An ACTIVE string without a context enters QUIET (R83). -/
theorem State.settleMode_to_quiet (hmode : (s.stringAt n).mode = .active) (hhot : s.anyHot n = false) :
    s.settleMode n = s.setString n (s.stringAt n).enterQuiet := by
  simp [State.settleMode, hfree, hmode, hhot]

/-- A QUIET string without a context enters DORMANT when that is due (R81). -/
theorem State.settleMode_to_dormant (hmode : (s.stringAt n).mode = .quiet) (hhot : s.anyHot n = false)
    (hdue : (s.stringAt n).dormancyDue = true) : s.settleMode n = s.setString n (s.stringAt n).enterDormant := by
  simp [State.settleMode, hfree, hmode, hhot, hdue]

end Free

theorem StringCtl.enterDormant_settled (x : StringCtl) :
    x.enterDormant.dormancyDue = false ∧ (x.enterDormant.mode = .quiet ∨ x.enterDormant.mode = .dormant) := by
  unfold StringCtl.enterDormant
  split
  · exact ⟨rfl, .inl rfl⟩
  · exact ⟨rfl, .inr rfl⟩

/-- The settling of the mode is nothing, or one entry, behind which nothing is left to settle (R81, R83). -/
theorem State.settleMode_settled (hn : n < s.strings.length) : (s.settleMode n).settleMode n = s.settleMode n := by
  have hself (x : StringCtl) := s.stringAt_setString_self n x hn
  by_cases hfree : (s.stringAt n).line.inExchange = true
  · rw [State.settleMode_of_inExchange hfree, State.settleMode_of_inExchange hfree]
  replace hfree : (s.stringAt n).line.inExchange = false := by simpa using hfree
  have hactive (hhot : s.anyHot n = true) : (s.setString n (s.stringAt n).enterActive).settleMode n =
      s.setString n (s.stringAt n).enterActive := State.settleMode_of_active (by rw [hself]; rfl) hhot
  have hquiet (hhot : s.anyHot n = false) : (s.setString n (s.stringAt n).enterQuiet).settleMode n =
      s.setString n (s.stringAt n).enterQuiet := State.settleMode_of_quiet (by rw [hself]; rfl) hhot (by rw [hself]; rfl)
  have hdormant (hhot : s.anyHot n = false) : (s.setString n (s.stringAt n).enterDormant).settleMode n =
      s.setString n (s.stringAt n).enterDormant := by
    obtain ⟨hdue, hmode⟩ := (s.stringAt n).enterDormant_settled
    rw [← hself (s.stringAt n).enterDormant] at hdue hmode
    exact hmode.elim (fun hm => State.settleMode_of_quiet hm hhot hdue) fun hm => State.settleMode_of_dormant hm hhot
  cases hmode : (s.stringAt n).mode <;> cases hhot : s.anyHot n
  case quiet.true => rw [State.settleMode_to_active hfree (.inl hmode) hhot, hactive hhot]
  case dormant.true => rw [State.settleMode_to_active hfree (.inr hmode) hhot, hactive hhot]
  case active.true => rw [State.settleMode_of_active hmode hhot, State.settleMode_of_active hmode hhot]
  case active.false => rw [State.settleMode_to_quiet hfree hmode hhot, hquiet hhot]
  case dormant.false => rw [State.settleMode_of_dormant hmode hhot, State.settleMode_of_dormant hmode hhot]
  case quiet.false =>
    cases hdue : (s.stringAt n).dormancyDue
    · rw [State.settleMode_of_quiet hmode hhot hdue, State.settleMode_of_quiet hmode hhot hdue]
    · rw [State.settleMode_to_dormant hfree hmode hhot hdue, hdormant hhot]
  all_goals
    have hnone : s.settleMode n = s := State.settleMode_of_mode (by simp [hmode]) (by simp [hmode]) (by simp [hmode])
    rw [hnone, hnone]

/-- A line is taken up in the mode that its string has settled in (R83; log 44). -/
theorem State.runLine_settleMode (hn : n < s.strings.length) : s.runLine n = (s.settleMode n).runLine n := by
  unfold State.runLine
  rw [State.settleMode_settled hn]

end Settled

/-! ### A line that is taken up in a settled mode -/

section Line

variable {s : State} {n : Nat} (hmode : s.settleMode n = s)
include hmode

theorem State.runLine_of_busy (hline : (s.stringAt n).line ≠ .idle) : s.runLine n = s := by
  unfold State.runLine
  rw [hmode]
  dsimp only
  split
  · exact absurd ‹_› hline
  · rfl

/-- The first broadcast due starts (R70, R92). -/
theorem State.runLine_of_due (hline : (s.stringAt n).line = .idle) {b : Broadcast} {rest : List Broadcast}
    (hdue : (s.stringAt n).due = b :: rest) (hn : n < s.strings.length) :
    s.runLine n = s.sent n { s.stringAt n with due := rest, line := .broadcast b 1 } b.bytes := by
  unfold State.runLine
  rw [hmode]
  simp only [hline, hdue, State.startBroadcast, s.stringAt_setString_self n _ hn, State.setString_setString]
  rfl

theorem State.runLine_of_idle (hline : (s.stringAt n).line = .idle) (hdue : (s.stringAt n).due = []) :
    s.runLine n = (s.endSweep n).turn n := by
  unfold State.runLine
  rw [hmode]
  simp only [hline, hdue]

/-- While broadcasts are due, or the line carries something, no turn is taken: the controller changes in its line and in what is due
alone. -/
theorem State.runLine_of_noTurn (hn : n < s.strings.length) (h : (s.stringAt n).line ≠ .idle ∨ (s.stringAt n).due ≠ []) :
    ∃ line due, (s.runLine n).stringAt n = { s.stringAt n with line := line, due := due } := by
  by_cases hline : (s.stringAt n).line = .idle
  · obtain ⟨b, rest, hdue⟩ := List.exists_cons_of_ne_nil (h.resolve_left (fun hne => hne hline))
    exact ⟨_, _, by rw [State.runLine_of_due hmode hline hdue hn, State.sent_stringAt _ hn]⟩
  · exact ⟨_, _, by rw [State.runLine_of_busy hmode hline]⟩

/-- On an idle line with nothing due and no sweep the turn of the mode is taken (Table 4-3). -/
theorem State.runLine_of_turn (hline : (s.stringAt n).line = .idle) (hdue : (s.stringAt n).due = [])
    (hsweep : (s.stringAt n).sweep = none) : s.runLine n = s.turn n := by
  rw [State.runLine_of_idle hmode hline hdue, State.endSweep]
  simp only [hsweep]

end Line

/-! ### The next addresses -/

section Next

variable {s : State} {n : Nat}

theorem firstFrom_isSome {α : Type} (test : α → Bool) (n : Nat) (l : List α) : (firstFrom test n l).isSome = l.any test := by
  induction l generalizing n with
  | nil => rfl
  | cons x xs ih =>
    unfold firstFrom
    cases hx : test x <;> simp [hx, ih]

/-- An address is hot while some entry of the context table names it (R21). -/
theorem State.hot_iff {a : Nat} : s.hot n a = true ↔ ∃ e ∈ s.contexts, ∃ c, e.context = some c ∧ c.names n a = true := by
  rw [State.hot, State.contextOfModule, State.findContext, firstFrom_isSome, List.any_eq_true]
  refine exists_congr fun e => and_congr_right fun _ => ?_
  cases e.context <;> simp

/-- The addresses above a position that contexts of a string name. -/
def State.hotAbove (s : State) (n position : Nat) : List Nat :=
  s.contexts.filterMap fun e =>
    (e.context.filter fun (c : Context) => c.atlas.string == n && decide (position < c.atlas.address)).map
      fun (c : Context) => c.atlas.address

theorem State.nextHot_eq (s : State) (n position : Nat) : s.nextHot n position = (s.hotAbove n position).min? := rfl

theorem State.mem_hotAbove {position a : Nat} : a ∈ s.hotAbove n position ↔ position < a ∧ s.hot n a = true := by
  rw [State.hot_iff, State.hotAbove, List.mem_filterMap]
  simp only [Option.map_eq_some_iff, Option.filter_eq_some_iff, Context.names, Bool.and_eq_true, beq_iff_eq, decide_eq_true_eq]
  constructor
  · rintro ⟨e, he, c, ⟨hc, hstring, hlt⟩, rfl⟩
    exact ⟨hlt, e, he, c, hc, hstring, rfl⟩
  · rintro ⟨hlt, e, he, c, hc, hstring, rfl⟩
    exact ⟨e, he, c, ⟨hc, hstring, hlt⟩, rfl⟩

theorem State.nextHot_eq_some {position a : Nat} (h : s.NextHot n position a) : s.nextHot n position = some a := by
  obtain ⟨hlt, hhot, hmin⟩ := h
  rw [State.nextHot_eq, List.min?_eq_some_iff]
  refine ⟨State.mem_hotAbove.2 ⟨hlt, hhot⟩, fun b hb => ?_⟩
  obtain ⟨hbelow, hb⟩ := State.mem_hotAbove.1 hb
  by_contra hba
  exact absurd (hmin b hbelow (by omega)) (by simp [hb])

theorem State.nextHot_eq_none {position : Nat} (h : ∀ b, position < b → s.hot n b = false) : s.nextHot n position = none := by
  rw [State.nextHot_eq, List.min?_eq_none_iff, List.eq_nil_iff_forall_not_mem]
  intro b hb
  obtain ⟨hlt, hhot⟩ := State.mem_hotAbove.1 hb
  exact absurd (h b hlt) (by simp [hhot])

/-- A search through consecutive numbers finds the first that passes. -/
theorem find?_range' {p : Nat → Bool} {start len a : Nat} (hle : start ≤ a) (hlt : a < start + len) (ha : p a = true)
    (hbelow : ∀ b, start ≤ b → b < a → p b = false) : (List.range' start len).find? p = some a := by
  rw [List.find?_range'_eq_some]
  refine ⟨ha, by simp; omega, fun b hb hba => ?_⟩
  simp [hbelow b hb hba]

theorem find?_range'_none {p : Nat → Bool} {start len : Nat} (h : ∀ b, start ≤ b → b < start + len → p b = false) :
    (List.range' start len).find? p = none := by
  rw [List.find?_eq_none]
  intro b hb
  obtain ⟨hle, hlt⟩ := List.mem_range'_1.1 hb
  simp [h b hle hlt]

theorem State.nextCold_eq_some {a : Nat} (h : s.NextCold n a) : s.nextCold n = some a := by
  obtain ⟨hpos, htop, hcold, hwalk⟩ := h
  rw [State.nextCold, coldOrder, List.find?_append]
  obtain ⟨hlt, habove⟩ | ⟨hle, habove, hbelow⟩ := hwalk
  · rw [find?_range' hlt (by omega) (by simp [hcold]) fun b hb hba => by simp [habove b hb hba], Option.some_or]
  · rw [find?_range'_none fun b hb hbt => by simp [habove b hb (by omega)], Option.none_or]
    exact find?_range' hpos (by omega) (by simp [hcold]) fun b hb hba => by simp [hbelow b hb hba]

theorem State.nextCold_eq_none (h : ∀ b, 1 ≤ b → b ≤ (s.stringAt n).ceiling → s.hot n b = true) : s.nextCold n = none := by
  rw [State.nextCold, coldOrder, List.find?_append, find?_range'_none fun b hb hbt => by simp [h b (by omega) (by omega)],
    find?_range'_none fun b hb hbt => by simp [h b hb (by omega)], Option.none_or]

end Next

end Sys2Proof.Machine
end

section
/-! Proofs of the family of 04 (lamp strings), third part: the turns of each mode, and the ends of the times of a string (O43). -/

namespace Sys2Proof.Machine

/-! ### The frames of a turn -/

/-- A dark FACES or a FACES of a string to a module, with the module's ack (Table 4-2, R73). -/
def StringCtl.facesTo (x : StringCtl) (a : Nat) (set : FaceSet) : List Byte :=
  facesFrame a (x.link a).lastSequence set x.rotation

/-- A POLL of a string to a module, with the module's ack (Table 4-2, R73). -/
def StringCtl.pollTo (x : StringCtl) (a : Nat) : List Byte := pollFrame a (x.link a).lastSequence

theorem State.startDark_eq (s : State) (n a : Nat) (sweep : Bool) : s.startDark n a sweep =
    s.sent n { s.stringAt n with line := .exchange a .dark sweep 2 } ((s.stringAt n).facesTo a FaceSet.nothing) := rfl

theorem State.startPoll_eq (s : State) (n a : Nat) (sweep : Bool) : s.startPoll n a sweep =
    s.sent n { s.stringAt n with line := .exchange a .poll sweep 1 } ((s.stringAt n).pollTo a) := rfl

theorem State.sweepTurn_eq (s : State) (n : Nat) (w : Sweep) : s.sweepTurn n w =
    if w.dark = true then
      s.sent n { s.stringAt n with line := .exchange w.address .dark true 2 } ((s.stringAt n).facesTo w.address FaceSet.nothing)
    else s.sent n { s.stringAt n with line := .exchange w.address .poll true 1 } ((s.stringAt n).pollTo w.address) := rfl

section Turn

variable {s : State} {n : Nat} (hn : n < s.strings.length)
include hn

/-- A cold turn, its controller written before: a dark FACES where darkening is due, else a POLL (R80). -/
theorem State.coldTurnAt_setString (y : StringCtl) (a : Nat) : (s.setString n y).coldTurnAt n a =
    if (y.link a).darkeningDue = true then
      s.sent n { y with coldWalk := a, line := .exchange a .dark false 2 } (y.facesTo a FaceSet.nothing)
    else s.sent n { y with coldWalk := a, line := .exchange a .poll false 1 } (y.pollTo a) := by
  simp only [State.coldTurnAt, s.stringAt_setString_self n _ hn, State.setString_setString, State.link, State.startDark_eq,
    State.startPoll_eq, State.setString_sent]
  rfl

theorem State.startFaces_setString (y : StringCtl) (a ci : Nat) (c : Context) : (s.setString n y).startFaces n a ci c =
    (s.setContext ci (some { c with pending := some c.desired })).sent n
      { y with line := .exchange a .faces false 2 } (y.facesTo a c.desired) := by
  have hset (z : StringCtl) : ((s.setString n y).setContext ci (some { c with pending := some c.desired })).setString n z =
      (s.setContext ci (some { c with pending := some c.desired })).setString n z :=
    (s.setContext ci _).setString_setString n y z
  simp only [State.startFaces, State.link, s.stringAt_setString_self n y hn, hset]
  rfl

/-- The turn of a module with a context: a dark FACES, the due desired set, or a POLL (R79). -/
theorem State.hotTurn_eq {a ci : Nat} {c : Context} (hm : s.contextOfModule n a = some ci) (hc : s.contextAt ci = some c) :
    let x := s.stringAt n
    s.hotTurn n a =
      if (x.link a).darkeningDue = true ∧ (x.link a).presence ≠ .lost then
        s.sent n { x with roundPosition := a, line := .exchange a .dark false 2 } (x.facesTo a FaceSet.nothing)
      else if c.due = true ∧ (x.link a).presence ≠ .lost then
        (s.setContext ci (some { c with pending := some c.desired })).sent n
          { x with roundPosition := a, line := .exchange a .faces false 2 } (x.facesTo a c.desired)
      else s.sent n { x with roundPosition := a, line := .exchange a .poll false 1 } (x.pollTo a) := by
  have hm' (y : StringCtl) : (s.setString n y).contextOfModule n a = some ci := hm
  have hc' (y : StringCtl) : (s.setString n y).contextAt ci = some c := hc
  simp only [State.hotTurn, s.stringAt_setString_self n _ hn, State.link, hm', hc', State.startDark_eq, State.startPoll_eq,
    State.setString_sent, State.startFaces_setString hn, Bool.and_eq_true, Bool.not_eq_true', beq_eq_false_iff_ne]
  rfl

/-! ### The turns of ACTIVE and QUIET -/

/-- The round restarts before the turn: the turn takes its own position (R79). -/
theorem State.hotTurn_restart (p a : Nat) :
    (s.setString n { s.stringAt n with roundPosition := p }).hotTurn n a = s.hotTurn n a := by
  simp only [State.hotTurn, s.stringAt_setString_self n _ hn, State.setString_setString]

/-- The turn of the next hot address, or of the first one where the round is over and none is cold (R79, R80). -/
theorem State.roundTurn_of_hot {a : Nat} (h : s.NextHot n (s.stringAt n).roundPosition a ∨
    ((∀ b, (s.stringAt n).roundPosition < b → s.hot n b = false) ∧
      (∀ b, 1 ≤ b → b ≤ (s.stringAt n).ceiling → s.hot n b = true) ∧ s.NextHot n 0 a)) :
    s.roundTurn n = s.hotTurn n a := by
  unfold State.roundTurn
  obtain hnext | ⟨hover, hall, hfirst⟩ := h
  · rw [State.nextHot_eq_some hnext]
  · have hcold : (s.setString n { s.stringAt n with roundPosition := 0 }).nextCold n = none :=
      State.nextCold_eq_none (by rw [s.stringAt_setString_self n _ hn]; exact hall)
    have hhot : (s.setString n { s.stringAt n with roundPosition := 0 }).nextHot n 0 = some a := State.nextHot_eq_some hfirst
    rw [State.nextHot_eq_none hover]
    dsimp only
    rw [hcold]
    dsimp only
    rw [hhot]
    exact State.hotTurn_restart hn 0 a

/-- The walk of a controller that is written in other fields goes on at the same address (R80). -/
theorem State.nextCold_setString {y : StringCtl} (hwalk : y.coldWalk = (s.stringAt n).coldWalk)
    (hitems : y.items = (s.stringAt n).items) {a : Nat} (h : s.NextCold n a) : (s.setString n y).nextCold n = some a := by
  refine State.nextCold_eq_some ?_
  unfold State.NextCold StringCtl.ceiling at h ⊢
  rw [s.stringAt_setString_self n _ hn, hwalk, hitems]
  exact h

/-- The cold turn that ends a round (R79, R80). -/
theorem State.roundTurn_of_cold {a : Nat} (hover : ∀ b, (s.stringAt n).roundPosition < b → s.hot n b = false)
    (h : s.NextCold n a) : s.roundTurn n = (s.setString n { s.stringAt n with roundPosition := 0 }).coldTurnAt n a := by
  have hcold := State.nextCold_setString hn (y := { s.stringAt n with roundPosition := 0 }) rfl rfl h
  unfold State.roundTurn
  rw [State.nextHot_eq_none hover]
  dsimp only
  rw [hcold]

/-- The cold turn of a quiet period, while it is owed (R81). -/
theorem State.quietTurn_of_cold (hdue : (s.stringAt n).turnDue = true) {a : Nat} (h : s.NextCold n a) :
    s.quietTurn n = (s.setString n { s.stringAt n with turnDue := false }).coldTurnAt n a := by
  have hcold := State.nextCold_setString hn (y := { s.stringAt n with turnDue := false }) rfl rfl h
  unfold State.quietTurn
  rw [if_pos hdue]
  dsimp only
  rw [hcold]

end Turn

theorem Context.due_iff (c : Context) :
    c.due = true ↔ c.pending = none ∧ c.desired.generation ≠ c.displayed.generation := by
  simp [Context.due]

section Survey

variable {s : State} {n : Nat}

/-- A survey, or an attention sweep that nothing takes out of QUIET (R78, R82). -/
def State.Sweeping (s : State) (n : Nat) : Prop :=
  (s.stringAt n).mode = .surveying ∨ ((s.stringAt n).mode = .quiet ∧ s.anyHot n = false ∧ (s.stringAt n).dormancyDue = false)

theorem State.Sweeping.settleMode (h : s.Sweeping n) : s.settleMode n = s := by
  obtain hmode | ⟨hmode, hhot, hdormancy⟩ := h
  · exact State.settleMode_of_mode (by simp [hmode]) (by simp [hmode]) (by simp [hmode])
  · exact State.settleMode_of_quiet hmode hhot hdormancy

/-- The record that closes a survey on a string, with a count; its slot is that of no module (R78, R90; log 46). -/
def State.closing (s : State) (n : Nat) (kind : RecordKind) (count : Nat) : OutcomeRecord :=
  { s.advisory kind .none 1024 (moduleLocator n 0) with confirmed := BitVec.ofNat 16 count }

theorem State.closeSurvey_of_census (hrun : s.inRun = true) (hpurpose : (s.stringAt n).purpose = some .census) (good : Nat) :
    s.closeSurvey n good = s.offerClosing (s.closing n .censusDone
      ((s.stringAt n).modules.countP fun m => m.presence == .present)) := by
  rw [List.countP_eq_length_filter]
  simp only [State.closeSurvey, hpurpose, State.offerString, hrun, if_true]
  rfl

theorem State.closeSurvey_of_test (hrun : s.inRun = true) (hpurpose : (s.stringAt n).purpose = some .test) (good : Nat) :
    s.closeSurvey n good = s.offerClosing (s.closing n .testDone good) := by
  simp only [State.closeSurvey, hpurpose, State.offerString, hrun, if_true]
  rfl

/-- Out of a run, and after a survey of purpose START, no advisory closes a survey (R78, R90). -/
theorem State.closeSurvey_of_none
    (h : s.inRun = false ∨ (s.stringAt n).purpose = some .start ∨ (s.stringAt n).purpose = none) (good : Nat) :
    s.closeSurvey n good = s := by
  unfold State.closeSurvey State.offerString
  obtain hrun | hpurpose | hpurpose := h
  · simp only [hrun, Bool.false_eq_true, if_false]
    split <;> rfl
  · simp only [hpurpose]
  · simp only [hpurpose]

/-- The controller of a string whose survey has ended (R78). -/
def StringCtl.surveyed (x : StringCtl) (hot : Bool) : StringCtl :=
  if hot then { x with coldWalk := 0 }.enterActive else { x with coldWalk := 0 }.enterQuiet

theorem StringCtl.surveyed_idle (x : StringCtl) (hot : Bool) :
    (x.surveyed hot).line = x.line ∧ (x.surveyed hot).due = x.due ∧ (x.surveyed hot).sweep = none := by
  cases hot <;> exact ⟨rfl, rfl, rfl⟩

end Survey

/-! ### An idle line with nothing due -/

section Idle

variable {s : State} {n : Nat} (hline : (s.stringAt n).line = .idle) (hdue : (s.stringAt n).due = [])
include hline hdue

theorem State.runLine_of_active (hsweep : (s.stringAt n).sweep = none) (hmode : (s.stringAt n).mode = .active)
    (hhot : s.anyHot n = true) : s.runLine n = s.roundTurn n := by
  rw [State.runLine_of_turn (State.settleMode_of_active hmode hhot) hline hdue hsweep]
  simp only [State.turn, hmode]

theorem State.runLine_of_quiet (hsweep : (s.stringAt n).sweep = none) (hmode : (s.stringAt n).mode = .quiet)
    (hhot : s.anyHot n = false) (hdormancy : (s.stringAt n).dormancyDue = false) : s.runLine n = s.quietTurn n := by
  rw [State.runLine_of_turn (State.settleMode_of_quiet hmode hhot hdormancy) hline hdue hsweep]
  simp only [State.turn, hmode, hsweep]

/-- Up to the ceiling the sweep goes on with the address it stands at (R78, R82). -/
theorem State.Sweeping.runLine_of_address (h : s.Sweeping n) {w : Sweep} (hsweep : (s.stringAt n).sweep = some w)
    (hw : w.address ≤ (s.stringAt n).ceiling) : s.runLine n = s.sweepTurn n w := by
  rw [State.runLine_of_idle h.settleMode hline hdue]
  have hgoes : s.endSweep n = s := by simp [State.endSweep, hsweep, Nat.not_lt.2 hw]
  obtain hmode | ⟨hmode, -⟩ := h <;> simp [hgoes, State.turn, hmode, hsweep]

/-- Past the ceiling the sweep ends in a mode that has settled, and the string takes its turn there: so does the line of a state in
which the sweep has ended (R78, R82). -/
theorem State.Sweeping.runLine_of_ended (h : s.Sweeping n) {t : State} (hend : s.endSweep n = t) (hmode : t.settleMode n = t)
    (htline : (t.stringAt n).line = .idle) (htdue : (t.stringAt n).due = []) (htsweep : (t.stringAt n).sweep = none) :
    s.runLine n = t.runLine n := by
  rw [State.runLine_of_idle h.settleMode hline hdue, hend, State.runLine_of_turn hmode htline htdue htsweep]

/-- An attention sweep that has passed the ceiling leaves QUIET with a new quiet period (R82; log 43). -/
theorem State.runLine_of_attentionEnd (hn : n < s.strings.length) {w : Sweep} (hsweep : (s.stringAt n).sweep = some w)
    (hw : (s.stringAt n).ceiling < w.address) (hmode : (s.stringAt n).mode = .quiet) (hhot : s.anyHot n = false)
    (hdormancy : (s.stringAt n).dormancyDue = false) :
    s.runLine n = (s.setString n (s.stringAt n).enterQuiet).runLine n := by
  have hself := s.stringAt_setString_self n (s.stringAt n).enterQuiet hn
  refine State.Sweeping.runLine_of_ended hline hdue (.inr ⟨hmode, hhot, hdormancy⟩) ?_ ?_ ?_ ?_ ?_
  · simp [State.endSweep, hsweep, hw, hmode]
  · exact State.settleMode_of_quiet (by rw [hself]; rfl) hhot (by rw [hself]; rfl)
  all_goals rw [hself]
  · exact hline
  · exact hdue
  · rfl

theorem State.runLine_of_surveyEnd (hn : n < s.strings.length) {w : Sweep} (hsweep : (s.stringAt n).sweep = some w)
    (hw : (s.stringAt n).ceiling < w.address) (hmode : (s.stringAt n).mode = .surveying) {t : State}
    (hclose : s.closeSurvey n w.lampsGood = t) :
    s.runLine n = (t.setString n ((s.stringAt n).surveyed (s.anyHot n))).runLine n := by
  have hlasting : t.lasting = s.lasting := by rw [← hclose, State.closeSurvey_lasting]
  have hat : t.stringAt n = s.stringAt n := by rw [← hclose, State.closeSurvey_stringAt]
  have hself := t.stringAt_setString_self n ((s.stringAt n).surveyed (s.anyHot n))
    (by rw [State.stringCount_of_lasting hlasting]; exact hn)
  have hhot : (t.setString n ((s.stringAt n).surveyed (s.anyHot n))).anyHot n = s.anyHot n := State.anyHot_of_lasting hlasting n
  obtain ⟨hkeepsLine, hkeepsDue, hnoSweep⟩ := (s.stringAt n).surveyed_idle (s.anyHot n)
  refine State.Sweeping.runLine_of_ended hline hdue (.inl hmode) ?_ ?_ (by rw [hself, hkeepsLine, hline])
    (by rw [hself, hkeepsDue, hdue]) (by rw [hself, hnoSweep])
  · have hhot' : t.anyHot n = s.anyHot n := hhot
    simp [State.endSweep, State.endSurvey, hsweep, hw, hmode, hclose, hat, hhot', StringCtl.surveyed]
  · cases hany : s.anyHot n <;> rw [hany] at hself hhot
    · exact State.settleMode_of_quiet (by rw [hself]; rfl) hhot (by rw [hself]; rfl)
    · exact State.settleMode_of_active (by rw [hself]; rfl) hhot

end Idle

/-! ### What a turn leaves of its controller -/

/-- What a turn leaves of a controller: its mode with its times and purpose, its sweep, and the broadcasts due. -/
structure Course where
  mode : Mode
  modeTimer : Option Nat
  purpose : Option Purpose
  sweep : Option Sweep
  due : List Broadcast
  dormancyTimer : Nat
  dormancyDue : Bool

/-- The part of a controller that a turn leaves. -/
def StringCtl.course (x : StringCtl) : Course :=
  { mode := x.mode, modeTimer := x.modeTimer, purpose := x.purpose, sweep := x.sweep, due := x.due
    dormancyTimer := x.dormancyTimer, dormancyDue := x.dormancyDue }

section Course

variable (s : State) (n : Nat)

theorem State.setString_course {y : StringCtl} (h : y.course = (s.stringAt n).course) :
    ((s.setString n y).stringAt n).course = (s.stringAt n).course := by
  by_cases hn : n < s.strings.length
  · rw [s.stringAt_setString_self n y hn, h]
  · rw [State.setString, List.set_eq_of_length_le (by omega)]
    rfl

theorem State.startDark_course (a : Nat) (sweep : Bool) : ((s.startDark n a sweep).stringAt n).course = (s.stringAt n).course :=
  s.setString_course n rfl

theorem State.startPoll_course (a : Nat) (sweep : Bool) : ((s.startPoll n a sweep).stringAt n).course = (s.stringAt n).course :=
  s.setString_course n rfl

theorem State.startFaces_course (a ci : Nat) (c : Context) : ((s.startFaces n a ci c).stringAt n).course = (s.stringAt n).course :=
  (s.setContext ci _).setString_course n rfl

theorem State.hotTurn_course (a : Nat) : ((s.hotTurn n a).stringAt n).course = (s.stringAt n).course := by
  have hset : ((s.setString n { s.stringAt n with roundPosition := a }).stringAt n).course = (s.stringAt n).course :=
    s.setString_course n rfl
  unfold State.hotTurn
  dsimp only
  repeat' split
  all_goals simp only [State.startDark_course, State.startPoll_course, State.startFaces_course, hset]

theorem State.coldTurnAt_course (a : Nat) : ((s.coldTurnAt n a).stringAt n).course = (s.stringAt n).course := by
  have hset : ((s.setString n { s.stringAt n with coldWalk := a }).stringAt n).course = (s.stringAt n).course :=
    s.setString_course n rfl
  unfold State.coldTurnAt
  dsimp only
  split <;> simp only [State.startDark_course, State.startPoll_course, hset]

theorem State.roundTurn_course : ((s.roundTurn n).stringAt n).course = (s.stringAt n).course := by
  have hset : ((s.setString n { s.stringAt n with roundPosition := 0 }).stringAt n).course = (s.stringAt n).course :=
    s.setString_course n rfl
  unfold State.roundTurn
  dsimp only
  repeat' split
  all_goals simp only [State.hotTurn_course, State.coldTurnAt_course, hset]

theorem State.quietTurn_course : ((s.quietTurn n).stringAt n).course = (s.stringAt n).course := by
  have hset : ((s.setString n { s.stringAt n with turnDue := false }).stringAt n).course = (s.stringAt n).course :=
    s.setString_course n rfl
  unfold State.quietTurn
  dsimp only
  repeat' split
  all_goals simp only [State.coldTurnAt_course, hset]

theorem State.sweepTurn_course (w : Sweep) : ((s.sweepTurn n w).stringAt n).course = (s.stringAt n).course := by
  unfold State.sweepTurn
  split <;> simp only [State.startDark_course, State.startPoll_course]

/-- A turn of any mode leaves the course of its controller. -/
theorem State.turn_course : ((s.turn n).stringAt n).course = (s.stringAt n).course := by
  unfold State.turn
  dsimp only
  repeat' split
  all_goals simp only [State.sweepTurn_course, State.quietTurn_course, State.roundTurn_course]

end Course

theorem State.endSweep_of_none {s : State} {n : Nat} (h : (s.stringAt n).sweep = none) : s.endSweep n = s := by
  simp [State.endSweep, h]

/-- Where no sweep ends, the taking up of a line leaves the course of its controller, but for a broadcast that starts. -/
theorem State.runLine_course {s : State} {n : Nat} (hmode : s.settleMode n = s) (hsweep : s.endSweep n = s)
    (hn : n < s.strings.length) : ∃ due, ((s.runLine n).stringAt n).course = { (s.stringAt n).course with due := due } := by
  by_cases h : (s.stringAt n).line ≠ .idle ∨ (s.stringAt n).due ≠ []
  · obtain ⟨line, due, hy⟩ := State.runLine_of_noTurn hmode hn h
    exact ⟨due, by rw [hy]; rfl⟩
  · simp only [not_or, not_not] at h
    obtain ⟨hline, hdue⟩ := h
    exact ⟨_, by rw [State.runLine_of_idle hmode hline hdue, hsweep, State.turn_course]⟩

/-- A string that enters a mode without a sweep as its line is taken up is in that mode then. -/
theorem State.runLine_mode_of_entered {s : State} {n : Nat} (hn : n < s.strings.length) {y : StringCtl}
    (h : s.settleMode n = s.setString n y) (hsweep : y.sweep = none) : ((s.runLine n).stringAt n).mode = y.mode := by
  have hself := s.stringAt_setString_self n y hn
  have hsettled := State.settleMode_settled hn
  rw [h] at hsettled
  obtain ⟨due, hcourse⟩ := State.runLine_course hsettled (State.endSweep_of_none (by rw [hself, hsweep]))
    (by simpa [State.setString] using hn)
  rw [State.runLine_settleMode hn, h]
  have hmode := congrArg Course.mode hcourse
  rw [hself] at hmode
  exact hmode

/-! ### The ends of the times of the modes -/

section Ends

variable {s : State} {n : Fin 4} (hi : s.Intact) (hs : s.Shape)

include hi in
/-- On tables of good parity the end of a time writes its controller, and the lines are taken up. -/
theorem State.stringEvent_of_intact (f : StringCtl → StringCtl) :
    s.stringEvent n f = (s.setString n (f (s.stringAt n))).kick := by
  rw [State.stringEvent, s.checkContexts_of_intact hi.undamaged.contexts]

include hi hs in
/-- The end of a time, at its string: the line is taken up by the controller written (R77, R81, R82, R84). -/
theorem State.stringEvent_stringAt (f : StringCtl → StringCtl) :
    ∃ t : State, n < t.strings.length ∧ t.stringAt n = f (s.stringAt n) ∧ (∀ a, t.hot n a = s.hot n a) ∧
      t.anyHot n = s.anyHot n ∧ (s.stringEvent n f).stringAt n = (t.runLine n).stringAt n := by
  rw [State.stringEvent_of_intact hi]
  exact State.kick_setString n.isLt hs.strings_length _

/-- A command whose event arises is taken (log 1). -/
theorem attempt_of_arises {arises : Bool} (h : arises = true) {s : State} (t : State) : attempt arises s t = .next t := by
  rw [attempt, h, if_pos rfl]

/-- A command whose event does not arise changes nothing (log 1). -/
theorem attempt_of_not_arises {arises : Bool} (h : arises = false) (s t : State) : attempt arises s t = .next s := by
  rw [attempt, h, if_neg Bool.false_ne_true]

/-- A survey opens with ALL-DARK, and PAUSE after it while HALTED (R77, R78). -/
theorem State.runLine_of_enterSurvey {t : State} {n : Nat} (hn : n < t.strings.length) {x : StringCtl} {purpose : Purpose}
    {halted : Bool} (ht : t.stringAt n = x.enterSurvey purpose halted) :
    let y := (t.runLine n).stringAt n
    y.mode = .surveying ∧ y.purpose = some purpose ∧ y.sweep = some Sweep.first ∧ y.modeTimer = none ∧
      (x.line = .idle → x.due = [] → y.line = .broadcast .allDark 1 ∧ y.due = if halted then [.pause] else []) := by
  have hmode : t.settleMode n = t := State.settleMode_of_mode (by rw [ht]; exact fun h => nomatch h)
    (by rw [ht]; exact fun h => nomatch h) (by rw [ht]; exact fun h => nomatch h)
  have hdue : (t.stringAt n).due ≠ [] := by rw [ht]; simp [StringCtl.enterSurvey]
  obtain ⟨line, due, hy⟩ := State.runLine_of_noTurn hmode hn (.inr hdue)
  rw [ht] at hy
  refine ⟨by rw [hy]; rfl, by rw [hy]; rfl, by rw [hy]; rfl, by rw [hy]; rfl, fun hline hnone => ?_⟩
  have hdark : (t.stringAt n).due = .allDark :: if halted then [.pause] else [] := by simp [ht, StringCtl.enterSurvey, hnone]
  rw [State.runLine_of_due hmode (by simp [ht, StringCtl.enterSurvey, hline, Line.detach]) hdark hn, State.sent_stringAt _ hn]
  exact ⟨rfl, rfl⟩

include hi hs in
/-- SETTLING_END and LIGHT_TEST_END open a survey (R77, R84). -/
theorem exec_opensSurvey {c : Instr} {f : StringCtl → StringCtl} {purpose : Purpose} (hexec : exec c s = .next (s.stringEvent n f))
    (hf : f (s.stringAt n) = (s.stringAt n).enterSurvey purpose s.paused) :
    ∃ t, exec c s = .next t ∧ (t.stringAt n).mode = .surveying ∧ (t.stringAt n).purpose = some purpose ∧
      (t.stringAt n).sweep = some Sweep.first ∧ (t.stringAt n).modeTimer = none ∧
      ((s.stringAt n).line = .idle → (s.stringAt n).due = [] → (t.stringAt n).line = .broadcast .allDark 1 ∧
        (t.stringAt n).due = if s.lrc.run = .halted then [.pause] else []) := by
  obtain ⟨t, hn, hat, -, -, hevent⟩ := State.stringEvent_stringAt hi hs f
  have hsurvey := State.runLine_of_enterSurvey hn (hat.trans hf)
  rw [← hevent] at hsurvey
  exact ⟨_, hexec, by simpa [State.paused] using hsurvey⟩

include hi hs in
/-- In an exchange a quiet period starts the next, and its cold turn is owed (R81; log 21). -/
theorem exec_quietPeriod_of_exchange (hmode : (s.stringAt n).mode = .quiet) (htimer : (s.stringAt n).modeTimer = some 0)
    (hline : (s.stringAt n).line.inExchange = true) :
    ∃ t, exec (.quietPeriod n) s = .next t ∧ t.stringAt n = (s.stringAt n).nextPeriod := by
  obtain ⟨t, hn, hat, -, -, hevent⟩ := State.stringEvent_stringAt hi hs (n := n) StringCtl.nextPeriod
  refine ⟨_, attempt_of_arises (by simp [State.timedOut, State.modeOf, hmode, htimer]) _, ?_⟩
  have hbusy : (t.stringAt n).line.inExchange = true := by rw [hat]; exact hline
  rw [hevent, State.runLine_of_busy (State.settleMode_of_inExchange hbusy) (fun h => by simp [h, Line.inExchange] at hbusy), hat]

include hi hs in
/-- On an idle line a quiet period starts the next with its cold turn (R80, R81). -/
theorem exec_quietPeriod_of_idle {a : Nat} (hmode : (s.stringAt n).mode = .quiet) (htimer : (s.stringAt n).modeTimer = some 0)
    (hline : (s.stringAt n).line = .idle) (hdue : (s.stringAt n).due = []) (hsweep : (s.stringAt n).sweep = none)
    (hdormancy : (s.stringAt n).dormancyDue = false) (hhot : s.anyHot n = false) (hcold : s.NextCold n a) :
    ∃ t, exec (.quietPeriod n) s = .next t ∧ t.stringAt n = { s.stringAt n with
      modeTimer := some (s.stringAt n).quietMs, turnDue := false, coldWalk := a
      line := if ((s.stringAt n).link a).darkeningDue then .exchange a .dark false 2 else .exchange a .poll false 1 } := by
  obtain ⟨t, hn, hat, hhots, hany, hevent⟩ := State.stringEvent_stringAt hi hs (n := n) StringCtl.nextPeriod
  refine ⟨_, attempt_of_arises (by simp [State.timedOut, State.modeOf, hmode, htimer]) _, ?_⟩
  have hcold' : t.NextCold n a := by
    unfold State.NextCold at hcold ⊢
    simp only [hhots, hat]
    exact hcold
  rw [hevent, State.runLine_of_quiet (by rw [hat]; exact hline) (by rw [hat]; exact hdue) (by rw [hat]; exact hsweep)
    (by rw [hat]; exact hmode) (hany.trans hhot) (by rw [hat]; exact hdormancy),
    State.quietTurn_of_cold hn (by rw [hat]; simp [StringCtl.nextPeriod, hsweep]) hcold', State.coldTurnAt_setString hn,
    apply_ite (fun u : State => u.stringAt n), State.sent_stringAt _ hn, State.sent_stringAt _ hn, hat,
    show ({ (s.stringAt n).nextPeriod with turnDue := false } : StringCtl).link a = (s.stringAt n).link a from rfl]
  split <;> rfl

include hi hs in
/-- The dormancy of a permitted string is due, or taken at once where no exchange is in progress (R81). -/
theorem exec_dormancyTimeout (hreached : (s.stringAt n).dormancyReached = true) (hmode : (s.stringAt n).mode = .quiet)
    (hhot : s.anyHot n = false) :
    ∃ t, exec (.dormancyTimeout n) s = .next t ∧
      ((s.stringAt n).line.inExchange = true → (t.stringAt n).mode = .quiet ∧ (t.stringAt n).dormancyDue = true) ∧
      ((s.stringAt n).line.inExchange = false → (s.stringAt n).attentionLow = false → (t.stringAt n).mode = .dormant) := by
  obtain ⟨t, hn, hat, -, hany, hevent⟩ := State.stringEvent_stringAt hi hs (n := n) fun x => { x with dormancyDue := true }
  refine ⟨_, attempt_of_arises hreached _, fun hline => ?_, fun hline hlow => ?_⟩
  · have hbusy : (t.stringAt n).line.inExchange = true := by rw [hat]; exact hline
    rw [hevent, State.runLine_of_busy (State.settleMode_of_inExchange hbusy) (fun h => by simp [h, Line.inExchange] at hbusy), hat]
    exact ⟨hmode, rfl⟩
  · have henter := State.settleMode_to_dormant (s := t) (n := n) (by rw [hat]; exact hline) (by rw [hat]; exact hmode)
      (hany.trans hhot) (by rw [hat])
    rw [hevent, State.runLine_mode_of_entered hn henter] <;> simp [hat, StringCtl.enterDormant, hlow]

include hi hs in
/-- A low attention wire takes a DORMANT string back to QUIET, and its sweep starts on an idle line (R82). -/
theorem exec_attentionWake_of_dormant (hmode : (s.stringAt n).mode = .dormant) (hhot : s.anyHot n = false)
    (hline : (s.stringAt n).line = .idle) (hdue : (s.stringAt n).due = []) (hceiling : 1 ≤ (s.stringAt n).ceiling) :
    ∃ t, exec (.attentionWake n true) s = .next t ∧ (t.stringAt n).mode = .quiet ∧ (t.stringAt n).sweep = some Sweep.first ∧
      (t.stringAt n).line = .exchange 1 .poll true 1 ∧ (t.stringAt n).dormancyTimer = 0 := by
  obtain ⟨t, hn, hat, -, hany, hevent⟩ := State.stringEvent_stringAt hi hs (n := n) fun x => x.attend true
  have hwake : t.stringAt n = ({ s.stringAt n with attentionLow := true } : StringCtl).wake := by
    rw [hat]
    simp [StringCtl.attend, hmode]
  have hsweeping : t.Sweeping n := .inr ⟨by rw [hwake]; rfl, hany.trans hhot, by rw [hwake]; rfl⟩
  have hrun := hsweeping.runLine_of_address (by rw [hwake]; exact hline) (by rw [hwake]; exact hdue) (w := Sweep.first)
    (by rw [hwake]; rfl) (by rw [hwake]; exact hceiling)
  refine ⟨_, rfl, ?_⟩
  rw [hevent, hrun, State.sweepTurn_eq, if_neg (by decide), State.sent_stringAt _ hn, hwake]
  exact ⟨rfl, rfl, rfl, rfl⟩

include hi hs in
/-- An attention wire that changes on a line without an exchange lets the mode settle (R83; log 44). -/
theorem exec_attentionWake_settles (low : Bool) (hline : (s.stringAt n).line.inExchange = false) :
    ∃ t, exec (.attentionWake n low) s = .next t ∧
      ((s.stringAt n).mode = .quiet ∨ (s.stringAt n).mode = .dormant → s.anyHot n = true → (t.stringAt n).mode = .active) ∧
      ((s.stringAt n).mode = .active → s.anyHot n = false → (t.stringAt n).mode = .quiet) := by
  obtain ⟨t, hn, hat, -, hany, hevent⟩ := State.stringEvent_stringAt hi hs (n := n) fun x => x.attend low
  have hfree : (t.stringAt n).line.inExchange = false := by
    rw [hat, StringCtl.attend]
    dsimp only
    split <;> exact hline
  refine ⟨_, rfl, fun hmode hhot => ?_, fun hmode hhot => ?_⟩
  · have hmode' : (t.stringAt n).mode = .quiet ∨ (t.stringAt n).mode = .dormant := by
      rw [hat, StringCtl.attend]
      dsimp only
      split
      · exact .inl rfl
      · exact hmode
    rw [hevent, State.runLine_mode_of_entered hn (State.settleMode_to_active hfree hmode' (hany.trans hhot)) rfl]
    rfl
  · have hmode' : (t.stringAt n).mode = .active := by
      rw [hat]
      simp [StringCtl.attend, hmode]
    rw [hevent, State.runLine_mode_of_entered hn (State.settleMode_to_quiet hfree hmode' (hany.trans hhot)) rfl]
    rfl

theorem StringCtl.enterDormant_line (x : StringCtl) : x.enterDormant.line = x.line ∧ x.enterDormant.due = x.due := by
  unfold StringCtl.enterDormant
  split <;> exact ⟨rfl, rfl⟩

/-- Broadcasts on the line and due outlast a change of mode (R81, R83). -/
theorem State.settleMode_line {t : State} {n : Nat} (hn : n < t.strings.length) :
    ((t.settleMode n).stringAt n).line = (t.stringAt n).line ∧ ((t.settleMode n).stringAt n).due = (t.stringAt n).due := by
  have hset (y : StringCtl) := t.stringAt_setString_self n y hn
  unfold State.settleMode
  dsimp only
  repeat' split
  all_goals simp [hset, StringCtl.enterActive, StringCtl.enterQuiet, StringCtl.enterDormant_line]

/-- A broadcast that waits starts on an idle line, whatever mode its string settles in (R70, R92). -/
theorem State.runLine_of_waiting {t : State} {n : Nat} (hn : n < t.strings.length) (hline : (t.stringAt n).line = .idle)
    {b : Broadcast} {rest : List Broadcast} (hdue : (t.stringAt n).due = b :: rest) :
    ((t.runLine n).stringAt n).line = .broadcast b 1 ∧ ((t.runLine n).stringAt n).due = rest := by
  obtain ⟨hkeepsLine, hkeepsDue⟩ := State.settleMode_line hn
  have hcount : n < (t.settleMode n).strings.length := by
    rwa [State.stringCount_of_lasting (t.settleMode_lasting n)]
  rw [State.runLine_settleMode hn, State.runLine_of_due (State.settleMode_settled hn) (hkeepsLine.trans hline)
    (hkeepsDue.trans hdue) hcount, State.sent_stringAt _ hcount]
  exact ⟨rfl, rfl⟩

theorem StringCtl.endBroadcast_line (x : StringCtl) (b : Broadcast) :
    (x.endBroadcast b).line = .idle ∧ (x.endBroadcast b).due = x.due ∧ (x.endBroadcast b).sweep = x.sweep ∧
      (x.endBroadcast b).mode = x.mode := by
  unfold StringCtl.endBroadcast
  split <;> exact ⟨rfl, rfl, rfl, rfl⟩

include hi hs in
theorem State.broadcastEnd_stringAt {b : Broadcast} (h : (s.stringAt n).line = .broadcast b 0) :
    ∃ t : State, n < t.strings.length ∧ t.stringAt n = (s.stringAt n).endBroadcast b ∧
      (s.broadcastEnd n).stringAt n = (t.runLine n).stringAt n := by
  obtain ⟨t, hn, hat, -, -, hkick⟩ := State.kick_setString n.isLt hs.strings_length ((s.stringAt n).endBroadcast b)
  refine ⟨t, hn, hat, ?_⟩
  rw [← hkick, State.broadcastEnd, h]
  simp only [s.checkContexts_of_intact hi.undamaged.contexts]

end Ends

/-- Settles O43: the ends of the times, then the settling of the mode, the turns on an idle line, and a sweep's turns and end. -/
theorem stringTimesEndAsTheModesSay : Obligations.StringTimesEndAsTheModesSay := by
  unfold Obligations.StringTimesEndAsTheModesSay
  refine ⟨fun s n hi hs => ?_, fun s n hn => ?_, fun s n hn => ?_, fun s n w hn => ?_⟩
  · refine ⟨fun hmode htimer => ?_, fun hmode htimer => ?_, exec_quietPeriod_of_exchange hi hs,
      fun a hmode htimer hline hdue hsweep hdormancy hhot hcold =>
        exec_quietPeriod_of_idle hi hs hmode htimer hline hdue hsweep hdormancy hhot hcold,
      fun htimer => ?_, fun i hitems hmode hpermitted htime hhot => ?_, fun i hitems hnot => ?_, fun low => ?_,
      exec_attentionWake_of_dormant hi hs, fun b d ds hline hdue => ?_, fun k hline hmode hdue hsweep => ?_,
      exec_attentionWake_settles hi hs⟩
    · exact exec_opensSurvey hi hs
        (attempt_of_arises (by simp [State.timedOut, State.modeOf, hmode, htimer]) (s.stringEvent n _)) rfl
    · exact exec_opensSurvey hi hs
        (attempt_of_arises (by simp [State.timedOut, State.modeOf, hmode, htimer]) (s.stringEvent n _)) rfl
    · have hnot (m : Mode) : s.timedOut n m = false := by simp [State.timedOut, htimer]
      exact ⟨attempt_of_not_arises (hnot _) s _, attempt_of_not_arises (hnot _) s _, attempt_of_not_arises (hnot _) s _⟩
    · exact exec_dormancyTimeout hi hs (by simp [StringCtl.dormancyReached, hmode, hitems, hpermitted, htime]) hmode hhot
    · refine attempt_of_not_arises ?_ s _
      obtain hpermitted | htime := hnot
      · simp [StringCtl.dormancyReached, hitems, hpermitted]
      · simp [StringCtl.dormancyReached, htime]
    · refine ⟨_, rfl, ?_⟩
      rw [State.stringEvent_of_intact hi, State.attentionLow_of_lasting (State.kick_lasting _),
        s.stringAt_setString_self n _ (hs.lt_strings n)]
      unfold StringCtl.attend
      dsimp only
      split <;> rfl
    · obtain ⟨t, hn, hat, hend⟩ := State.broadcastEnd_stringAt hi hs hline
      obtain ⟨hidle, hkeepsDue, -⟩ := (s.stringAt n).endBroadcast_line b
      refine ⟨_, rfl, ?_⟩
      rw [hend]
      exact State.runLine_of_waiting hn (by rw [hat, hidle]) (by rw [hat, hkeepsDue, hdue])
    · obtain ⟨t, hn, hat, hend⟩ := State.broadcastEnd_stringAt hi hs hline
      obtain ⟨hidle, hkeepsDue, hkeepsSweep, hkeepsMode⟩ := (s.stringAt n).endBroadcast_line (.test k)
      rw [← hat] at hidle hkeepsDue hkeepsSweep hkeepsMode
      rw [hmode] at hkeepsMode
      have hturn := State.runLine_of_turn (State.settleMode_of_mode (by simp [hkeepsMode]) (by simp [hkeepsMode])
        (by simp [hkeepsMode])) hidle (hkeepsDue.trans hdue) (hkeepsSweep.trans hsweep)
      have hstays : t.turn n = t := by simp [State.turn, hkeepsMode]
      refine ⟨_, rfl, ?_⟩
      rw [hend, hturn, hstays]
      exact ⟨hidle, by simp [hat, StringCtl.endBroadcast, hmode]⟩
  · exact ⟨fun hline => State.settleMode_of_inExchange hline, fun hline =>
      ⟨fun hmode hhot => State.settleMode_to_active hline hmode hhot,
        fun hmode hhot => State.settleMode_to_quiet hline hmode hhot, State.runLine_settleMode hn⟩⟩
  · intro x sends poll faces cold hline hdue hsweep
    have cold_of {a : Nat} {y : StringCtl} (hy : y.modules = x.modules) (hitems : y.items = x.items)
        (hrun : s.runLine n = (s.setString n y).coldTurnAt n a) : cold a y := by
      have hlink : y.link a = x.link a := by simp [StringCtl.link, hy]
      rw [State.coldTurnAt_setString hn, hlink] at hrun
      refine ⟨fun hdark => ?_, fun hdark => ?_⟩
      · rw [hrun, if_pos hdark, StringCtl.facesTo, hlink, StringCtl.rotation, hitems]
        rfl
      · rw [hrun, if_neg (by simp [hdark]), StringCtl.pollTo, hlink]
        rfl
    refine ⟨fun hmode hhot => ⟨fun a ci c hnext hm hc => ?_, fun a hover hcold => cold_of rfl rfl ?_⟩,
      fun hmode hhot hdormancy => ⟨fun hturn => ?_, fun hturn a hcold => cold_of rfl rfl ?_⟩⟩
    · intro y lost dark due
      have hrun : s.runLine n = _ := (State.runLine_of_active hline hdue hsweep hmode hhot).trans
        ((State.roundTurn_of_hot hn hnext).trans (State.hotTurn_eq hn hm hc))
      have hdueIff : due ↔ c.due = true ∧ (x.link a).presence ≠ .lost := by
        rw [c.due_iff, and_assoc]
      refine ⟨fun hdark => hrun.trans (if_pos hdark), fun hdark hset => ?_, fun hdark hset => ?_⟩
      · exact hrun.trans ((if_neg hdark).trans (if_pos (hdueIff.1 hset)))
      · exact hrun.trans ((if_neg hdark).trans (if_neg (mt hdueIff.2 hset)))
    · rw [State.runLine_of_active hline hdue hsweep hmode hhot, State.roundTurn_of_cold hn hover hcold]
    · rw [State.runLine_of_quiet hline hdue hsweep hmode hhot hdormancy, State.quietTurn, if_neg (ne_true_of_eq_false hturn)]
    · rw [State.runLine_of_quiet hline hdue hsweep hmode hhot hdormancy, State.quietTurn_of_cold hn hturn hcold]
  · intro x sends active quiet entered closes hline hdue hsweep hsweeping
    refine ⟨fun hw => ?_, fun hw hmode => ?_, fun hw hmode => ?_⟩
    · have hrun : s.runLine n = _ :=
        (State.Sweeping.runLine_of_address hline hdue hsweeping hsweep hw).trans (s.sweepTurn_eq n w)
      exact ⟨fun hdark => hrun.trans (if_pos hdark), fun hdark => hrun.trans (if_neg (by simp [hdark]))⟩
    · obtain ⟨-, hhot, hdormancy⟩ := hsweeping.resolve_left fun h => nomatch hmode.symm.trans h
      exact State.runLine_of_attentionEnd hline hdue hn hsweep hw hmode hhot hdormancy
    · have hentered : x.surveyed (s.anyHot n) = entered := rfl
      have hend {t : State} (hclose : s.closeSurvey n w.lampsGood = t) :
          s.runLine n = (t.setString n entered).runLine n :=
        State.runLine_of_surveyEnd hline hdue hn hsweep hw hmode hclose
      exact ⟨fun hrun hpurpose => hend (State.closeSurvey_of_census hrun hpurpose _),
        fun hrun hpurpose => hend (State.closeSurvey_of_test hrun hpurpose _),
        fun hno => hend (State.closeSurvey_of_none hno _)⟩

end Sys2Proof.Machine
end

section
/-! Proofs of the family of 04 (lamp strings), fourth part: what replies, misses and feed faults share: table work with its placement
pass as the strings see it, the closing advisories of the lines, and the pending set that a line creates. -/

namespace Sys2Proof.Machine

/-! ### Advisories on the report list -/

@[simp] theorem State.appendItem_advisory (s : State) (r : OutcomeRecord) :
    (s.appendItem (.advisory r)).advisories = s.advisories ++ [r] := by
  simp [State.advisories, State.appendItem]

@[simp] theorem State.appendItem_pick (s : State) (i : Nat) : (s.appendItem (.pick i)).advisories = s.advisories := by
  simp [State.advisories, State.appendItem]

theorem State.advisories_of_jw {s t : State} (h : t.jw = s.jw) : t.advisories = s.advisories := by
  rw [State.advisories, h]
  rfl

/-- The filled entries are those of the advisories (R151). -/
theorem State.filled_eq (s : State) : s.jw.filled = s.advisories.length := by
  unfold Journal.filled State.advisories
  induction s.jw.report with
  | nil => rfl
  | cons x l ih => cases x <;> simp [List.filter_cons, Item.isAdvisory, ih]

theorem State.spare_eq (s : State) : s.jw.spare = 16 - (s.advisories.length + s.jw.reserved) := by
  rw [Journal.spare, State.filled_eq]

/-! ### Table work with its placement pass -/

/-- What the strings and the report list see of table work: run control, the controllers, the advisories and the reserved entries
stand, and the tables still pass their checks. -/
structure State.TableWork (s t : State) : Prop where
  undamaged : t.Undamaged
  lrc : t.lrc = s.lrc
  strings : t.strings = s.strings
  advisories : t.advisories = s.advisories
  reserved : t.jw.reserved = s.jw.reserved

theorem State.TableWork.trans {s t u : State} (h : s.TableWork t) (k : t.TableWork u) : s.TableWork u :=
  ⟨k.undamaged, k.lrc.trans h.lrc, k.strings.trans h.strings, k.advisories.trans h.advisories, k.reserved.trans h.reserved⟩

section Shared

variable {s t : State} (h : s.TableWork t)
include h

theorem State.TableWork.stringAt (n : Nat) : t.stringAt n = s.stringAt n := by simp [State.stringAt, h.strings]
theorem State.TableWork.link (n a : Nat) : t.link n a = s.link n a := by rw [State.link, h.stringAt, State.link]
theorem State.TableWork.inRun : t.inRun = s.inRun := by simp [State.inRun, h.lrc]
theorem State.TableWork.now : t.now = s.now := by simp [State.now, h.lrc]
theorem State.TableWork.spare : t.jw.spare = s.jw.spare := by rw [State.spare_eq, State.spare_eq, h.advisories, h.reserved]

end Shared

namespace State.Undamaged

variable {s : State} (h : s.Undamaged)
include h

theorem tableWork : s.TableWork s := ⟨h, rfl, rfl, rfl, rfl⟩

theorem tableWork_setContext (ci : Nat) (x : Option Context) : s.TableWork (s.setContext ci x) :=
  ⟨h.setContext ci x, rfl, rfl, rfl, rfl⟩

theorem tableWork_visitDeferred (i : Nat) : s.TableWork (s.visitDeferred i) := by
  have hfollows := (h.follows_visitDeferred i).undamaged
  obtain hv | ⟨p, -, ⟨ci, d, hv⟩ | ⟨o, hv⟩⟩ := s.visitDeferred_cases i
  all_goals rw [hv] at hfollows ⊢
  · exact h.tableWork
  · exact ⟨hfollows, rfl, rfl, rfl, rfl⟩
  · exact ⟨hfollows, rfl, rfl, State.appendItem_pick _ _, rfl⟩

theorem tableWork_walkDeferred : s.TableWork s.walkDeferred := by
  have hfold (l : List Nat) {t : State} (ht : t.Undamaged) : t.TableWork (l.foldl State.visitDeferred t) := by
    induction l generalizing t with
    | nil => exact ht.tableWork
    | cons i l ih =>
      have hvisit := ht.tableWork_visitDeferred i
      exact hvisit.trans (ih hvisit.undamaged)
  exact hfold _ h

theorem tableWork_placementPass : s.TableWork s.placementPass := by
  rw [s.placementPass_of_intact h.picks]
  exact h.tableWork_walkDeferred

theorem tableWork_settleContext (ci : Nat) : s.TableWork (s.settleContext ci) := by
  unfold State.settleContext
  split
  · split
    · exact h.tableWork_setContext ci none
    · exact h.tableWork
  · exact h.tableWork

theorem tableWork_releaseContext (ci : Nat) : s.TableWork (s.releaseContext ci) := by
  unfold State.releaseContext
  split
  · split
    · exact (h.tableWork_setContext ci none).trans (h.setContext ci none).tableWork_placementPass
    · exact h.tableWork
  · exact h.tableWork

theorem tableWork_reportContext (ci : Nat) (c : Context) : s.TableWork (s.reportContext ci c) :=
  (h.tableWork_setContext ci _).trans ((h.setContext ci _).tableWork_releaseContext ci)

theorem tableWork_displayReport (ci : Nat) (reboot : Bool) (generation : Nat) :
    s.TableWork (s.displayReport ci reboot generation) := by
  unfold State.displayReport
  split
  · exact h.tableWork_reportContext ci _
  · exact h.tableWork

theorem tableWork_dropPending (n a : Nat) : s.TableWork (s.dropPending n a) := by
  unfold State.dropPending
  split
  · split
    · exact h.tableWork_reportContext _ _
    · exact h.tableWork
  · exact h.tableWork

theorem tableWork_reportLost (n a : Nat) : s.TableWork (s.reportLost n a) := by
  unfold State.reportLost
  split
  · next ci _ =>
    split
    · split
      · next c _ _ =>
        have hset := h.tableWork_setContext ci (some (c.endPin s.pm.lanes s.paused))
        have hsettle := hset.trans (hset.undamaged.tableWork_settleContext ci)
        exact hsettle.trans hsettle.undamaged.tableWork_placementPass
      · exact h.tableWork_releaseContext _
    · exact h.tableWork
  · exact h.tableWork

end State.Undamaged

/-! ### Table work where no pick is deferred -/

theorem State.setContext_setContext (s : State) (ci : Nat) (x y : Option Context) :
    (s.setContext ci x).setContext ci y = s.setContext ci y := by
  simp [State.setContext, State.setContexts]

/-- The context that the search of a module answers names the module. -/
theorem State.contextAt_of_contextOfModule {s : State} {n a ci : Nat} (h : s.contextOfModule n a = some ci) :
    ∃ c, s.contextAt ci = some c ∧ c.atlas.string = n ∧ c.atlas.address = a := by
  obtain ⟨j, e, rfl, he, ht⟩ := firstFrom_spec h
  cases hc : e.context with
  | none => simp [hc] at ht
  | some c => exact ⟨c, by simp [State.contextAt, he, hc], by simpa [hc, Context.names] using ht⟩

section NoDeferred

variable {s : State} (h : s.pm.deferred = [])
include h

/-- With no pick deferred a placement pass does nothing (R14). -/
theorem State.placementPass_of_noDeferred : s.placementPass = s := by
  have hreads : s.badPicks.filter s.passReads = [] := List.filter_eq_nil_iff.2 fun i _ => by simp [State.passReads, h]
  rw [State.placementPass, hreads, State.handlePicks, List.foldl_nil, State.walkDeferred, h, List.foldl_nil]

/-- With no pick deferred a context that is reported is freed or stands as reported (R24). -/
theorem State.reportContext_of_noDeferred {ci : Nat} (hci : ci < s.contexts.length) (c : Context) :
    s.reportContext ci c = s.setContext ci (if s.freeable c = true then none else some c) := by
  have hset := s.contextAt_setContext_self ci (some c) hci
  have hfreeable : (s.setContext ci (some c)).freeable c = s.freeable c := State.freeable_of_strings rfl c
  have hpass (x : Option Context) : (s.setContext ci x).placementPass = s.setContext ci x := State.placementPass_of_noDeferred h
  simp only [State.reportContext, State.releaseContext, hset, hfreeable, State.setContext_setContext, hpass]
  split <;> rfl

end NoDeferred

/-! ### The closing advisories of the lines -/

/-- Nothing joins the report list but advisories that close light tests and censuses, and these in a run alone (R78, R90). -/
def State.ClosesStrings (s t : State) : Prop :=
  ∃ more : List OutcomeRecord, t.jw.report = s.jw.report ++ more.map Item.advisory ∧
    ∀ r ∈ more, s.inRun = true ∧ (r.kind = .testDone ∨ r.kind = .censusDone) ∧ r.cause = .none

theorem State.ClosesStrings.trans {s t u : State} (h : s.ClosesStrings t) (k : t.ClosesStrings u) (hrun : t.inRun = s.inRun) :
    s.ClosesStrings u := by
  obtain ⟨more, ht, hm⟩ := h
  obtain ⟨rest, hu, hr⟩ := k
  rw [hrun] at hr
  exact ⟨more ++ rest, by simp [hu, ht], fun r hmem => (List.mem_append.1 hmem).elim (hm r) (hr r)⟩

theorem State.closesStrings_of_jw {s t : State} (h : t.jw = s.jw) : s.ClosesStrings t := ⟨[], by simp [h], by simp⟩

theorem State.closesStrings_closeSurvey (s : State) (n good : Nat) : s.ClosesStrings (s.closeSurvey n good) := by
  by_cases hnone : s.inRun = false ∨ (s.stringAt n).purpose = some .start ∨ (s.stringAt n).purpose = none
  · exact State.closesStrings_of_jw (by rw [State.closeSurvey_of_none hnone])
  · simp only [not_or, Bool.not_eq_false] at hnone
    obtain ⟨hrun, hstart, hsome⟩ := hnone
    cases hpurpose : (s.stringAt n).purpose with
    | none => exact absurd hpurpose hsome
    | some purpose =>
      cases purpose with
      | start => exact absurd hpurpose hstart
      | census =>
        rw [State.closeSurvey_of_census hrun hpurpose]
        exact ⟨[_], rfl, by simp [hrun, State.closing, State.advisory]⟩
      | test =>
        rw [State.closeSurvey_of_test hrun hpurpose]
        exact ⟨[_], rfl, by simp [hrun, State.closing, State.advisory]⟩

theorem State.closesStrings_endSweep (s : State) (n : Nat) : s.ClosesStrings (s.endSweep n) := by
  unfold State.endSweep
  dsimp only
  split
  · split
    · split
      · exact s.closesStrings_closeSurvey n _
      · exact State.closesStrings_of_jw rfl
      · exact State.closesStrings_of_jw rfl
    · exact State.closesStrings_of_jw rfl
  · exact State.closesStrings_of_jw rfl

theorem State.closesStrings_runLine (s : State) (n : Nat) : s.ClosesStrings (s.runLine n) := by
  have hmode : s.ClosesStrings (s.settleMode n) := State.closesStrings_of_jw (s.settleMode_jw n)
  have hrun : (s.settleMode n).inRun = s.inRun := State.inRun_of_frame (s.settleMode_frame n)
  unfold State.runLine
  dsimp only
  split
  · split
    · exact State.closesStrings_of_jw (s.settleMode_jw n)
    · exact (hmode.trans ((s.settleMode n).closesStrings_endSweep n) hrun).trans
        (State.closesStrings_of_jw (State.turn_jw _ n)) ((State.inRun_of_frame (State.endSweep_frame _ n)).trans hrun)
  · exact hmode

/-- The lines, taken up, append closing advisories of strings and nothing else, and these in a run alone (R90, R152). -/
theorem State.closesStrings_kick (s : State) : s.ClosesStrings s.kick := by
  have hrun (t : State) (n : Nat) : (t.runLine n).inRun = t.inRun := State.inRun_of_frame (t.runLine_frame n)
  simp only [State.kick, State.eachString, List.foldl]
  refine (((s.closesStrings_runLine 0).trans (State.closesStrings_runLine _ 1) ?_).trans (State.closesStrings_runLine _ 2) ?_).trans
    (State.closesStrings_runLine _ 3) ?_
  all_goals simp only [hrun]

/-! ### The pending set that a line creates -/

section Pending

variable {s : State} {n ci : Nat}

/-- A line leaves a context, or sends its module the due desired set: then the line speaks to the module it names (R40, R79). -/
def State.SendsOrLeaves (s t : State) (n ci : Nat) : Prop :=
  t.contextAt ci = s.contextAt ci ∨
    ∃ a, s.contextOfModule n a = some ci ∧ (t.stringAt n).line = .exchange a .faces false 2

theorem State.hotTurn_sendsOrLeaves (hn : n < s.strings.length) (a : Nat) : s.SendsOrLeaves (s.hotTurn n a) n ci := by
  cases hm : s.contextOfModule n a with
  | none =>
    have hm' (y : StringCtl) : (s.setString n y).contextOfModule n a = none := hm
    simp only [State.hotTurn, hm']
    split <;> exact .inl rfl
  | some cj =>
    obtain ⟨c, hc, -⟩ := State.contextAt_of_contextOfModule hm
    rw [State.hotTurn_eq hn hm hc]
    split
    · exact .inl rfl
    · split
      · by_cases hcj : cj = ci
        · subst hcj
          exact .inr ⟨a, hm, by rw [State.sent_stringAt (s.setContext cj _) hn]⟩
        · exact .inl (s.contextAt_setContext_of_ne cj ci _ hcj)
      · exact .inl rfl

theorem State.coldTurnAt_contextAt (s : State) (n a ci : Nat) : (s.coldTurnAt n a).contextAt ci = s.contextAt ci := by
  unfold State.coldTurnAt
  dsimp only
  split <;> rfl

theorem State.roundTurn_sendsOrLeaves (hn : n < s.strings.length) : s.SendsOrLeaves (s.roundTurn n) n ci := by
  have hset : n < (s.setString n { s.stringAt n with roundPosition := 0 }).strings.length := by simpa [State.setString] using hn
  unfold State.roundTurn
  dsimp only
  split
  · exact State.hotTurn_sendsOrLeaves hn _
  · split
    · exact .inl (State.coldTurnAt_contextAt _ n _ ci)
    · split
      · exact State.hotTurn_sendsOrLeaves hset _
      · exact .inl rfl

theorem State.turn_sendsOrLeaves (hn : n < s.strings.length) : s.SendsOrLeaves (s.turn n) n ci := by
  have hsweep (w : Sweep) : (s.sweepTurn n w).contextAt ci = s.contextAt ci := by
    rw [State.sweepTurn_eq]
    split <;> rfl
  have hquiet : (s.quietTurn n).contextAt ci = s.contextAt ci := by
    unfold State.quietTurn
    dsimp only
    split
    · split
      · exact State.coldTurnAt_contextAt _ n _ ci
      · rfl
    · rfl
  unfold State.turn
  dsimp only
  split
  · split
    · exact .inl (hsweep _)
    · exact .inl rfl
  · split
    · exact .inl (hsweep _)
    · exact .inl hquiet
  · exact State.roundTurn_sendsOrLeaves hn
  · exact .inl rfl

@[simp] theorem State.settleMode_contexts (s : State) (n : Nat) : (s.settleMode n).contexts = s.contexts := by
  unfold State.settleMode
  dsimp only
  repeat' split
  all_goals rfl

@[simp] theorem State.endSweep_contexts (s : State) (n : Nat) : (s.endSweep n).contexts = s.contexts := by
  unfold State.endSweep State.endSurvey State.closeSurvey State.offerString
  dsimp only
  repeat' split
  all_goals rfl

theorem State.contextOfModule_of_contexts {s t : State} (h : t.contexts = s.contexts) (n a : Nat) :
    t.contextOfModule n a = s.contextOfModule n a := by
  rw [State.contextOfModule, State.findContext, h]
  rfl

theorem State.runLine_sendsOrLeaves (hn : n < s.strings.length) : s.SendsOrLeaves (s.runLine n) n ci := by
  have hmode : (s.settleMode n).contextAt ci = s.contextAt ci := State.contextAt_of_contexts (s.settleMode_contexts n) ci
  unfold State.runLine
  dsimp only
  split
  · split
    · exact .inl hmode
    · have hcontexts : ((s.settleMode n).endSweep n).contexts = s.contexts := by simp
      have hlt : n < ((s.settleMode n).endSweep n).strings.length := by
        rwa [State.stringCount_of_lasting (State.endSweep_lasting _ n), State.stringCount_of_lasting (s.settleMode_lasting n)]
      obtain hleaves | ⟨a, hm, hline⟩ := State.turn_sendsOrLeaves (ci := ci) hlt
      · exact .inl (hleaves.trans (State.contextAt_of_contexts hcontexts ci))
      · exact .inr ⟨a, (State.contextOfModule_of_contexts hcontexts n a).symm.trans hm, hline⟩
  · exact .inl hmode

/-- The lines leave a context as it is, unless its string speaks to its module with a FACES (R40, R79). -/
theorem State.kick_contextAt (hs : s.strings.length = 4) {c : Context} (hc : s.contextAt ci = some c) :
    s.kick.contextAt ci = s.contextAt ci ∨
      (s.kick.stringAt c.atlas.string).line = .exchange c.atlas.address .faces false 2 := by
  have hother (l : List Nat) (t : State) (m : Nat) (hm : m ∉ l) : (l.foldl State.runLine t).stringAt m = t.stringAt m := by
    induction l generalizing t with
    | nil => rfl
    | cons i l ih =>
      obtain ⟨him, hml⟩ := List.ne_and_not_mem_of_not_mem_cons hm
      rw [List.foldl_cons, ih _ hml, State.runLine_stringAt_of_ne _ (Ne.symm him)]
  have hfold (l : List Nat) (hl : ∀ i ∈ l, i < 4) (hnodup : l.Nodup) (t : State) (ht : t.strings.length = 4)
      (htc : t.contextAt ci = some c) : (l.foldl State.runLine t).contextAt ci = t.contextAt ci ∨
        ((l.foldl State.runLine t).stringAt c.atlas.string).line = .exchange c.atlas.address .faces false 2 := by
    induction l generalizing t with
    | nil => exact .inl rfl
    | cons i l ih =>
      obtain ⟨hi, hl⟩ := List.forall_mem_cons.1 hl
      obtain ⟨hnot, hnodup⟩ := List.nodup_cons.1 hnodup
      rw [List.foldl_cons]
      obtain hleaves | ⟨a, hm, hline⟩ := State.runLine_sendsOrLeaves (s := t) (n := i) (ci := ci) (by omega)
      · have hcount := State.stringCount_of_lasting (t.runLine_lasting i)
        rw [← hleaves]
        exact ih hl hnodup _ (hcount.trans ht) (hleaves.trans htc)
      · obtain ⟨d, hd, rfl, rfl⟩ := State.contextAt_of_contextOfModule hm
        obtain rfl : d = c := Option.some.inj (hd.symm.trans htc)
        exact .inr (by rw [hother l _ _ hnot, hline])
  exact hfold [0, 1, 2, 3] (by decide) (by decide) s hs hc

end Pending

end Sys2Proof.Machine
end

section
/-! Proofs of the family of 04 (lamp strings), fifth part: what a placement pass does to the contexts of the table, as the loss of a
module sees it: no pin begins, and a context with claims goes on naming its module and its slot. -/

namespace Sys2Proof.Machine

/-! ### The contexts that a pass writes -/

/-- Selection leaves a context its slot, its atlas copy and its pin, and takes no claim away (R33). -/
theorem Context.select_keeps (c : Context) (lanes : List Lane) (paused : Bool) :
    (c.select lanes paused).slot = c.slot ∧ (c.select lanes paused).atlas = c.atlas ∧ (c.select lanes paused).pin = c.pin ∧
      (c.claims ≠ [] → (c.select lanes paused).claims ≠ []) := by
  obtain ⟨l, g, x, h⟩ := c.select_eq lanes paused
  have hlength := congrArg List.length (c.select_still lanes paused)
  simp only [List.length_map] at hlength
  refine ⟨by rw [h], by rw [h], by rw [h], fun hne => ?_⟩
  rw [← List.length_pos_iff] at hne ⊢
  omega

/-- A new claim leaves a context its slot, its atlas copy and its pin (R27). -/
theorem Context.newClaim_keeps (c : Context) (lanes : List Lane) (paused : Bool) (entry : Nat) (p : Pick) :
    (c.newClaim lanes paused entry p).slot = c.slot ∧ (c.newClaim lanes paused entry p).atlas = c.atlas ∧
      (c.newClaim lanes paused entry p).pin = c.pin ∧ (c.newClaim lanes paused entry p).claims ≠ [] := by
  obtain ⟨hslot, hatlas, hpin, hclaims⟩ := (c.openClaim entry p).select_keeps lanes paused
  refine ⟨hslot, hatlas, hpin, hclaims (List.length_pos_iff.1 ?_)⟩
  rw [Context.openClaim, (insertClaim_perm _ _).length_eq]
  exact Nat.succ_pos _

/-- The join rule leaves a context its slot, its atlas copy and its pin, and takes no claim away (R28). -/
theorem Context.offer_keeps {c d : Context} {lanes : List Lane} {paused : Bool} {entry : Nat} {p : Pick}
    (h : c.offer lanes paused entry p = some d) :
    d.slot = c.slot ∧ d.atlas = c.atlas ∧ d.pin = c.pin ∧ (c.claims ≠ [] → d.claims ≠ []) := by
  obtain ⟨serial, rfl⟩ | ⟨-, rfl⟩ := Context.offer_cases h
  · exact ⟨Context.rebuild_slot _ _ _, Context.rebuild_atlas _ _ _, Context.rebuild_pin _ _ _, fun hne => by
      rw [Context.rebuild_claims]
      simpa [Context.setClaim] using hne⟩
  · obtain ⟨hslot, hatlas, hpin, hclaims⟩ := c.newClaim_keeps lanes paused entry p
    exact ⟨hslot, hatlas, hpin, fun _ => hclaims⟩

/-- What the visit of a deferred pick writes of the context table: nothing, a context that the pick joins, or a free entry, with a
context of a module that had none (R15, R22). -/
theorem State.visitDeferred_contexts (s : State) (i : Nat) :
    (s.visitDeferred i).contexts = s.contexts ∨
      (∃ ci c d p, s.contextAt ci = some c ∧ c.offer s.pm.lanes s.paused i p = some d ∧
        (s.visitDeferred i).contexts = (s.setContext ci (some d)).contexts) ∨
      ∃ ci p atlas, s.contextAt ci = none ∧ s.hot atlas.string atlas.address = false ∧
        (s.visitDeferred i).contexts =
          (s.setContext ci (some ((Context.create p.slot atlas).newClaim s.pm.lanes s.paused i p))).contexts := by
  unfold State.visitDeferred
  split
  · exact .inl rfl
  · next p _ =>
    split
    · next atlas _ =>
      split
      · exact .inl rfl
      · split
        · next ci _ =>
          split
          · split
            · next t ht =>
              unfold State.putInto at ht
              simp only [Option.bind_eq_some_iff, Option.map_eq_some_iff] at ht
              obtain ⟨c, hc, d, hd, rfl⟩ := ht
              exact .inr (.inl ⟨ci, c, d, p, hc, hd, rfl⟩)
            · exact .inl rfl
          · exact .inl rfl
        · split
          · exact .inl rfl
          · next ci hfree =>
            split
            · exact .inl (State.close_contexts _ _ _)
            · next hcold =>
              exact .inr (.inr ⟨ci, p, atlas, State.contextAt_of_lowestFreeContext hfree, by simpa using hcold, rfl⟩)
    · exact .inl rfl

/-! ### No pin begins -/

/-- The context of an entry, if there is one, has no pin. -/
def State.Unpinned (s : State) (ci : Nat) : Prop := ∀ d, s.contextAt ci = some d → d.pin = none

theorem State.Unpinned.of_contexts {s t : State} {ci : Nat} (h : s.Unpinned ci) (hc : t.contexts = s.contexts) :
    t.Unpinned ci := fun d hd => h d ((State.contextAt_of_contexts hc ci).symm.trans hd)

/-- A context without a pin is written to an entry. -/
theorem State.unpinned_setContext_self (s : State) (ci : Nat) {x : Option Context} (hx : ∀ d, x = some d → d.pin = none) :
    (s.setContext ci x).Unpinned ci := by
  intro d hd
  have hlt : ci < s.contexts.length := by simpa [State.setContext] using State.lt_of_contextAt hd
  exact hx d ((s.contextAt_setContext_self ci x hlt).symm.trans hd)

theorem State.Unpinned.setContext {s : State} {ci : Nat} (h : s.Unpinned ci) (cj : Nat) {x : Option Context}
    (hx : cj = ci → ∀ d, x = some d → d.pin = none) : (s.setContext cj x).Unpinned ci := by
  by_cases hcj : cj = ci
  · subst hcj
    exact s.unpinned_setContext_self cj (hx rfl)
  · exact fun d hd => h d ((s.contextAt_setContext_of_ne cj ci x hcj).symm.trans hd)

theorem State.Unpinned.visitDeferred {s : State} {ci : Nat} (h : s.Unpinned ci) (i : Nat) : (s.visitDeferred i).Unpinned ci := by
  obtain hc | ⟨cj, c, d, p, hcj, hd, hc⟩ | ⟨cj, p, atlas, -, -, hc⟩ := s.visitDeferred_contexts i
  · exact h.of_contexts hc
  · refine State.Unpinned.of_contexts (h.setContext cj ?_) hc
    rintro rfl e ⟨⟩
    obtain ⟨-, -, hpin, -⟩ := Context.offer_keeps hd
    exact hpin.trans (h c hcj)
  · refine State.Unpinned.of_contexts (h.setContext cj ?_) hc
    rintro - e ⟨⟩
    obtain ⟨-, -, hpin, -⟩ := (Context.create p.slot atlas).newClaim_keeps s.pm.lanes s.paused i p
    exact hpin

theorem State.Unpinned.walkDeferred {s : State} {ci : Nat} (h : s.Unpinned ci) : s.walkDeferred.Unpinned ci := by
  have hfold (l : List Nat) {t : State} (ht : t.Unpinned ci) : (l.foldl State.visitDeferred t).Unpinned ci := by
    induction l generalizing t with
    | nil => exact ht
    | cons i l ih => exact ih (ht.visitDeferred i)
  exact hfold _ h

section Unpinned

variable {s : State} (hs : s.Undamaged) {ci : Nat}
include hs

theorem State.Unpinned.placementPass (h : s.Unpinned ci) : s.placementPass.Unpinned ci := by
  rw [s.placementPass_of_intact hs.picks]
  exact h.walkDeferred

theorem State.Unpinned.releaseContext (h : s.Unpinned ci) (cj : Nat) : (s.releaseContext cj).Unpinned ci := by
  unfold State.releaseContext
  split
  · split
    · exact State.Unpinned.placementPass (hs.setContext cj none) (h.setContext cj fun _ _ hx => nomatch hx)
    · exact h
  · exact h

/-- The end of a pin, the freeing that may follow and its pass leave an entry without a pin (R26, R87). -/
theorem State.unpinned_endPin (cj : Nat) (c : Context)
    (h : (s.setContext cj (some (c.endPin s.pm.lanes s.paused))).Unpinned ci) :
    ((s.setContext cj (some (c.endPin s.pm.lanes s.paused))).settleContext cj).placementPass.Unpinned ci := by
  have hset := hs.setContext cj (some (c.endPin s.pm.lanes s.paused))
  refine State.Unpinned.placementPass (hset.follows_settleContext cj).undamaged ?_
  unfold State.settleContext
  split
  · split
    · exact h.setContext cj fun _ _ hx => nomatch hx
    · exact h
  · exact h

omit hs in
theorem Context.endPin_pin (c : Context) (lanes : List Lane) (paused : Bool) : (c.endPin lanes paused).pin = none :=
  Context.rebuild_pin _ _ _

theorem State.Unpinned.reportLost (h : s.Unpinned ci) (n a : Nat) : (s.reportLost n a).Unpinned ci := by
  unfold State.reportLost
  split
  · next cj _ =>
    split
    · next c _ =>
      split
      · refine State.unpinned_endPin hs cj c (h.setContext cj ?_)
        rintro - d ⟨⟩
        exact c.endPin_pin s.pm.lanes s.paused
      · exact h.releaseContext hs cj
    · exact h
  · exact h

/-- The loss of a module ends the pin of its context (R26, R87). -/
theorem State.unpinned_reportLost {n a : Nat} (hm : s.contextOfModule n a = some ci) : (s.reportLost n a).Unpinned ci := by
  obtain ⟨c, hc, -⟩ := State.contextAt_of_contextOfModule hm
  simp only [State.reportLost, hm, hc]
  split
  · refine State.unpinned_endPin hs ci c (s.unpinned_setContext_self ci ?_)
    rintro d ⟨⟩
    exact c.endPin_pin s.pm.lanes s.paused
  · next hpin =>
    refine State.Unpinned.releaseContext hs (fun d hd => ?_) ci
    obtain rfl : c = d := Option.some.inj (hc.symm.trans hd)
    simpa using hpin

/-- The drop of a set in flight, and the loss that it may come with, end the pin of the context of the module (R26, R42, R87). -/
theorem State.unpinned_dropPending {n a : Nat} (hm : s.contextOfModule n a = some ci) :
    (s.dropPending n a).Unpinned ci ∨ (s.dropPending n a).contextOfModule n a = some ci := by
  obtain ⟨c, hc, -⟩ := State.contextAt_of_contextOfModule hm
  have hset := s.contextAt_setContext_self ci (some { c with pending := none }) (State.lt_of_contextAt hc)
  simp only [State.dropPending, hm, hc, State.reportContext, State.releaseContext, hset]
  split
  · exact .inl (State.Unpinned.placementPass ((hs.setContext ci _).setContext ci none)
      (State.unpinned_setContext_self _ ci fun _ hx => nomatch hx))
  · exact .inr ((State.findContext_setContext (d := { c with pending := none }) hc rfl).trans hm)

end Unpinned

/-! ### A context with claims goes on -/

/-- The context that a module's search answers has claims, and its slot. -/
def State.Serves (s : State) (n a ci slot : Nat) : Prop :=
  s.contextOfModule n a = some ci ∧ ∃ d, s.contextAt ci = some d ∧ d.claims ≠ [] ∧ d.slot = slot

theorem State.Serves.of_contexts {s t : State} {n a ci slot : Nat} (h : s.Serves n a ci slot) (hc : t.contexts = s.contexts) :
    t.Serves n a ci slot := by
  obtain ⟨hm, d, hd, hrest⟩ := h
  exact ⟨(State.contextOfModule_of_contexts hc n a).trans hm, d, (State.contextAt_of_contexts hc ci).trans hd, hrest⟩

/-- A search of the contexts does not see a write to an entry that it tests the same before and after. -/
theorem State.findContext_of_same {s : State} {cj : Nat} {x : Option Context} {test : Context → Bool}
    (h : (x.map test).getD false = ((s.contextAt cj).map test).getD false) :
    (s.setContext cj x).findContext test = s.findContext test := by
  refine firstFrom_congr ?_ 0
  rw [State.setContext, State.setContexts_contexts, List.map_set]
  refine List.ext_getElem (by simp) fun j hj hlt => ?_
  rw [List.getElem_set]
  split
  · next hij =>
    subst hij
    simpa [State.contextAt, show cj < s.contexts.length by simpa using hlt] using h
  · rfl

/-- A context is written or freed: the module is served on where the search does not see it, and its own context keeps a claim. -/
theorem State.Serves.setContext {s : State} {n a ci slot : Nat} (h : s.Serves n a ci slot) (cj : Nat) {x : Option Context}
    (hnames : (x.map fun c => c.names n a).getD false = ((s.contextAt cj).map fun c => c.names n a).getD false)
    (hown : cj = ci → ∃ d, x = some d ∧ d.claims ≠ [] ∧ d.slot = slot) : (s.setContext cj x).Serves n a ci slot := by
  obtain ⟨hm, d, hd, hrest⟩ := h
  refine ⟨(State.findContext_of_same hnames).trans hm, ?_⟩
  by_cases hcj : cj = ci
  · subst hcj
    obtain ⟨e, rfl, he⟩ := hown rfl
    exact ⟨e, s.contextAt_setContext_self cj _ (State.lt_of_contextAt hd), he⟩
  · exact ⟨d, (s.contextAt_setContext_of_ne cj ci x hcj).trans hd, hrest⟩

theorem State.Serves.visitDeferred {s : State} {n a ci slot : Nat} (h : s.Serves n a ci slot) (i : Nat) :
    (s.visitDeferred i).Serves n a ci slot := by
  obtain ⟨hm, d, hd, hclaims, hslot⟩ := id h
  obtain hc | ⟨cj, c, e, p, hcj, he, hc⟩ | ⟨cj, p, atlas, hcj, hcold, hc⟩ := s.visitDeferred_contexts i
  · exact h.of_contexts hc
  · obtain ⟨hkeepsSlot, hkeepsAtlas, -, hkeepsClaims⟩ := Context.offer_keeps he
    refine State.Serves.of_contexts (h.setContext cj (by simp [hcj, Context.names, hkeepsAtlas]) ?_) hc
    rintro rfl
    obtain rfl : c = d := Option.some.inj (hcj.symm.trans hd)
    exact ⟨e, rfl, hkeepsClaims hclaims, hkeepsSlot.trans hslot⟩
  · obtain ⟨-, hatlas, -⟩ := (Context.create p.slot atlas).newClaim_keeps s.pm.lanes s.paused i p
    have hother : ((Context.create p.slot atlas).newClaim s.pm.lanes s.paused i p).names n a = false := by
      rw [← Bool.not_eq_true, Context.names, hatlas, Bool.and_eq_true, beq_iff_eq, beq_iff_eq]
      rintro ⟨rfl, rfl⟩
      exact nomatch hcold.symm.trans (Option.isSome_iff_exists.2 ⟨ci, hm⟩)
    refine State.Serves.of_contexts (h.setContext cj (by simp [hcj, hother]) ?_) hc
    rintro rfl
    exact nomatch hcj.symm.trans hd

theorem State.Serves.placementPass {s : State} {n a ci slot : Nat} (h : s.Serves n a ci slot) (hs : s.Undamaged) :
    s.placementPass.Serves n a ci slot := by
  have hfold (l : List Nat) {t : State} (ht : t.Serves n a ci slot) : (l.foldl State.visitDeferred t).Serves n a ci slot := by
    induction l generalizing t with
    | nil => exact ht
    | cons i l ih => exact ih (ht.visitDeferred i)
  rw [s.placementPass_of_intact hs.picks]
  exact hfold _ h

section Free

variable {s : State} {n a ci slot : Nat} (h : s.Serves n a ci slot) {cj : Nat}
  (hother : cj ≠ ci → ∀ c, s.contextAt cj = some c → c.names n a = false)
include h hother

/-- A context that may be freed is not the one with claims. -/
theorem State.Serves.freeContext {c : Context} (hc : s.contextAt cj = some c) (hfree : s.freeable c = true) :
    (s.setContext cj none).Serves n a ci slot := by
  obtain ⟨-, d, hd, hclaims, -⟩ := id h
  have hne : cj ≠ ci := by
    rintro rfl
    obtain rfl : c = d := Option.some.inj (hc.symm.trans hd)
    exact hclaims ((s.freeable_iff c).1 hfree).1
  exact h.setContext cj (by simp [hc, hother hne c hc]) fun hcj => absurd hcj hne

theorem State.Serves.settleContext : (s.settleContext cj).Serves n a ci slot := by
  unfold State.settleContext
  split
  · next c hc =>
    split
    · next hfree => exact h.freeContext hother hc hfree
    · exact h
  · exact h

theorem State.Serves.releaseContext (hs : s.Undamaged) : (s.releaseContext cj).Serves n a ci slot := by
  unfold State.releaseContext
  split
  · next c hc =>
    split
    · next hfree => exact (h.freeContext hother hc hfree).placementPass (hs.setContext cj none)
    · exact h
  · exact h

end Free

/-- The losses of modules of a string leave the contexts of others, and that of their own while it has a claim (R87). -/
theorem State.Serves.reportLost {s : State} {n a ci slot : Nat} (h : s.Serves n a ci slot) (hs : s.Undamaged) (b : Nat) :
    (s.reportLost n b).Serves n a ci slot := by
  unfold State.reportLost
  split
  · next cj hcj =>
    obtain ⟨c, hc, -, haddress⟩ := State.contextAt_of_contextOfModule hcj
    obtain ⟨hm, d, hd, hclaims, hslot⟩ := id h
    have hother (hne : cj ≠ ci) : c.names n a = false := by
      have hb : b ≠ a := by
        rintro rfl
        exact hne (Option.some.inj (hcj.symm.trans hm))
      simp [Context.names, haddress, hb]
    rw [hc]
    dsimp only
    split
    · have hset : (s.setContext cj (some (c.endPin s.pm.lanes s.paused))).Serves n a ci slot := by
        have hatlas : (c.endPin s.pm.lanes s.paused).atlas = c.atlas := Context.rebuild_atlas _ _ _
        refine h.setContext cj (by simp [hc, Context.names, hatlas]) ?_
        rintro rfl
        obtain rfl : c = d := Option.some.inj (hc.symm.trans hd)
        exact ⟨_, rfl, by simpa [Context.endPin] using hclaims, (Context.rebuild_slot _ _ _).trans hslot⟩
      have hundamaged := hs.setContext cj (some (c.endPin s.pm.lanes s.paused))
      refine State.Serves.placementPass (hset.settleContext fun hne e he => ?_) (hundamaged.follows_settleContext cj).undamaged
      have hatlas : (c.endPin s.pm.lanes s.paused).atlas = c.atlas := Context.rebuild_atlas _ _ _
      obtain rfl : c.endPin s.pm.lanes s.paused = e := Option.some.inj
        ((s.contextAt_setContext_self cj _ (State.lt_of_contextAt hc)).symm.trans he)
      simpa [Context.names, hatlas] using hother hne
    · refine h.releaseContext (fun hne e he => ?_) hs
      obtain rfl : c = e := Option.some.inj (hc.symm.trans he)
      exact hother hne
  · exact h

end Sys2Proof.Machine
end

section
/-! Proofs of the family of 04 (lamp strings), sixth part: the per-address states as an exchange ends, the drop of a pending set and
the loss of a module where no pick is deferred, and the sweep through the taking up of the lines. -/

namespace Sys2Proof.Machine

/-! ### Writes of one per-address state -/

section Link

variable (x : StringCtl) {a b : Nat} (m : ModuleLink)

theorem StringCtl.link_setLink_self (ha : 1 ≤ a) (hlen : a ≤ x.modules.length) : (x.setLink a m).link a = m := by
  have hpos : a ≠ 0 := by omega
  have hlt : a - 1 < x.modules.length := by omega
  simp [StringCtl.link, StringCtl.setLink, hpos, List.getD, hlt]

theorem StringCtl.link_setLink_of_ne (h : b ≠ a) : (x.setLink a m).link b = x.link b := by
  unfold StringCtl.link StringCtl.setLink
  by_cases ha : a = 0 <;> by_cases hb : b = 0
  all_goals simp [ha, hb]
  rw [List.getElem?_set_ne (by omega)]

theorem StringCtl.setLink_setLink (m' : ModuleLink) : (x.setLink a m).setLink a m' = x.setLink a m' := by
  unfold StringCtl.setLink
  split <;> simp [*]

@[simp] theorem StringCtl.setLink_mode : (x.setLink a m).mode = x.mode := by
  unfold StringCtl.setLink
  split <;> rfl

@[simp] theorem StringCtl.setLink_sweep : (x.setLink a m).sweep = x.sweep := by
  unfold StringCtl.setLink
  split <;> rfl

@[simp] theorem StringCtl.setLink_dormancyDue : (x.setLink a m).dormancyDue = x.dormancyDue := by
  unfold StringCtl.setLink
  split <;> rfl

@[simp] theorem StringCtl.setLink_ceiling : (x.setLink a m).ceiling = x.ceiling := by
  unfold StringCtl.setLink
  split <;> rfl

end Link

section States

variable {s t : State} {n a : Nat}

theorem State.stringCount_of_frame (h : t.frame = s.frame) : t.strings.length = s.strings.length := by
  simpa using congrArg List.length (State.modules_of_frame h)

theorem State.setString_length (s : State) (n : Nat) (x : StringCtl) : (s.setString n x).strings.length = s.strings.length := by
  simp [State.setString]

theorem State.setLink_stringAt (h : n < s.strings.length) (m : ModuleLink) :
    (s.setLink n a m).stringAt n = (s.stringAt n).setLink a m := s.stringAt_setString_self n _ h

theorem State.stringAt_of_strings (h : t.strings = s.strings) (n : Nat) : t.stringAt n = s.stringAt n := by
  simp [State.stringAt, h]

theorem State.link_of_stringAt (h : t.stringAt n = s.stringAt n) (b : Nat) : t.link n b = s.link n b := by
  rw [State.link, h, State.link]

@[simp] theorem State.offer_strings (s : State) (r : OutcomeRecord) : (s.offer r).strings = s.strings := by
  unfold State.offer
  split <;> rfl

@[simp] theorem State.offerModule_strings (s : State) (n a : Nat) (k : RecordKind) (cause : Cause) :
    (s.offerModule n a k cause).strings = s.strings := by
  unfold State.offerModule
  split <;> simp

@[simp] theorem State.offer_lrc (s : State) (r : OutcomeRecord) : (s.offer r).lrc = s.lrc := by
  unfold State.offer
  split <;> rfl

@[simp] theorem State.offerModule_lrc (s : State) (n a : Nat) (k : RecordKind) (cause : Cause) :
    (s.offerModule n a k cause).lrc = s.lrc := by
  unfold State.offerModule
  split <;> simp

theorem State.endLine_stringAt (h : n < s.strings.length) : (s.endLine n).stringAt n = { s.stringAt n with line := .idle } :=
  s.stringAt_setString_self n _ h

/-- The end of an exchange leaves the per-address states (4.2). -/
theorem State.link_endLine (h : n < s.strings.length) (b : Nat) : (s.endLine n).link n b = s.link n b :=
  s.link_setString h (y := { s.stringAt n with line := .idle }) rfl b

theorem State.hot_of_contexts (h : t.contexts = s.contexts) (n a : Nat) : t.hot n a = s.hot n a := by
  rw [State.hot, State.contextOfModule_of_contexts h, State.hot]

/-- An advisory about a module fills a spare entry (R153). -/
theorem State.offerModule_of_spare (hrun : s.inRun = true) (hspare : 0 < s.jw.spare) (kind : RecordKind) (cause : Cause) :
    s.offerModule n a kind cause =
      s.appendItem (.advisory (s.advisory kind cause (s.slotOfModule n a) (moduleLocator n a))) := by
  rw [State.offerModule, if_pos hrun, State.offer_of_spare hspare]

theorem State.offerModule_of_notInRun (hrun : s.inRun = false) (kind : RecordKind) (cause : Cause) :
    s.offerModule n a kind cause = s := if_neg (by simp [hrun])

theorem State.Undamaged.setString (h : s.Undamaged) (n : Nat) (x : StringCtl) : (s.setString n x).Undamaged :=
  h.of_tables rfl rfl

theorem State.Undamaged.offerModule (h : s.Undamaged) (n a : Nat) (k : RecordKind) (cause : Cause) :
    (s.offerModule n a k cause).Undamaged := h.of_tables (by simp) (by simp)

theorem State.Unpinned.kick {ci : Nat} (h : s.Unpinned ci) : s.kick.Unpinned ci := by
  intro d hd
  cases hc : s.contextAt ci with
  | none => exact nomatch (State.contextAt_none_of_lasting s.kick_lasting hc).symm.trans hd
  | some c =>
    obtain ⟨x, hx⟩ := State.contextAt_of_lasting s.kick_lasting hc
    obtain rfl := Option.some.inj (hx.symm.trans hd)
    exact h c hc

end States

/-! ### The sweep through the taking up of the lines -/

/-- The sweep of a controller is written. -/
def State.withSweep (s : State) (n : Nat) (w : Option Sweep) : State := s.setString n { s.stringAt n with sweep := w }

section Sweep

variable {s : State} {n : Nat}

theorem State.withSweep_stringAt (h : n < s.strings.length) (w : Option Sweep) :
    (s.withSweep n w).stringAt n = { s.stringAt n with sweep := w } := s.stringAt_setString_self n _ h

theorem State.withSweep_self (h : n < s.strings.length) {w : Option Sweep} (hw : (s.stringAt n).sweep = w) :
    s.withSweep n w = s := by
  subst hw
  have hself : s.strings.set n (s.stringAt n) = s.strings := by
    rw [State.stringAt, List.getD_eq_getElem _ _ h, List.set_getElem_self]
  rw [State.withSweep, State.setString, hself]
  rfl

theorem State.link_withSweep (h : n < s.strings.length) (w : Option Sweep) (a : Nat) : (s.withSweep n w).link n a = s.link n a :=
  s.link_setString h (y := { s.stringAt n with sweep := w }) rfl a

theorem StringCtl.course_eq {x y : StringCtl} {due : List Broadcast} (h : x.course = { y.course with due := due }) :
    x.mode = y.mode ∧ x.modeTimer = y.modeTimer ∧ x.purpose = y.purpose ∧ x.sweep = y.sweep ∧ x.due = due ∧
      x.dormancyTimer = y.dormancyTimer ∧ x.dormancyDue = y.dormancyDue := by
  simpa [StringCtl.course] using h

/-- A survey or attention sweep that stands at an address up to the ceiling goes on there as the lines are taken up (R78, R82). -/
theorem State.Sweeping.kick (h : s.Sweeping n) (hn : n < 4) (hs : s.strings.length = 4) {w : Sweep}
    (hsweep : (s.stringAt n).sweep = some w) (hw : w.address ≤ (s.stringAt n).ceiling) :
    (s.kick.stringAt n).sweep = some w ∧ s.kick.Sweeping n ∧ (s.kick.stringAt n).ceiling = (s.stringAt n).ceiling := by
  obtain ⟨t, hlasting, -, hat, hkick⟩ := s.kick_stringAt hn
  have hsweeping : t.Sweeping n := by rwa [State.Sweeping, hat, State.anyHot_of_lasting hlasting]
  have hgoes : t.endSweep n = t := by simp [State.endSweep, hat, hsweep, Nat.not_lt.2 hw]
  have hlt : n < t.strings.length := by rw [State.stringCount_of_lasting hlasting, hs]; exact hn
  obtain ⟨due, hcourse⟩ := State.runLine_course hsweeping.settleMode hgoes hlt
  rw [← hkick, hat] at hcourse
  obtain ⟨hmode, -, -, hkept, -, -, hdormancy⟩ := StringCtl.course_eq hcourse
  refine ⟨hkept.trans hsweep, ?_, ?_⟩
  · rwa [State.Sweeping, hmode, hdormancy, State.anyHot_of_lasting s.kick_lasting]
  · rw [StringCtl.ceiling, State.items_of_lasting s.kick_lasting, StringCtl.ceiling]

/-- So does a sweep that has been moved on (R78, R82). -/
theorem State.kick_withSweep (hn : n < 4) (hs : s.strings.length = 4) {w : Sweep} (hw : w.address ≤ (s.stringAt n).ceiling)
    (h : (s.stringAt n).mode = .surveying ∨ ((s.stringAt n).mode = .quiet ∧ (s.withSweep n (some w)).kick.anyHot n = false ∧
      (s.stringAt n).dormancyDue = false)) :
    ((s.withSweep n (some w)).kick.stringAt n).sweep = some w ∧ (s.withSweep n (some w)).kick.Sweeping n ∧
      ((s.withSweep n (some w)).kick.stringAt n).ceiling = (s.stringAt n).ceiling := by
  have hat := State.withSweep_stringAt (s := s) (lt_of_lt_of_eq hn hs.symm) (some w)
  have hsweeping : (s.withSweep n (some w)).Sweeping n := by
    rw [State.anyHot_of_lasting (State.kick_lasting _)] at h
    rwa [State.Sweeping, hat]
  have hgoes := hsweeping.kick hn ((State.setString_length s n _).trans hs) (w := w) (by rw [hat]) (by rw [hat]; exact hw)
  rwa [hat] at hgoes

end Sweep

/-! ### The drop of a set and the loss of a module where no pick is deferred -/

section Module

variable {s : State} {n a ci : Nat} {c : Context}

/-- A pending set is dropped, and a DRAINING context freed that is dark then or of a LOST module (R24, R42, R75). -/
theorem State.dropPending_of_noDeferred (h : s.pm.deferred = []) (hm : s.contextOfModule n a = some ci)
    (hc : s.contextAt ci = some c) : s.dropPending n a = s.setContext ci
      (if c.claims = [] ∧ (c.displayed.faces = [] ∨ (s.link n a).presence = .lost) then none
        else some { c with pending := none }) := by
  obtain ⟨d, hd, rfl, rfl⟩ := State.contextAt_of_contextOfModule hm
  obtain rfl := Option.some.inj (hd.symm.trans hc)
  have hfree := s.freeable_iff { d with pending := none }
  simp only [and_true] at hfree
  simp only [State.dropPending, hm, hd, State.reportContext_of_noDeferred h (State.lt_of_contextAt hd), hfree]

/-- With claims left only the pending set goes (R24, R42). -/
theorem State.dropPending_of_claims (hm : s.contextOfModule n a = some ci) (hc : s.contextAt ci = some c) (hne : c.claims ≠ []) :
    s.dropPending n a = s.setContext ci (some { c with pending := none }) := by
  have hset := s.contextAt_setContext_self ci (some { c with pending := none }) (State.lt_of_contextAt hc)
  have hfree : (s.setContext ci (some { c with pending := none })).freeable { c with pending := none } = false := by
    rw [← Bool.not_eq_true, State.freeable_iff]
    exact fun h => hne h.1
  simp only [State.dropPending, hm, hc, State.reportContext, State.releaseContext, hset, hfree]
  rfl

/-- The loss of a module takes no free entry (R22, R87). -/
theorem State.reportLost_contextAt_none (h : s.pm.deferred = []) (hc : s.contextAt ci = none) (n a : Nat) :
    (s.reportLost n a).contextAt ci = none := by
  have hset {t : State} {cj : Nat} {x : Option Context} (hne : cj ≠ ci) (ht : t.contextAt ci = none) :
      (t.setContext cj x).contextAt ci = none := (t.contextAt_setContext_of_ne cj ci x hne).trans ht
  unfold State.reportLost
  split
  · next cj hcj =>
    obtain ⟨d, hd, -⟩ := State.contextAt_of_contextOfModule hcj
    have hne : cj ≠ ci := by
      rintro rfl
      exact nomatch hd.symm.trans hc
    rw [hd]
    dsimp only
    split
    · have hfree {t : State} (ht : t.contextAt ci = none) : (t.settleContext cj).contextAt ci = none := by
        unfold State.settleContext
        split
        · split
          · exact hset hne ht
          · exact ht
        · exact ht
      have hdeferred (x : Option Context) : ((s.setContext cj x).settleContext cj).pm.deferred = [] := by
        unfold State.settleContext
        split
        · split <;> exact h
        · exact h
      rw [State.placementPass_of_noDeferred (hdeferred _)]
      exact hfree (hset hne hc)
    · unfold State.releaseContext
      split
      · split
        · rw [State.placementPass_of_noDeferred (s := s.setContext cj none) h]
          exact hset hne hc
        · exact hc
      · exact hc
  · exact hc

section Lost

variable (h : s.pm.deferred = []) (hlost : (s.link n a).presence = .lost) (hm : s.contextOfModule n a = some ci)
  (hc : s.contextAt ci = some c)
include hm hc

omit hlost in
include h in
theorem State.reportLost_of_noDeferred : s.reportLost n a =
    if c.pin.isSome then (s.setContext ci (some (c.endPin s.pm.lanes s.paused))).settleContext ci else s.settleContext ci := by
  have hpass {t : State} (ht : t.pm = s.pm) : t.placementPass = t := State.placementPass_of_noDeferred (by rw [ht, h])
  have hsettle (t : State) : (t.settleContext ci).pm = t.pm := by
    unfold State.settleContext
    repeat' split
    all_goals rfl
  simp only [State.reportLost, hm, hc]
  split
  · exact hpass (hsettle _)
  · simp only [State.releaseContext, State.settleContext, hc]
    split
    · exact hpass rfl
    · rfl

include hlost in
/-- The context of a LOST module may be freed once it has no claim (R24). -/
theorem State.freeable_of_lost {t : State} (ht : t.strings = s.strings) {d : Context} (hd : d.atlas = c.atlas) :
    t.freeable d = true ↔ d.claims = [] := by
  obtain ⟨e, he, rfl, rfl⟩ := State.contextAt_of_contextOfModule hm
  obtain rfl := Option.some.inj (he.symm.trans hc)
  have hlink : (t.link d.atlas.string d.atlas.address).presence = .lost := by
    rw [hd, State.link_of_stringAt (State.stringAt_of_strings ht _), hlost]
  simp [State.freeable_iff, hlink]

include h hlost

/-- The loss of a module frees its context in DRAINING (R24, R87). -/
theorem State.reportLost_contextAt_of_draining (hclaims : c.claims = []) : (s.reportLost n a).contextAt ci = none := by
  have hlt := State.lt_of_contextAt hc
  have hatlas : (c.endPin s.pm.lanes s.paused).atlas = c.atlas := Context.rebuild_atlas _ _ _
  rw [State.reportLost_of_noDeferred h hm hc]
  split
  · rw [State.settleContext_of_freeable (s.contextAt_setContext_self ci _ hlt)
      ((State.freeable_of_lost hlost hm hc rfl hatlas).2 (by simpa [Context.endPin] using hclaims)), State.setContext_setContext]
    exact s.contextAt_setContext_self ci none hlt
  · rw [State.settleContext_of_freeable hc ((State.freeable_of_lost hlost hm hc rfl rfl).2 hclaims)]
    exact s.contextAt_setContext_self ci none hlt

/-- The loss of a module leaves its context with the claims, and without a pin (R26, R87). -/
theorem State.reportLost_contextAt_of_claims (hclaims : c.claims ≠ []) : ∃ d, (s.reportLost n a).contextAt ci = some d ∧
    d.atlas = c.atlas ∧ d.claims = c.claims ∧ d.displayed = c.displayed ∧ d.pending = c.pending ∧ d.pin = none := by
  have hset := s.contextAt_setContext_self ci (some (c.endPin s.pm.lanes s.paused)) (State.lt_of_contextAt hc)
  have hatlas : (c.endPin s.pm.lanes s.paused).atlas = c.atlas := Context.rebuild_atlas _ _ _
  rw [State.reportLost_of_noDeferred h hm hc]
  split
  · have hkept : (c.endPin s.pm.lanes s.paused).claims = c.claims := Context.rebuild_claims _ _ _
    rw [State.settleContext_of_not_freeable hset (by
      rw [← Bool.not_eq_true, State.freeable_of_lost (t := s.setContext ci _) hlost hm hc rfl hatlas, hkept]; exact hclaims)]
    exact ⟨_, hset, hatlas, hkept, Context.rebuild_displayed _ _ _, Context.rebuild_pending _ _ _, c.endPin_pin _ _⟩
  · next hpin =>
    rw [State.settleContext_of_not_freeable hc (by
      rw [← Bool.not_eq_true, State.freeable_of_lost hlost hm hc rfl rfl]; exact hclaims)]
    exact ⟨c, hc, rfl, rfl, rfl, rfl, by simpa using hpin⟩

end Lost

end Module

end Sys2Proof.Machine
end

section
/-! Proofs of the family of 04 (lamp strings), seventh part: exchanges that end without a valid reply (R75, R78, R87, R88). -/

namespace Sys2Proof.Machine

/-! ### The per-address state after a miss -/

/-- A miss is counted, up to 3 (R75). -/
def ModuleLink.counted (m : ModuleLink) : ModuleLink := { m with misses := min 3 (m.misses + 1) }

/-- The module is LOST (R87). -/
def ModuleLink.lost (m : ModuleLink) : ModuleLink := { m with presence := .lost, misses := 3 }

/-- A miss takes a hot module to LOST (R87). -/
def ModuleLink.loses (m : ModuleLink) : Bool := decide (2 ≤ m.misses) && m.presence != .lost

theorem ModuleLink.loses_iff (m : ModuleLink) : m.loses = true ↔ 2 ≤ m.misses ∧ m.presence ≠ .lost := by
  simp [ModuleLink.loses]

/-- The per-address state of a hot module after a miss (R75, R87). -/
def ModuleLink.missHot (m : ModuleLink) : ModuleLink :=
  { m with misses := min 3 (m.misses + 1), presence := if 2 ≤ m.misses then .lost else m.presence }

theorem ModuleLink.missHot_of_loses {m : ModuleLink} (h : m.loses = true) : m.missHot = m.counted.lost := by
  obtain ⟨hmisses, -⟩ := m.loses_iff.1 h
  have hmin : min 3 (m.misses + 1) = 3 := by omega
  rw [ModuleLink.missHot, hmin, if_pos hmisses]
  rfl

theorem ModuleLink.missHot_of_stays {m : ModuleLink} (h : ¬m.loses = true) : m.missHot = m.counted := by
  rw [m.loses_iff, not_and_not_right] at h
  by_cases hmisses : 2 ≤ m.misses
  · rw [ModuleLink.missHot, if_pos hmisses, ← h hmisses]
    rfl
  · rw [ModuleLink.missHot, if_neg hmisses]
    rfl

theorem ModuleLink.missCold_of_lost {m : ModuleLink} (h : m.presence = .lost) (sweep : Bool) :
    m.missCold sweep = { m with presence := if sweep then .absent else .lost } := by
  obtain ⟨presence, last, misses, noted, due⟩ := m
  obtain rfl : presence = .lost := h
  cases sweep <;> rfl

theorem ModuleLink.missCold_of_other {m : ModuleLink} (h : m.presence ≠ .lost) (sweep : Bool) :
    m.missCold sweep = { m with presence := .absent } := by
  unfold ModuleLink.missCold
  split
  · rfl
  · rfl
  · exact absurd ‹_› h
  · next habsent => exact habsent ▸ rfl

/-! ### The two parts of a miss on a hot module -/

/-- The miss is counted, and the set of a FACES dropped (R75). -/
def State.countMiss (s : State) (n a : Nat) (kind : ExchangeKind) : State :=
  let t := s.setLink n a (s.link n a).counted
  if kind == .faces then t.dropPending n a else t

theorem State.missHot_eq (s : State) (n a : Nat) (kind : ExchangeKind) : s.missHot n a kind =
    if (s.link n a).loses then (s.countMiss n a kind).becomeLost n a else s.countMiss n a kind := rfl

theorem State.becomeLost_eq (s : State) (n a : Nat) : s.becomeLost n a =
    ((s.setLink n a (s.link n a).lost).reportLost n a).offerModule n a .moduleLost .misses := rfl

/-- The per-address state of a module after a miss (R75, R87, R88). -/
def State.linkMissed (s : State) (n a : Nat) (sweep : Bool) : ModuleLink :=
  if s.hot n a then (s.link n a).missHot else (s.link n a).missCold sweep

section Missed

variable {s : State} (hs : s.Undamaged) {n a : Nat} (kind : ExchangeKind)
include hs

theorem State.countMiss_tableWork : (s.setLink n a (s.link n a).counted).TableWork (s.countMiss n a kind) := by
  have hset : (s.setLink n a (s.link n a).counted).Undamaged := hs.setString n _
  unfold State.countMiss
  dsimp only
  split
  · exact hset.tableWork_dropPending n a
  · exact hset.tableWork

theorem State.lost_tableWork :
    (s.setLink n a (s.link n a).lost).TableWork ((s.setLink n a (s.link n a).lost).reportLost n a) :=
  State.Undamaged.tableWork_reportLost (hs.setString n _) n a

/-- Of its string a miss writes the per-address state of the module that missed (R75, R87, R88). -/
theorem State.handleMiss_stringAt (hn : n < s.strings.length) (sweep : Bool) (ha : 1 ≤ a)
    (hlen : a ≤ (s.stringAt n).modules.length) :
    (s.handleMiss n a kind sweep).stringAt n = (s.stringAt n).setLink a (s.linkMissed n a sweep) := by
  have htable := s.countMiss_tableWork hs (n := n) (a := a) kind
  have hcount : (s.countMiss n a kind).stringAt n = (s.stringAt n).setLink a (s.link n a).counted :=
    (htable.stringAt n).trans (State.setLink_stringAt hn _)
  have hlt : n < (s.countMiss n a kind).strings.length := by
    rw [htable.strings]
    exact lt_of_lt_of_eq hn (s.setString_length n _).symm
  unfold State.handleMiss State.linkMissed
  split
  · rw [State.missHot_eq]
    split
    · next hloses =>
      rw [State.becomeLost_eq, State.stringAt_of_strings (State.offerModule_strings _ _ _ _ _),
        (State.lost_tableWork htable.undamaged).stringAt, State.setLink_stringAt hlt, State.link, hcount,
        StringCtl.link_setLink_self _ _ ha hlen, StringCtl.setLink_setLink, ModuleLink.missHot_of_loses hloses]
    · next hstays => rw [hcount, ModuleLink.missHot_of_stays hstays]
  · exact State.setLink_stringAt hn _

/-- The third miss of a module is told (R87, R90). -/
theorem State.missHot_report (hrun : s.inRun = true) (hspare : 0 < s.jw.spare) (hloses : (s.link n a).loses = true) :
    ∃ rec, .advisory rec ∈ (s.missHot n a kind).jw.report ∧ rec.kind = .moduleLost ∧ rec.cause = .misses ∧
      rec.tag = locator n a 0 0 0 0 := by
  have hcount := s.countMiss_tableWork (n := n) (a := a) hs kind
  have hlost := State.lost_tableWork (n := n) (a := a) hcount.undamaged
  have hspared := lt_of_lt_of_eq hspare (hlost.spare.trans hcount.spare).symm
  rw [State.missHot_eq, if_pos hloses, State.becomeLost_eq,
    State.offerModule_of_spare ((hlost.inRun.trans hcount.inRun).trans hrun) hspared]
  exact ⟨_, List.mem_append_right _ (List.mem_singleton_self _), rfl, rfl, rfl⟩

/-- The loss of a module at its third miss ends its pin (R26, R87). -/
theorem State.missHot_unpinned {ci : Nat} (hm : s.contextOfModule n a = some ci) (hloses : (s.link n a).loses = true) :
    (s.missHot n a kind).Unpinned ci := by
  have hcount := (s.countMiss_tableWork (n := n) (a := a) hs kind).undamaged
  have hcases : (s.countMiss n a kind).Unpinned ci ∨ (s.countMiss n a kind).contextOfModule n a = some ci := by
    unfold State.countMiss
    dsimp only
    split
    · exact State.unpinned_dropPending (hs.setString n _) hm
    · exact .inr hm
  rw [State.missHot_eq, if_pos hloses]
  refine State.Unpinned.of_contexts ?_ (State.offerModule_contexts _ _ _ _ _)
  exact hcases.elim (fun hunpinned => State.Unpinned.reportLost (hcount.setString n _) hunpinned n a)
    fun hcontext => State.unpinned_reportLost (hcount.setString n _) hcontext

end Missed

/-! ### The context of a module that misses, where no pick is deferred -/

/-- What a miss leaves of a context that stands: a missed FACES drops its pending set (R75). -/
structure Context.Missed (c d : Context) (kind : ExchangeKind) : Prop where
  atlas : d.atlas = c.atlas
  claims : d.claims = c.claims
  displayed : d.displayed = c.displayed
  pending : kind = .faces → d.pending = none

section Context

variable {s : State} {n a ci : Nat} {c : Context} {kind : ExchangeKind} (hn : n < s.strings.length) (ha : 1 ≤ a)
  (hlen : a ≤ (s.stringAt n).modules.length) (hdeferred : s.pm.deferred = []) (hm : s.contextOfModule n a = some ci)
  (hc : s.contextAt ci = some c)
include hn ha hlen hdeferred hm hc

/-- The set of a missed FACES is dropped: a DRAINING context that is dark then, or of a LOST module, is freed (R24, R75). -/
theorem State.countMiss_of_freed (hclaims : c.claims = [])
    (hfrees : kind = .faces ∧ (c.displayed.faces = [] ∨ (s.link n a).presence = .lost)) :
    (s.countMiss n a kind).contextAt ci = none ∧ (s.countMiss n a kind).pm.deferred = [] := by
  obtain ⟨rfl, hdark⟩ := hfrees
  have hpresence : ((s.setLink n a (s.link n a).counted).link n a).presence = (s.link n a).presence := by
    rw [State.link, State.setLink_stringAt hn, StringCtl.link_setLink_self _ _ ha hlen]
    rfl
  have hdrop := State.dropPending_of_noDeferred (s := s.setLink n a (s.link n a).counted) hdeferred hm hc
  rw [hpresence, if_pos ⟨hclaims, hdark⟩] at hdrop
  change ((s.setLink n a (s.link n a).counted).dropPending n a).contextAt ci = none ∧
    ((s.setLink n a (s.link n a).counted).dropPending n a).pm.deferred = []
  rw [hdrop]
  exact ⟨State.contextAt_setContext_self _ ci _ (State.lt_of_contextAt hc), hdeferred⟩

/-- A context that the drop of the set does not free stands (R24, R75). -/
theorem State.countMiss_of_kept
    (hkept : ¬(c.claims = [] ∧ kind = .faces ∧ (c.displayed.faces = [] ∨ (s.link n a).presence = .lost))) :
    (s.countMiss n a kind).pm.deferred = [] ∧ (s.countMiss n a kind).contextOfModule n a = some ci ∧
      ∃ d, (s.countMiss n a kind).contextAt ci = some d ∧ c.Missed d kind ∧ d.pin = c.pin := by
  have hpresence : ((s.setLink n a (s.link n a).counted).link n a).presence = (s.link n a).presence := by
    rw [State.link, State.setLink_stringAt hn, StringCtl.link_setLink_self _ _ ha hlen]
    rfl
  have hdrop := State.dropPending_of_noDeferred (s := s.setLink n a (s.link n a).counted) hdeferred hm hc
  rw [hpresence] at hdrop
  unfold State.countMiss
  dsimp only
  by_cases hkind : kind = .faces
  · rw [if_pos (beq_iff_eq.2 hkind), hdrop, if_neg fun h => hkept ⟨h.1, hkind, h.2⟩]
    refine ⟨hdeferred, (State.findContext_setContext (s := s.setLink n a _) (d := { c with pending := none }) hc rfl).trans hm, _,
      State.contextAt_setContext_self _ ci _ (State.lt_of_contextAt hc), ⟨rfl, rfl, rfl, fun _ => rfl⟩, rfl⟩
  · rw [if_neg (by simpa using hkind)]
    exact ⟨hdeferred, hm, c, hc, ⟨rfl, rfl, rfl, fun h => absurd h hkind⟩, rfl⟩

/-- The context of a hot module that misses stands with its claims, or is freed (R24, R75, R87). -/
theorem State.missHot_contextAt (hs : s.Undamaged) :
    let m := s.link n a
    let loses := 2 ≤ m.misses ∧ m.presence ≠ .lost
    let frees := loses ∨ (kind = .faces ∧ (c.displayed.faces = [] ∨ m.presence = .lost))
    (c.claims ≠ [] ∨ ¬frees → ∃ d, (s.missHot n a kind).contextAt ci = some d ∧ c.Missed d kind ∧
        d.pin = if loses then none else c.pin) ∧
      (c.claims = [] → frees → (s.missHot n a kind).contextAt ci = none) := by
  intro m loses frees
  have hloses : m.loses = true ↔ loses := m.loses_iff
  have htable := s.countMiss_tableWork hs (n := n) (a := a) kind
  have hcount : (s.countMiss n a kind).stringAt n = (s.stringAt n).setLink a m.counted :=
    (htable.stringAt n).trans (State.setLink_stringAt hn _)
  have hlost : (((s.countMiss n a kind).setLink n a ((s.countMiss n a kind).link n a).lost).link n a).presence = .lost := by
    have hlt : n < (s.countMiss n a kind).strings.length := by
      rw [htable.strings]
      exact lt_of_lt_of_eq hn (s.setString_length n _).symm
    rw [State.link, State.setLink_stringAt hlt, StringCtl.link_setLink_self _ _ ha (by rw [hcount]; simpa using hlen)]
    rfl
  have htold (t : State) : (t.offerModule n a .moduleLost .misses).contextAt ci = t.contextAt ci :=
    State.contextAt_of_contexts (State.offerModule_contexts _ _ _ _ _) ci
  rw [State.missHot_eq]
  by_cases hfreed : c.claims = [] ∧ kind = .faces ∧ (c.displayed.faces = [] ∨ m.presence = .lost)
  · obtain ⟨hclaims, hfrees⟩ := hfreed
    obtain ⟨hnone, hstill⟩ := State.countMiss_of_freed hn ha hlen hdeferred hm hc hclaims hfrees
    refine ⟨fun h => absurd (.inr hfrees : frees) (h.resolve_left (not_not.2 hclaims)), fun _ _ => ?_⟩
    split
    · rw [State.becomeLost_eq, htold]
      exact State.reportLost_contextAt_none (s := State.setLink _ _ _ _) hstill hnone n a
    · exact hnone
  · obtain ⟨hstill, hcontext, d, hd, hmissed, hpin⟩ := State.countMiss_of_kept hn ha hlen hdeferred hm hc hfreed
    by_cases hl : loses
    · rw [if_pos (hloses.2 hl), State.becomeLost_eq, htold, if_pos hl]
      constructor
      · intro h
        have hclaims : d.claims ≠ [] := by rw [hmissed.claims]; exact h.resolve_right (not_not.2 (.inl hl))
        obtain ⟨e, he, hatlas, hclaims, hdisplayed, hpending, hpin⟩ :=
          State.reportLost_contextAt_of_claims (s := State.setLink _ _ _ _) hstill hlost hcontext hd hclaims
        exact ⟨e, he, ⟨hatlas.trans hmissed.atlas, hclaims.trans hmissed.claims, hdisplayed.trans hmissed.displayed,
          fun hk => hpending.trans (hmissed.pending hk)⟩, hpin⟩
      · intro hclaims _
        exact State.reportLost_contextAt_of_draining (s := State.setLink _ _ _ _) hstill hlost hcontext hd
          (hmissed.claims.trans hclaims)
    · rw [if_neg (fun h => hl (hloses.1 h)), if_neg hl]
      exact ⟨fun _ => ⟨d, hd, hmissed, hpin⟩, fun hclaims hfrees => absurd ⟨hclaims, hfrees.resolve_left hl⟩ hfreed⟩

end Context

/-! ### The sweep after a miss -/

/-- A survey or sweep after a miss: the hot module is polled again, or the next address is taken (R78). -/
def Sweep.missed (w : Sweep) (again : Bool) : Sweep :=
  if again && decide (w.tries + 1 < 3) then { w with tries := w.tries + 1 }
  else { w with address := w.address + 1, tries := 0, dark := false }

theorem Sweep.missed_of_again {w : Sweep} {again : Bool} (h : again = true ∧ w.tries < 2) :
    w.missed again = { w with tries := w.tries + 1 } := by
  obtain ⟨rfl, htries⟩ := h
  exact if_pos (by simpa using by omega)

theorem Sweep.missed_of_next {w : Sweep} {again : Bool} (h : ¬(again = true ∧ w.tries < 2)) :
    w.missed again = { w with address := w.address + 1, tries := 0, dark := false } := by
  refine if_neg fun hagain => h ?_
  simp only [Bool.and_eq_true, decide_eq_true_eq] at hagain
  exact ⟨hagain.1, by omega⟩

theorem State.sweepMissed_eq {s : State} {n : Nat} (hn : n < s.strings.length) (a : Nat) (kind : ExchangeKind) :
    s.sweepMissed n a kind = s.withSweep n ((s.stringAt n).sweep.map fun w => w.missed (kind == .poll && s.hot n a)) := by
  unfold State.sweepMissed
  dsimp only
  split
  · next hw => rw [hw]; rfl
  · next hw => rw [State.withSweep_self hn (by rw [hw]; rfl)]

/-! ### The exchange that is missed -/

/-- On tables of good parity the exchange that ends without a reply is a miss (R75). -/
theorem exec_exchangeMiss {s : State} {n : Fin 4} {a : Nat} {kind : ExchangeKind} {sweep : Bool} (hi : s.Intact)
    (hline : (s.stringAt n).line = .exchange a kind sweep 0) :
    exec (.exchangeMiss n) s = .next (s.exchangeMissed n a kind sweep) := by
  refine congrArg Host.Outcome.next ?_
  simp only [State.exchangeMiss, StringCtl.ending, hline, s.checkContexts_of_intact hi.undamaged.contexts]

/-- Bytes that are no valid reply are a miss (R75). -/
theorem exec_moduleReply_of_invalid {s : State} {n : Fin 4} {a : Nat} {kind : ExchangeKind} {sweep : Bool} {frame : List Byte}
    (hline : (s.stringAt n).line = .exchange a kind sweep 0) (hframe : decodeReply a frame = none) :
    exec (.moduleReply n frame) s = exec (.exchangeMiss n) s := by
  refine congrArg Host.Outcome.next ?_
  simp only [State.moduleReply, State.exchangeMiss, StringCtl.ending, hline, hframe]

/-- The miss and its sweep, before the lines are taken up. -/
def State.missed (s : State) (n a : Nat) (kind : ExchangeKind) (sweep : Bool) : State :=
  let t := (s.endLine n).handleMiss n a kind sweep
  if sweep then t.sweepMissed n a kind else t

theorem State.exchangeMissed_eq (s : State) (n a : Nat) (kind : ExchangeKind) (sweep : Bool) :
    s.exchangeMissed n a kind sweep = (s.missed n a kind sweep).kick := rfl

section Exchange

variable {s : State} {n : Fin 4} {a : Nat} {kind : ExchangeKind} {sweep : Bool}

theorem State.handleMiss_endLine_length (hs : s.Shape) :
    ((s.endLine n).handleMiss n a kind sweep).strings.length = 4 := by
  rw [State.stringCount_of_frame (State.handleMiss_frame _ _ _ _ _), State.endLine, State.setString_length, hs.strings_length]

theorem State.missed_eq (s : State) (hs : s.Shape) (n : Fin 4) (a : Nat) (kind : ExchangeKind) (sweep : Bool) :
    ∃ w, s.missed n a kind sweep = ((s.endLine n).handleMiss n a kind sweep).withSweep n w := by
  have hlt : (n : Nat) < ((s.endLine n).handleMiss n a kind sweep).strings.length :=
    lt_of_lt_of_eq n.isLt (State.handleMiss_endLine_length hs).symm
  unfold State.missed
  dsimp only
  split
  · exact ⟨_, State.sweepMissed_eq hlt a kind⟩
  · exact ⟨_, (State.withSweep_self hlt rfl).symm⟩

variable (hi : s.Intact) (hs : s.Shape)
include hs

theorem State.missed_contexts : (s.missed n a kind sweep).contexts = ((s.endLine n).handleMiss n a kind sweep).contexts := by
  obtain ⟨w, hw⟩ := s.missed_eq hs n a kind sweep
  rw [hw]
  rfl

theorem State.missed_report : (s.missed n a kind sweep).jw = ((s.endLine n).handleMiss n a kind sweep).jw := by
  obtain ⟨w, hw⟩ := s.missed_eq hs n a kind sweep
  rw [hw]
  rfl

theorem State.missed_strings_length : (s.missed n a kind sweep).strings.length = 4 := by
  obtain ⟨w, hw⟩ := s.missed_eq hs n a kind sweep
  rw [hw, State.withSweep, State.setString_length, State.handleMiss_endLine_length hs]

include hi

/-- The string of the module as the miss is taken: its line is idle and the per-address state written (R75). -/
theorem State.handleMiss_endLine (ha : 1 ≤ a) (htop : a ≤ 120) : ((s.endLine n).handleMiss n a kind sweep).stringAt n =
    StringCtl.setLink { s.stringAt n with line := .idle } a (s.linkMissed n a sweep) := by
  have hn := hs.lt_strings n
  have hidle := State.endLine_stringAt hn
  have hundamaged : (s.endLine n).Undamaged := hi.undamaged.setString n _
  rw [State.handleMiss_stringAt hundamaged kind (lt_of_lt_of_eq hn (s.setString_length n _).symm) sweep ha
    (by rw [hidle]; exact le_of_le_of_eq htop (hs.modules_length n).symm), hidle, State.linkMissed, State.link_endLine hn]
  rfl

/-- An exchange that is missed writes the per-address state of its module and no other (R75). -/
theorem State.missed_link (ha : 1 ≤ a) (htop : a ≤ 120) (b : Nat) : (s.missed n a kind sweep).kick.link n b =
    if b = a then s.linkMissed n a sweep else s.link n b := by
  obtain ⟨w, hw⟩ := s.missed_eq hs n a kind sweep
  have hlt : (n : Nat) < ((s.endLine n).handleMiss n a kind sweep).strings.length :=
    lt_of_lt_of_eq n.isLt (State.handleMiss_endLine_length hs).symm
  rw [State.link_of_lasting (State.kick_lasting _), hw, State.link_withSweep hlt, State.link,
    State.handleMiss_endLine hi hs ha htop]
  split
  · next hb =>
    subst hb
    exact StringCtl.link_setLink_self _ _ ha (le_of_le_of_eq htop (hs.modules_length n).symm)
  · next hb => exact StringCtl.link_setLink_of_ne _ _ hb

omit hi in
/-- Of a hot module the exchange that is missed leaves the contexts that the miss leaves (R78). -/
theorem State.missed_contexts_of_hot {ci : Nat} (hm : s.contextOfModule n a = some ci) :
    (s.missed n a kind sweep).contexts = ((s.endLine n).missHot n a kind).contexts := by
  have hhot : (s.endLine n).hot n a = true := Option.isSome_iff_exists.2 ⟨ci, hm⟩
  rw [State.missed_contexts hs, State.handleMiss, if_pos hhot]

/-- The third miss of a module is told as its exchange ends (R87, R90). -/
theorem State.missed_told (hhot : s.hot n a = true) (hmisses : (s.link n a).misses = 2) (hpresence : (s.link n a).presence ≠ .lost)
    (hrun : s.inRun = true) (hspare : 0 < s.jw.spare) :
    ∃ rec, .advisory rec ∈ (s.missed n a kind sweep).kick.jw.report ∧ rec.kind = .moduleLost ∧ rec.cause = .misses ∧
      rec.tag = locator n a 0 0 0 0 := by
  have hundamaged : (s.endLine n).Undamaged := hi.undamaged.setString n _
  have hloses : ((s.endLine n).link n a).loses = true := by
    rw [State.link_endLine (hs.lt_strings n), ModuleLink.loses_iff]
    exact ⟨hmisses.ge, hpresence⟩
  obtain ⟨rec, hmem, htold⟩ := State.missHot_report hundamaged kind hrun hspare hloses
  have hmissHot : (s.endLine n).handleMiss n a kind sweep = (s.endLine n).missHot n a kind := if_pos hhot
  refine ⟨rec, (State.kick_report _).subset ?_, htold⟩
  rw [State.missed_report hs, hmissHot]
  exact hmem

/-- The loss of a module ends its pin (R26, R87). -/
theorem State.missed_unpinned {ci : Nat} (hm : s.contextOfModule n a = some ci)
    (hloses : 2 ≤ (s.link n a).misses ∧ (s.link n a).presence ≠ .lost) : (s.missed n a kind sweep).kick.Unpinned ci := by
  have hundamaged : (s.endLine n).Undamaged := hi.undamaged.setString n _
  rw [← ModuleLink.loses_iff, ← State.link_endLine (hs.lt_strings n)] at hloses
  exact ((State.missHot_unpinned hundamaged kind hm hloses).of_contexts (State.missed_contexts_of_hot hs hm)).kick

/-- The context of the module stands with its claims, or is freed, where no pick is deferred (R24, R75, R87). -/
theorem State.missed_context (ha : 1 ≤ a) (htop : a ≤ 120) (hdeferred : s.pm.deferred = []) {ci : Nat} {c : Context}
    (hm : s.contextOfModule n a = some ci) (hc : s.contextAt ci = some c) :
    let loses := 2 ≤ (s.link n a).misses ∧ (s.link n a).presence ≠ .lost
    let frees := loses ∨ (kind = .faces ∧ (c.displayed.faces = [] ∨ (s.link n a).presence = .lost))
    let t := (s.missed n a kind sweep).kick
    (c.claims ≠ [] ∨ ¬frees → ∃ d, t.contextAt ci = some d ∧ d.claims = c.claims ∧ d.displayed = c.displayed ∧
        d.pin = (if loses then none else c.pin) ∧
        (kind = .faces → d.pending = none ∨ (t.stringAt n).line = .exchange a .faces false 2)) ∧
      (c.claims = [] → frees → t.contextAt ci = none) := by
  intro loses frees t
  have hn := hs.lt_strings n
  have hmodules : a ≤ ((s.endLine n).stringAt n).modules.length := by
    rw [State.endLine_stringAt hn]
    exact le_of_le_of_eq htop (hs.modules_length n).symm
  obtain ⟨hstands, hfrees⟩ := State.missHot_contextAt (s := s.endLine n) (kind := kind)
    (lt_of_lt_of_eq hn (s.setString_length n _).symm) ha hmodules hdeferred hm hc (hi.undamaged.setString n _)
  rw [State.link_endLine hn] at hstands hfrees
  have hmissed := State.contextAt_of_contexts (State.missed_contexts_of_hot hs (kind := kind) (sweep := sweep) hm) ci
  constructor
  · intro h
    obtain ⟨d, hd, hkept, hpin⟩ := hstands h
    rw [← hmissed] at hd
    obtain ⟨x, hx⟩ := State.contextAt_of_lasting (State.kick_lasting _) hd
    refine ⟨_, hx, hkept.claims, hkept.displayed, hpin, fun hkind => ?_⟩
    obtain hleaves | hline := State.kick_contextAt (State.missed_strings_length hs) hd
    · rw [hx, hd, Option.some.injEq] at hleaves
      exact .inl ((congrArg Context.pending hleaves).trans (hkept.pending hkind))
    · obtain ⟨e, he, hstring, haddress⟩ := State.contextAt_of_contextOfModule hm
      obtain rfl := Option.some.inj (he.symm.trans hc)
      rw [hkept.atlas, hstring, haddress] at hline
      exact .inr hline
  · intro hclaims h
    exact State.contextAt_none_of_lasting (State.kick_lasting _) (hmissed.trans (hfrees hclaims h))

/-- A survey or sweep goes on behind a miss up to its ceiling (R78, R82). -/
theorem State.missed_sweep (ha : 1 ≤ a) (htop : a ≤ 120) {x : Sweep} (hx : (s.stringAt n).sweep = some x)
    (hmode : (s.stringAt n).mode = .surveying ∨ ((s.stringAt n).mode = .quiet ∧
      (s.missed n a kind true).kick.anyHot n = false ∧ (s.stringAt n).dormancyDue = false))
    (htop' : (x.missed (kind == .poll && (s.missed n a kind true).kick.hot n a)).address ≤ (s.stringAt n).ceiling) :
    ((s.missed n a kind true).kick.stringAt n).sweep =
      some (x.missed (kind == .poll && (s.missed n a kind true).kick.hot n a)) := by
  have hat := State.handleMiss_endLine (n := n) (kind := kind) (sweep := true) hi hs ha htop
  have hstrings : ((s.endLine n).handleMiss n a kind true).strings.length = 4 := State.handleMiss_endLine_length hs
  have hsweep : (((s.endLine n).handleMiss n a kind true).stringAt n).sweep = some x := by rw [hat, StringCtl.setLink_sweep, hx]
  have hhot : (s.missed n a kind true).kick.hot n a = ((s.endLine n).handleMiss n a kind true).hot n a := by
    rw [State.hot_of_lasting (State.kick_lasting _), State.hot_of_contexts (State.missed_contexts hs)]
  have hmissed : s.missed n a kind true = ((s.endLine n).handleMiss n a kind true).withSweep n
      (some (x.missed (kind == .poll && (s.missed n a kind true).kick.hot n a))) := by
    rw [hhot]
    exact (State.sweepMissed_eq (lt_of_lt_of_eq n.isLt hstrings.symm) a kind).trans (by rw [hsweep, Option.map_some])
  generalize x.missed (kind == .poll && (s.missed n a kind true).kick.hot n a) = w at hmissed htop' ⊢
  rw [hmissed] at hmode ⊢
  obtain ⟨hgoes, -⟩ := State.kick_withSweep n.isLt hstrings (w := w) (by rw [hat, StringCtl.setLink_ceiling]; exact htop')
    (by rw [hat, StringCtl.setLink_mode, StringCtl.setLink_dormancyDue]; exact hmode)
  exact hgoes

end Exchange

/-- Settles O42, by the two parts of a miss on a hot module: the count with the drop of the set, and the loss. -/
theorem missesAreCountedOrMakeAbsent : Obligations.MissesAreCountedOrMakeAbsent := by
  unfold Obligations.MissesAreCountedOrMakeAbsent
  intro s n a kind sweep hi hs hline ha htop m
  have hlink (b : Nat) := State.missed_link (n := n) (kind := kind) (sweep := sweep) hi hs ha htop b
  have hm := hlink a
  rw [if_pos rfl] at hm
  refine ⟨fun frame hframe => exec_moduleReply_of_invalid hline hframe, _, exec_exchangeMiss hi hline, fun b hb => ?_,
    fun hhot => ?_, State.missed_told hi hs, fun ci c hci hc => ?_, fun hcold hpresence => ?_,
    fun hcold hlost => ?_, fun x hsweep hx hmode => ?_⟩
  · exact (hlink b).trans (if_neg hb)
  · exact hm.trans (if_pos hhot)
  · intro loses frees
    exact ⟨State.missed_unpinned hi hs hci,
      fun hstands hdeferred => (State.missed_context hi hs ha htop hdeferred hci hc).1 hstands,
      fun hclaims hfrees hdeferred => (State.missed_context hi hs ha htop hdeferred hci hc).2 hclaims hfrees⟩
  · exact hm.trans ((if_neg (by simp [hcold])).trans (ModuleLink.missCold_of_other hpresence sweep))
  · exact hm.trans ((if_neg (by simp [hcold])).trans (ModuleLink.missCold_of_lost hlost sweep))
  · subst hsweep
    rw [State.exchangeMissed_eq] at hmode ⊢
    have hagain : (kind == .poll && (s.missed n a kind true).kick.hot n a) = true ↔
        kind = .poll ∧ (s.missed n a kind true).kick.hot n a = true := by simp
    have hgoes := State.missed_sweep (kind := kind) hi hs ha htop hx hmode
    split
    · next h =>
      rw [← and_assoc, ← hagain] at h
      rw [Sweep.missed_of_again h] at hgoes
      exact hgoes
    · next h =>
      rw [← and_assoc, ← hagain] at h
      rw [Sweep.missed_of_next h] at hgoes
      exact hgoes

end Sys2Proof.Machine
end

section
/-! Proofs of the family of 04 (lamp strings), eighth part: feed faults (R91). -/

namespace Sys2Proof.Machine

/-! ### The set of a FACES in flight -/

section InFlight

variable {s : State} {n : Nat}

theorem State.dropInFlight_of_faces {a left : Nat} {w : Bool} (h : (s.stringAt n).line = .exchange a .faces w left) :
    s.dropInFlight n = s.dropPending n a := by
  simp only [State.dropInFlight, h]

theorem State.dropInFlight_of_other (h : ∀ a w left, (s.stringAt n).line ≠ .exchange a .faces w left) :
    s.dropInFlight n = s := by
  unfold State.dropInFlight
  split
  · next hline => exact absurd hline (h _ _ _)
  · rfl

theorem State.Undamaged.tableWork_dropInFlight (hs : s.Undamaged) (n : Nat) : s.TableWork (s.dropInFlight n) := by
  unfold State.dropInFlight
  split
  · exact hs.tableWork_dropPending n _
  · exact hs.tableWork

end InFlight

/-! ### The light test or census that ends -/

/-- The part of a record that a feed fault fixes. -/
def OutcomeRecord.told (r : OutcomeRecord) : RecordKind × Cause × Word × BitVec 16 := (r.kind, r.cause, r.tag, r.confirmed)

/-- The closing advisory that a feed fault brings (R84, R85, R91). -/
def StringCtl.feedEnds (x : StringCtl) : List RecordKind :=
  if x.mode = .test ∨ (x.mode = .surveying ∧ x.purpose = some .test) then [.testDone]
  else if (x.mode = .surveying ∨ x.mode = .settling) ∧ x.purpose = some .census then [.censusDone] else []

section Closes

variable {s : State} {n : Nat}

theorem State.feedCloses_eq (s : State) (n : Nat) :
    (∃ k, (s.stringAt n).feedEnds = [k] ∧ s.feedCloses n = s.offerString n k .feedFault 0) ∨
      ((s.stringAt n).feedEnds = [] ∧ s.feedCloses n = s) := by
  unfold State.feedCloses
  split
  · next h => exact .inl ⟨_, by simp [StringCtl.feedEnds, h], rfl⟩
  · next h k => exact .inl ⟨_, by simp [StringCtl.feedEnds, h, k], rfl⟩
  · next h k => exact .inl ⟨_, by simp [StringCtl.feedEnds, h, k], rfl⟩
  · next h k => exact .inl ⟨_, by simp [StringCtl.feedEnds, h, k], rfl⟩
  · next htest hsurveyTest hsurveyCensus hsettling =>
    refine .inr ⟨?_, rfl⟩
    rw [StringCtl.feedEnds, if_neg ?_, if_neg ?_]
    · rintro ⟨h | h, k⟩
      · exact hsurveyCensus h k
      · exact hsettling h k
    · rintro (h | ⟨h, k⟩)
      · exact htest h
      · exact hsurveyTest h k

theorem State.offerString_of_inRun (hrun : s.inRun = true) (k : RecordKind) (c : Cause) (m : Nat) :
    s.offerString n k c m =
      s.offerClosing { s.advisory k c 1024 (moduleLocator n 0) with confirmed := BitVec.ofNat 16 m } := if_pos hrun

theorem State.offerString_of_notInRun (hrun : s.inRun = false) (k : RecordKind) (c : Cause) (m : Nat) :
    s.offerString n k c m = s := if_neg (by simp [hrun])

@[simp] theorem State.offerClosing_advisories (s : State) (r : OutcomeRecord) :
    (s.offerClosing r).advisories = s.advisories ++ [r] :=
  (s.setJw { s.jw with reserved := s.jw.reserved - 1 }).appendItem_advisory r

/-- The end of a light test or census appends at most its closing advisory (R84, R85, R91). -/
theorem State.feedCloses_keeps (s : State) (n : Nat) : (s.feedCloses n).lrc = s.lrc ∧ (s.feedCloses n).strings = s.strings ∧
    (s.feedCloses n).contexts = s.contexts ∧ (s.feedCloses n).pm = s.pm := by
  obtain ⟨k, -, h⟩ | ⟨-, h⟩ := s.feedCloses_eq n
  · rw [h, State.offerString]
    split <;> exact ⟨rfl, rfl, rfl, rfl⟩
  · rw [h]
    exact ⟨rfl, rfl, rfl, rfl⟩

theorem State.feedCloses_of_notInRun (hrun : s.inRun = false) : s.feedCloses n = s := by
  obtain ⟨k, -, h⟩ | ⟨-, h⟩ := s.feedCloses_eq n
  · rw [h, State.offerString_of_notInRun hrun]
  · exact h

theorem State.feedCloses_told (hrun : s.inRun = true) : (s.feedCloses n).advisories.map OutcomeRecord.told =
    s.advisories.map OutcomeRecord.told ++
      (s.stringAt n).feedEnds.map fun k => (k, Cause.feedFault, locator n 0 0 0 0 0, (0 : BitVec 16)) := by
  obtain ⟨k, hends, h⟩ | ⟨hends, h⟩ := s.feedCloses_eq n
  · rw [h, State.offerString_of_inRun hrun, hends, State.offerClosing_advisories, List.map_append]
    rfl
  · rw [h, hends, List.map_nil, List.append_nil]

theorem State.feedCloses_spare (s : State) (n : Nat) : s.jw.spare ≤ (s.feedCloses n).jw.spare + 1 := by
  obtain ⟨k, -, h⟩ | ⟨-, h⟩ := s.feedCloses_eq n
  · rw [h, State.offerString]
    split
    · rw [State.spare_eq, State.spare_eq, State.offerClosing_advisories]
      change _ ≤ 16 - (_ + (s.jw.reserved - 1)) + 1
      simp only [List.length_append, List.length_singleton]
      omega
    · exact Nat.le_succ _
  · rw [h]
    exact Nat.le_succ _

end Closes

/-- The lines, taken up, tell of light tests and censuses that have come to their end alone (R90). -/
theorem State.ClosesStrings.advisories {s t : State} (h : s.ClosesStrings t) : ∃ more, t.advisories = s.advisories ++ more ∧
    ∀ r ∈ more, s.inRun = true ∧ (r.kind = .testDone ∨ r.kind = .censusDone) ∧ r.cause = .none := by
  obtain ⟨more, hmore, hcloses⟩ := h
  refine ⟨more, ?_, hcloses⟩
  simp [State.advisories, hmore, List.filterMap_append, List.filterMap_map]

/-! ### The losses of the hot addresses -/

/-- The losses of a list of addresses, one after the other (R91, point 3). -/
def State.losesAll (s : State) (n : Nat) (l : List Nat) : State := l.foldl (fun t a => t.feedLoses n a) s

/-- What a feed fault tells of a lost module. -/
def lostTold (n a : Nat) : RecordKind × Cause × Word × BitVec 16 := (.moduleLost, .feedFault, locator n a 0 0 0 0, 0)

section Loses

variable {s : State} (hs : s.Undamaged) (n : Nat)
include hs

theorem State.feedLoses_keeps (a : Nat) : (s.feedLoses n a).Undamaged ∧ (s.feedLoses n a).lrc = s.lrc ∧
    (s.feedLoses n a).strings = s.strings := by
  have hlost := hs.tableWork_reportLost n a
  exact ⟨hlost.undamaged.offerModule n a _ _, (State.offerModule_lrc _ _ _ _ _).trans hlost.lrc,
    (State.offerModule_strings _ _ _ _ _).trans hlost.strings⟩

theorem State.losesAll_keeps (l : List Nat) : (s.losesAll n l).Undamaged ∧ (s.losesAll n l).lrc = s.lrc ∧
    (s.losesAll n l).strings = s.strings := by
  induction l generalizing s with
  | nil => exact ⟨hs, rfl, rfl⟩
  | cons a l ih =>
    obtain ⟨hundamaged, hlrc, hstrings⟩ := State.feedLoses_keeps hs n a
    obtain ⟨hrest, hlrcs, hstringss⟩ := ih hundamaged
    exact ⟨hrest, hlrcs.trans hlrc, hstringss.trans hstrings⟩

theorem State.losesAll_of_notInRun (hrun : s.inRun = false) (l : List Nat) : (s.losesAll n l).advisories = s.advisories := by
  induction l generalizing s with
  | nil => rfl
  | cons a l ih =>
    have hlost := hs.tableWork_reportLost n a
    have hstep : s.feedLoses n a = s.reportLost n a := State.offerModule_of_notInRun (hlost.inRun.trans hrun) _ _
    change ((s.feedLoses n a).losesAll n l).advisories = _
    rw [hstep, ih hlost.undamaged (hlost.inRun.trans hrun), hlost.advisories]

/-- In a run, with entries spare, each loss is told with the slot of the context that the module has as it is lost (R90, R91). -/
theorem State.losesAll_told (hrun : s.inRun = true) (l : List Nat) (hspare : l.length ≤ s.jw.spare) :
    ∃ more, (s.losesAll n l).advisories = s.advisories ++ more ∧ more.map OutcomeRecord.told = l.map (lostTold n) ∧
      ∀ a ∈ l, ∀ ci slot, s.Serves n a ci slot → ∃ r ∈ more, r.told = lostTold n a ∧ r.slot = BitVec.ofNat 16 slot := by
  induction l generalizing s with
  | nil => exact ⟨[], by simp [State.losesAll], rfl, by simp⟩
  | cons a l ih =>
    have hlost := hs.tableWork_reportLost n a
    rw [List.length_cons] at hspare
    have hspared : 0 < (s.reportLost n a).jw.spare := by rw [hlost.spare]; omega
    have hstep : s.feedLoses n a = _ := State.offerModule_of_spare (hlost.inRun.trans hrun) hspared _ _
    obtain ⟨hundamaged, hlrc, -⟩ := State.feedLoses_keeps hs n a
    have hadvisories : (s.feedLoses n a).advisories = s.advisories ++ [(s.reportLost n a).advisory .moduleLost .feedFault
        ((s.reportLost n a).slotOfModule n a) (moduleLocator n a)] := by
      rw [hstep, State.appendItem_advisory, hlost.advisories]
    have hleft : l.length ≤ (s.feedLoses n a).jw.spare := by
      have hreserved : (s.feedLoses n a).jw.reserved = s.jw.reserved := by rw [hstep]; exact hlost.reserved
      rw [State.spare_eq] at hspare ⊢
      rw [hadvisories, hreserved, List.length_append, List.length_singleton]
      omega
    obtain ⟨more, hmore, htold, hslots⟩ := ih hundamaged (by rw [State.inRun, hlrc]; exact hrun) hleft
    refine ⟨_ :: more, (hmore.trans (by rw [hadvisories])).trans (List.append_cons _ _ _).symm, ?_, fun b hb ci slot hserves => ?_⟩
    · rw [List.map_cons, htold]
      rfl
    · have hnext := hserves.reportLost hs a
      obtain rfl | hb := List.mem_cons.1 hb
      · refine ⟨_, List.mem_cons_self, rfl, ?_⟩
        obtain ⟨hm, d, hd, -, rfl⟩ := hnext
        simp [State.advisory, State.slotOfModule, hm, hd]
      · obtain ⟨r, hr, htells⟩ := hslots b hb ci slot (hnext.of_contexts (State.offerModule_contexts _ _ _ _ _))
        exact ⟨r, List.mem_cons_of_mem _ hr, htells⟩

end Loses

/-! ### The per-address states after a feed fault -/

theorem State.feedModules_getElem? (s : State) (n : Nat) (ms : List ModuleLink) (k i : Nat) :
    (s.feedModules n k ms)[i]? = ms[i]?.map fun m =>
      { presence := if s.hot n (k + i) then .lost else .absent, lastSequence := none
        misses := if s.hot n (k + i) then 3 else m.misses, bootNoted := false, darkeningDue := false } := by
  induction ms generalizing k i with
  | nil => rfl
  | cons m ms ih =>
    cases i with
    | zero => rfl
    | succ i =>
      rw [State.feedModules, List.getElem?_cons_succ, List.getElem?_cons_succ, ih, Nat.add_right_comm, Nat.add_assoc]

/-- Every address of a tripped string is LOST or ABSENT (R91). -/
theorem StringCtl.link_trip (s : State) (n : Nat) (x : StringCtl) {a : Nat} (ha : 1 ≤ a) (htop : a ≤ x.modules.length) :
    (x.trip (s.feedModules n 1 x.modules)).link a =
      { presence := if s.hot n a then .lost else .absent, lastSequence := none
        misses := if s.hot n a then 3 else (x.link a).misses, bootNoted := false, darkeningDue := false } := by
  have hpos : a ≠ 0 := by omega
  have hlt : a - 1 < x.modules.length := by omega
  have hback : 1 + (a - 1) = a := by omega
  have hget := List.getElem?_eq_getElem hlt
  simp only [StringCtl.link, StringCtl.trip, beq_iff_eq, hpos, if_false, List.getD_eq_getElem?_getD, State.feedModules_getElem?,
    hget, Option.map_some, Option.getD_some, hback]

/-- A string in FEED-FAULT stays as it is when the lines are taken up (R91). -/
theorem State.kick_stringAt_of_feedFault {s : State} {n : Nat} (hn : n < 4) (hmode : (s.stringAt n).mode = .feedFault)
    (hline : (s.stringAt n).line = .idle) (hdue : (s.stringAt n).due = []) (hsweep : (s.stringAt n).sweep = none) :
    s.kick.stringAt n = s.stringAt n := by
  obtain ⟨t, -, -, hat, hkick⟩ := s.kick_stringAt hn
  rw [← hat] at hmode hline hdue hsweep
  have hsettled : t.settleMode n = t :=
    State.settleMode_of_mode (by rw [hmode]; decide) (by rw [hmode]; decide) (by rw [hmode]; decide)
  have hturn : t.turn n = t := by simp only [State.turn, hmode]
  rw [hkick, State.runLine_of_turn hsettled hline hdue hsweep, hturn, hat]

/-- A string in OFF stays in OFF when the lines are taken up (Table 4-3). -/
theorem State.kick_mode_of_off {s : State} {n : Nat} (hn : n < 4) (hs : s.strings.length = 4) (hmode : (s.stringAt n).mode = .off) :
    (s.kick.stringAt n).mode = .off := by
  obtain ⟨t, hlasting, -, hat, hkick⟩ := s.kick_stringAt hn
  rw [← hat] at hmode
  have hsettled : t.settleMode n = t :=
    State.settleMode_of_mode (by rw [hmode]; decide) (by rw [hmode]; decide) (by rw [hmode]; decide)
  have hgoes : t.endSweep n = t := by
    cases hsweep : (t.stringAt n).sweep <;> simp [State.endSweep, hsweep, hmode]
  obtain ⟨due, hcourse⟩ := State.runLine_course hsettled hgoes
    (lt_of_lt_of_eq hn ((State.stringCount_of_lasting hlasting).trans hs).symm)
  obtain ⟨hkept, -⟩ := StringCtl.course_eq hcourse
  rw [hkick, hkept, hmode]

/-! ### The feed fault that is taken -/

/-- The feed of a string is off and its line taken down, behind the drop in flight and the closing advisory (R91, points 1, 2). -/
def State.tripped (s : State) (n : Nat) : State :=
  let t := (s.dropInFlight n).feedCloses n
  t.setString n ((t.stringAt n).trip (t.feedModules n 1 (t.stringAt n).modules))

theorem State.takeFeedFault_eq (s : State) (n : Nat) : s.takeFeedFault n =
    ((s.tripped n).losesAll n (((s.dropInFlight n).feedCloses n).hotAddresses n)).raise .string := rfl

section Taken

variable {s : State} (hs : s.Undamaged) {n : Nat}

theorem State.hotAddresses_feedCloses (s : State) (n : Nat) : (s.feedCloses n).hotAddresses n = s.hotAddresses n := by
  obtain ⟨-, -, hcontexts, -⟩ := s.feedCloses_keeps n
  exact List.filter_congr fun a _ => State.hot_of_contexts hcontexts n a

include hs

theorem State.feedCloses_dropInFlight_keeps : ((s.dropInFlight n).feedCloses n).Undamaged ∧
    ((s.dropInFlight n).feedCloses n).lrc = s.lrc ∧ ((s.dropInFlight n).feedCloses n).strings = s.strings := by
  have hdrop := hs.tableWork_dropInFlight n
  obtain ⟨hlrc, hstrings, hcontexts, hpm⟩ := (s.dropInFlight n).feedCloses_keeps n
  exact ⟨hdrop.undamaged.of_tables (congrArg PickManager.entries hpm) hcontexts, hlrc.trans hdrop.lrc,
    hstrings.trans hdrop.strings⟩

theorem State.tripped_undamaged : (s.tripped n).Undamaged := by
  obtain ⟨hundamaged, -⟩ := State.feedCloses_dropInFlight_keeps hs (n := n)
  exact hundamaged.setString n _

theorem State.tripped_inRun : (s.tripped n).inRun = s.inRun := by
  obtain ⟨-, hlrc, -⟩ := State.feedCloses_dropInFlight_keeps hs (n := n)
  exact congrArg (fun r : RunControl => r.run == .running || r.run == .halted) hlrc

theorem State.takeFeedFault_stringAt (hn : n < s.strings.length) : ∃ t : State, t.contexts = (s.dropInFlight n).contexts ∧
    (s.takeFeedFault n).stringAt n = (s.stringAt n).trip (t.feedModules n 1 (s.stringAt n).modules) := by
  obtain ⟨-, -, hstrings⟩ := State.feedCloses_dropInFlight_keeps hs (n := n)
  obtain ⟨-, -, hcontexts, -⟩ := (s.dropInFlight n).feedCloses_keeps n
  obtain ⟨-, -, hkept⟩ := State.losesAll_keeps (State.tripped_undamaged hs (n := n)) n
    (((s.dropInFlight n).feedCloses n).hotAddresses n)
  refine ⟨_, hcontexts, ?_⟩
  rw [State.takeFeedFault_eq, State.stringAt_of_strings (State.raise_strings _ _), State.stringAt_of_strings hkept, State.tripped,
    State.stringAt_setString_self _ n _ (by rw [hstrings]; exact hn), State.stringAt_of_strings hstrings]

omit hs in
theorem State.takeFeedFault_notice : (s.takeFeedFault n).lrc.notice &&& Notice.string.bit ≠ 0 := by
  have hraised (b d : BitVec 6) : (b ||| d) &&& d = d := by
    ext i hi
    simp only [BitVec.getElem_and, BitVec.getElem_or]
    exact (by decide : ∀ x y : Bool, ((x || y) && y) = y) b[i] d[i]
  rw [State.takeFeedFault_eq, State.raise_lrc, hraised]
  decide

theorem State.takeFeedFault_of_notInRun (hrun : s.inRun = false) : (s.takeFeedFault n).advisories = s.advisories := by
  have hdrop := hs.tableWork_dropInFlight n
  rw [State.takeFeedFault_eq, State.advisories_of_jw (State.raise_jw _ _),
    State.losesAll_of_notInRun (State.tripped_undamaged hs) n ((State.tripped_inRun hs).trans hrun)]
  exact (congrArg State.advisories (State.feedCloses_of_notInRun (hdrop.inRun.trans hrun))).trans hdrop.advisories

/-- In a run, with entries spare, a feed fault tells of the light test or census that it ends and of each hot address (R91). -/
theorem State.takeFeedFault_told (hrun : s.inRun = true) (hspare : ((s.dropInFlight n).hotAddresses n).length < s.jw.spare) :
    (s.takeFeedFault n).advisories.map OutcomeRecord.told = s.advisories.map OutcomeRecord.told ++
        (s.stringAt n).feedEnds.map (fun k => (k, Cause.feedFault, locator n 0 0 0 0 0, (0 : BitVec 16))) ++
        ((s.dropInFlight n).hotAddresses n).map (lostTold n) ∧
      ∀ a ∈ (s.dropInFlight n).hotAddresses n, ∀ ci slot, (s.dropInFlight n).Serves n a ci slot →
        ∃ r ∈ (s.takeFeedFault n).advisories, r.told = lostTold n a ∧ r.slot = BitVec.ofNat 16 slot := by
  have hdrop := hs.tableWork_dropInFlight n
  have hcloses := State.feedCloses_told (n := n) (hdrop.inRun.trans hrun)
  obtain ⟨-, -, hcontexts, -⟩ := (s.dropInFlight n).feedCloses_keeps n
  have hspared : ((s.dropInFlight n).hotAddresses n).length ≤ (s.tripped n).jw.spare := by
    have hclosed := (s.dropInFlight n).feedCloses_spare n
    rw [hdrop.spare] at hclosed
    change _ ≤ ((s.dropInFlight n).feedCloses n).jw.spare
    omega
  obtain ⟨more, hmore, htold, hslots⟩ :=
    State.losesAll_told (State.tripped_undamaged hs) n ((State.tripped_inRun hs).trans hrun) _ hspared
  rw [hdrop.advisories, hdrop.stringAt] at hcloses
  have hall : (s.takeFeedFault n).advisories = ((s.dropInFlight n).feedCloses n).advisories ++ more := by
    rw [State.takeFeedFault_eq, State.advisories_of_jw (State.raise_jw _ _), State.hotAddresses_feedCloses, hmore]
    rfl
  refine ⟨by rw [hall, List.map_append, hcloses, htold], fun a ha ci slot hserves => ?_⟩
  obtain ⟨r, hr, htells⟩ := hslots a ha ci slot (hserves.of_contexts hcontexts)
  exact ⟨r, by rw [hall]; exact List.mem_append_right _ hr, htells⟩

end Taken

section FeedFault

variable {s : State} {n : Fin 4} (hi : s.Intact) (hs : s.Shape)

/-- The level of the feed-fault input is taken (log 14). -/
def State.withFeedFault (s : State) (n : Nat) (b : Bool) : State := s.setString n { s.stringAt n with feedFaultInput := b }

theorem State.withFeedFault_inRun (s : State) (n : Nat) (b : Bool) : (s.withFeedFault n b).inRun = s.inRun := rfl

include hi in
/-- On tables of good parity the input is judged, and the lines are taken up (R91). -/
theorem exec_feedFault (b : Bool) : exec (.feedFault n b) s = .next ((s.withFeedFault n b).judgeFeed n).kick := by
  refine congrArg Host.Outcome.next ?_
  rw [State.feedInput, s.checkContexts_of_intact hi.undamaged.contexts]
  rfl

include hs

theorem State.withFeedFault_stringAt (b : Bool) :
    (s.withFeedFault n b).stringAt n = { s.stringAt n with feedFaultInput := b } :=
  s.stringAt_setString_self n _ (hs.lt_strings n)

theorem State.judgeFeed_of_fault (hfeed : (s.stringAt n).feed = true) (hmode : (s.stringAt n).mode ≠ .off) :
    (s.withFeedFault n true).judgeFeed n = (s.withFeedFault n true).takeFeedFault n := by
  have hat := State.withFeedFault_stringAt hs (n := n) true
  simp [State.judgeFeed, hat, hfeed, hmode]

theorem State.judgeFeed_of_off (hfeed : (s.stringAt n).feed = true) (hmode : (s.stringAt n).mode = .off) :
    (s.withFeedFault n true).judgeFeed n = s.setString n { s.stringAt n with feedFaultInput := true, feed := false } := by
  have hat := State.withFeedFault_stringAt hs (n := n) true
  simp only [State.judgeFeed, hat, hfeed, hmode]
  exact State.setString_setString _ _ _ _

theorem State.judgeFeed_of_level {b : Bool} (h : (s.stringAt n).feed = false ∨ b = false) :
    (s.withFeedFault n b).judgeFeed n = s.withFeedFault n b := by
  have hlevel : (((s.withFeedFault n b).stringAt n).feedFaultInput && ((s.withFeedFault n b).stringAt n).feed) = false := by
    rw [State.withFeedFault_stringAt hs]
    obtain h | h := h <;> simp [h]
  exact if_neg (by simp [hlevel])

end FeedFault

/-- Settles O44, by the three points of a feed fault: the drop in flight, the controller that is taken down, and the losses. -/
theorem feedFaultsTakeTheStringDown : Obligations.FeedFaultsTakeTheStringDown := by
  unfold Obligations.FeedFaultsTakeTheStringDown
  intro s n hi hs x dropped hots ends told
  refine ⟨fun hfeed hmode => ⟨_, exec_feedFault hi true, ?_⟩, fun hline => State.dropInFlight_of_other hline,
    fun a w left ci c hline hm hc => ⟨fun hne => ?_, fun hclaims hdark hdeferred => ?_⟩,
    fun hfeed hmode => ⟨_, exec_feedFault hi true, ?_⟩, fun b h => ⟨_, exec_feedFault hi b, ?_⟩⟩
  · have hundamaged : (s.withFeedFault n true).Undamaged := hi.undamaged.setString n _
    have hinput := State.withFeedFault_stringAt hs (n := n) true
    obtain ⟨v, hv, hdown⟩ := State.takeFeedFault_stringAt hundamaged
      (lt_of_lt_of_eq (hs.lt_strings n) (State.setString_length s n _).symm)
    have hstands : ((s.withFeedFault n true).takeFeedFault n).kick.stringAt n = _ :=
      State.kick_stringAt_of_feedFault n.isLt (by rw [hdown]; rfl) (by rw [hdown]; rfl) (by rw [hdown]; rfl) (by rw [hdown]; rfl)
    rw [hdown, hinput] at hstands
    obtain ⟨more, hmore, hcloses⟩ := ((s.withFeedFault n true).takeFeedFault n).closesStrings_kick.advisories
    rw [State.judgeFeed_of_fault hs hfeed hmode]
    refine ⟨by rw [hstands]; rfl, by rw [hstands]; rfl, by rw [hstands]; rfl, by rw [hstands]; rfl, by rw [hstands]; rfl,
      ?_, fun hrun => ?_, fun hrun hspare => ?_, fun a ha htop => ?_⟩
    · rw [State.kick_lrc]
      exact State.takeFeedFault_notice
    · have hnone : more = [] := List.eq_nil_iff_forall_not_mem.2 fun r hr => by
        obtain ⟨hin, -⟩ := hcloses r hr
        rw [State.inRun_of_frame (State.takeFeedFault_frame _ _), State.withFeedFault_inRun, hrun] at hin
        exact Bool.false_ne_true hin
      rw [hmore, hnone, List.append_nil]
      exact State.takeFeedFault_of_notInRun hundamaged hrun
    · obtain ⟨htold, hslots⟩ := State.takeFeedFault_told hundamaged hrun hspare
      refine ⟨⟨more.map OutcomeRecord.told, ?_, fun y hy => ?_⟩, fun a ha ci c hm hc hclaims => ?_⟩
      · rw [hmore, List.map_append]
        refine congrArg (· ++ more.map OutcomeRecord.told) (htold.trans ?_)
        rw [hinput]
        rfl
      · obtain ⟨r, hr, rfl⟩ := List.mem_map.1 hy
        obtain ⟨-, hkind, hcause⟩ := hcloses r hr
        exact ⟨hkind, hcause⟩
      · obtain ⟨r, hr, htells⟩ := hslots a ha ci c.slot ⟨hm, c, hc, hclaims, rfl⟩
        exact ⟨r, by rw [hmore]; exact List.mem_append_left _ hr, htells⟩
    · have hlen : a ≤ x.modules.length := le_of_le_of_eq htop (hs.modules_length n).symm
      have hhot : v.hot n a = dropped.hot n a := State.hot_of_contexts hv n a
      rw [State.link, hstands, ← hhot]
      exact StringCtl.link_trip v n { s.stringAt n with feedFaultInput := true } ha hlen
  · rw [State.dropInFlight_of_faces hline, State.dropPending_of_claims hm hc hne]
  · rw [State.dropInFlight_of_faces hline, State.dropPending_of_noDeferred hdeferred hm hc, if_pos ⟨hclaims, .inl hdark⟩]
  · rw [State.judgeFeed_of_off hs hfeed hmode]
    have hat := s.stringAt_setString_self n { s.stringAt n with feedFaultInput := true, feed := false } (hs.lt_strings n)
    refine ⟨State.kick_mode_of_off n.isLt ((State.setString_length s n _).trans hs.strings_length) (by rw [hat]; exact hmode),
      ?_, State.kick_lrc _⟩
    rw [State.feed_of_lasting (State.kick_lasting _), hat]
  · have hat := State.withFeedFault_stringAt hs (n := n) b
    rw [State.judgeFeed_of_level hs h]
    exact ⟨by rw [State.feedFaultInput_of_lasting (State.kick_lasting _), hat],
      by rw [State.feed_of_lasting (State.kick_lasting _), hat],
      by rw [State.modulesAt_of_lasting (State.kick_lasting _), hat], State.kick_lrc _⟩

end Sys2Proof.Machine
end

section
/-! Proofs of the family of 04 (lamp strings), ninth part: the events of a reply that are accepted (R73). -/

namespace Sys2Proof.Machine

theorem judgeEvents_of_accepted {all : Bool} {last : Option Nat} {e : PressEvent} (h : (all || accepts last e.sequence) = true)
    (es : List PressEvent) : judgeEvents all last (e :: es) =
      (e :: (judgeEvents all (some e.sequence) es).1, (judgeEvents all (some e.sequence) es).2) := if_pos h

theorem judgeEvents_of_rejected {last : Option Nat} {e : PressEvent} (h : accepts last e.sequence = false)
    (es : List PressEvent) : judgeEvents false last (e :: es) = judgeEvents false last es := if_neg (by simp [h])

/-- Where the sequence was absent at the reply every event is accepted (R73). -/
theorem judgeEvents_all (last : Option Nat) (es : List PressEvent) :
    (judgeEvents true last es).1 = es ∧ (judgeEvents true last es).2 = (es.getLast?.map PressEvent.sequence).or last := by
  induction es generalizing last with
  | nil => exact ⟨rfl, rfl⟩
  | cons e es ih =>
    obtain ⟨haccepted, hlast⟩ := ih (some e.sequence)
    rw [judgeEvents_of_accepted rfl, haccepted, hlast, List.getLast?_cons]
    refine ⟨rfl, ?_⟩
    cases es.getLast? <;> rfl

/-- A sequence is accepted 1 to 4 places behind the last one (R73). -/
theorem accepts_iff {k sequence : Nat} (hk : k < 16) :
    accepts (some k) sequence = true ↔ (sequence + 16 - k) % 16 ∈ [1, 2, 3, 4] := by
  rw [accepts, decide_eq_true_eq, Nat.mod_eq_of_lt hk]
  simp only [List.mem_cons, List.not_mem_nil, or_false]
  omega

/-- What is accepted stands in its order, and the last of it is the last accepted sequence left (R73). -/
theorem judgeEvents_sublist (k : Nat) (es : List PressEvent) : ((judgeEvents false (some k) es).1).Sublist es ∧
    (judgeEvents false (some k) es).2 =
      some (((judgeEvents false (some k) es).1.getLast?.map PressEvent.sequence).getD k) := by
  induction es generalizing k with
  | nil => exact ⟨List.Sublist.refl _, rfl⟩
  | cons e es ih =>
    cases h : accepts (some k) e.sequence with
    | true =>
      obtain ⟨hsub, hlast⟩ := ih e.sequence
      rw [judgeEvents_of_accepted (by rw [h]; rfl), hlast, List.getLast?_cons]
      refine ⟨hsub.cons_cons e, ?_⟩
      cases (judgeEvents false (some e.sequence) es).1.getLast? <;> rfl
    | false =>
      obtain ⟨hsub, hlast⟩ := ih k
      rw [judgeEvents_of_rejected h]
      exact ⟨hsub.cons e, hlast⟩

end Sys2Proof.Machine
end

section
/-! Proofs of the family of 04 (lamp strings), tenth part: the steps of a valid reply (R74). -/

namespace Sys2Proof.Machine

/-! ### The presses -/

section Presses

variable {s : State} {n a : Nat}

/-- What a press leaves for the steps behind it: tables that pass their checks, run control and the strings. -/
structure State.Attributes (s t : State) : Prop where
  undamaged : t.Undamaged
  lrc : t.lrc = s.lrc
  strings : t.strings = s.strings

theorem State.Attributes.trans {s t u : State} (h : s.Attributes t) (k : t.Attributes u) : s.Attributes u :=
  ⟨k.undamaged, k.lrc.trans h.lrc, k.strings.trans h.strings⟩

theorem State.Undamaged.attributes_strayPress (hs : s.Undamaged) (e : PressEvent) (cause : Cause) (slot lane : Nat) :
    s.Attributes (s.strayPress n a e cause slot lane) := by
  obtain ⟨j, hj⟩ := s.strayPress_eq n a e cause slot lane
  rw [hj]
  exact ⟨hs.of_tables rfl rfl, rfl, rfl⟩

theorem State.Undamaged.attributes_confirm (hs : s.Undamaged) (ci : Nat) (k : Claim) (count : Nat) (adjusted : Bool) :
    s.Attributes (s.confirm ci k count adjusted) := by
  have hcloses : s.ClosesOnly (s.closedBundle k count adjusted) := State.closesOnly_closeBundle _ _ _
  have hgrows := hs.grows_confirm (ci := ci) (k := k) (count := count) (adjusted := adjusted)
  exact ⟨hs.follows_confirm.undamaged, hgrows.lrc.trans hcloses.lrc, hgrows.strings.trans hcloses.strings⟩

theorem State.Undamaged.attributes_adjustPress (hs : s.Undamaged) (e : PressEvent) (ci : Nat) (k : Claim) :
    s.Attributes (s.adjustPress n a e ci k) := by
  unfold State.adjustPress
  split
  · exact ⟨hs, rfl, rfl⟩
  · split
    · exact hs.attributes_strayPress e _ _ _
    · exact ⟨hs.setContext ci _, rfl, rfl⟩

theorem State.Undamaged.attributes_attributePress (hs : s.Undamaged) (e : PressEvent) :
    s.Attributes (s.attributePress n a e) := by
  cases h : s.matchPress n a e with
  | stray cause slot =>
    rw [State.attributePress_of_stray h]
    exact hs.attributes_strayPress e _ _ _
  | claim ci k q =>
    by_cases hb : e.button = .confirm
    · obtain ⟨-, c, hc, -⟩ := State.context_of_matchPress h
      rw [State.attributePress_of_confirm hs.picks h hc hb]
      exact hs.attributes_confirm _ _ _ _
    · rw [State.attributePress_of_adjust h hb]
      exact hs.attributes_adjustPress e _ _

theorem State.Undamaged.attributes_attributeAll (hs : s.Undamaged) (es : List PressEvent) :
    s.Attributes (s.attributeAll n a es) := by
  induction es generalizing s with
  | nil => exact ⟨hs, rfl, rfl⟩
  | cons e es ih =>
    have hpress := hs.attributes_attributePress (n := n) (a := a) e
    exact hpress.trans (ih hpress.undamaged)

end Presses

/-! ### Step 1: the sequence, the boot note and the dark FACES that is answered -/

/-- A reply by which its module reports a reboot (R73). -/
def ModuleLink.reboots (m : ModuleLink) (r : Reply) : Bool := r.fresh && !m.bootNoted

/-- The accepted events of a reply, and the last accepted sequence that it leaves (R73). -/
def ModuleLink.judge (m : ModuleLink) (r : Reply) : List PressEvent × Option Nat :=
  let before := if m.reboots r then none else m.lastSequence
  judgeEvents before.isNone before r.events

/-- The exchange is over and step 1 taken: the presses are not attributed yet. -/
def State.sequenceHeard (s : State) (n a : Nat) (kind : ExchangeKind) (r : Reply) : State :=
  ((s.endLine n).restartDormancy n a r).setLink n a
    ((s.link n a).heard r.fresh (kind == .dark) ((s.link n a).judge r).2)

section Heard

variable {s : State} {n : Nat} (hn : n < s.strings.length) (a : Nat) (kind : ExchangeKind) (r : Reply)

theorem State.restartDormancy_eq (s : State) (n a : Nat) (r : Reply) : s.restartDormancy n a r = s ∨
    s.restartDormancy n a r = s.setString n { s.stringAt n with dormancyTimer := 0 } := by
  unfold State.restartDormancy
  split
  · exact .inr rfl
  · exact .inl rfl

/-- Step 1 leaves the tables, the report list and run control (R74). -/
theorem State.sequenceHeard_tables : (s.sequenceHeard n a kind r).contexts = s.contexts ∧ (s.sequenceHeard n a kind r).pm = s.pm ∧
    (s.sequenceHeard n a kind r).jw = s.jw ∧ (s.sequenceHeard n a kind r).lrc = s.lrc := by
  unfold State.sequenceHeard
  obtain h | h := (s.endLine n).restartDormancy_eq n a r
  all_goals
    rw [h]
    exact ⟨rfl, rfl, rfl, rfl⟩

include hn

/-- Step 1 writes the per-address state of the module, and may restart the dormancy timer (R73, R80, R81). -/
theorem State.sequenceHeard_stringAt : ∃ timer, (s.sequenceHeard n a kind r).stringAt n =
    StringCtl.setLink { s.stringAt n with line := .idle, dormancyTimer := timer } a
      ((s.link n a).heard r.fresh (kind == .dark) ((s.link n a).judge r).2) := by
  have hidle := State.endLine_stringAt hn
  have hlt : n < (s.endLine n).strings.length := lt_of_lt_of_eq hn (s.setString_length n _).symm
  unfold State.sequenceHeard
  obtain h | h := (s.endLine n).restartDormancy_eq n a r
  · rw [h, State.setLink_stringAt hlt, hidle]
    exact ⟨_, rfl⟩
  · rw [h, State.setLink_stringAt (lt_of_lt_of_eq hlt (State.setString_length _ n _).symm),
      State.stringAt_setString_self _ n _ hlt, hidle]
    exact ⟨0, rfl⟩

theorem State.hearPresses_eq : (s.endLine n).hearPresses n a kind r =
    if s.inRun then (s.sequenceHeard n a kind r).attributeAll n a ((s.link n a).judge r).1 else s.sequenceHeard n a kind r := by
  obtain ⟨-, -, -, hlrc⟩ := s.sequenceHeard_tables (n := n) a kind r
  have hrun : (s.sequenceHeard n a kind r).inRun = s.inRun := by rw [State.inRun, hlrc, State.inRun]
  have hlink : (s.endLine n).link n a = s.link n a := State.link_endLine hn a
  rw [← hrun]
  unfold State.hearPresses
  dsimp only
  rw [hlink]
  rfl

/-- Where no event is accepted, and out of a run, the presses do nothing (R74). -/
theorem State.hearPresses_of_none (h : ((s.link n a).judge r).1 = [] ∨ s.inRun = false) :
    (s.endLine n).hearPresses n a kind r = s.sequenceHeard n a kind r := by
  rw [State.hearPresses_eq hn]
  obtain h | h := h
  · rw [h]
    exact ite_self _
  · rw [h]
    rfl

/-- What the presses leave for the steps behind them (R74). -/
theorem State.Undamaged.attributes_hearPresses (hs : s.Undamaged) :
    (s.sequenceHeard n a kind r).Attributes ((s.endLine n).hearPresses n a kind r) := by
  obtain ⟨hcontexts, hpm, -, -⟩ := s.sequenceHeard_tables (n := n) a kind r
  have hundamaged : (s.sequenceHeard n a kind r).Undamaged := hs.of_tables (congrArg PickManager.entries hpm) hcontexts
  rw [State.hearPresses_eq hn]
  split
  · exact hundamaged.attributes_attributeAll _
  · exact ⟨hundamaged, rfl, rfl⟩

end Heard

/-! ### Steps 3 to 6 -/

/-- Step 3: the display report of the context of the module (R74). -/
def State.displayed (s : State) (n a : Nat) (reboot : Bool) (r : Reply) : State :=
  ((s.contextOfModule n a).map fun ci => s.displayReport ci reboot r.generation).getD s

/-- Steps 4 and 5: the module is PRESENT, and its advisories are offered (R74, R86). -/
def State.answered (s w : State) (n a : Nat) (reboot : Bool) (r : Reply) : State :=
  let t := w.setLink n a { w.link n a with presence := .present, misses := 0 }
  let t := if moduleBack (s.link n a).presence (s.hot n a) reboot then
    t.offerModule n a .moduleBack (if reboot then .reboot else .returned) else t
  if r.overflow then t.offerModule n a .pressOverflow .none else t

section Status

variable {s : State} {n a : Nat} {reboot : Bool} {r : Reply}

theorem State.hearStatus_eq : s.hearStatus n a reboot r =
    if (s.answered (s.displayed n a reboot r) n a reboot r).darkens n a reboot r.fresh r.generation then
      (s.answered (s.displayed n a reboot r) n a reboot r).setLink n a
        { (s.answered (s.displayed n a reboot r) n a reboot r).link n a with darkeningDue := true }
    else s.answered (s.displayed n a reboot r) n a reboot r := by
  have hdisplayed : s.displayed n a reboot r =
      match s.contextOfModule n a with
      | some ci => s.displayReport ci reboot r.generation
      | none => s := by
    unfold State.displayed
    split <;> next h => rw [h]; rfl
  rw [hdisplayed]
  rfl

/-- What an advisory about a module says (R90). -/
def State.tells (s : State) (n a : Nat) (kind : RecordKind) (cause : Cause) : Item :=
  .advisory (s.advisory kind cause (s.slotOfModule n a) (moduleLocator n a))

/-- The slot and the times of an advisory are read off the contexts and the aisle clock (R90). -/
theorem State.tells_of_same {t : State} (hcontexts : t.contexts = s.contexts) (hlrc : t.lrc = s.lrc) (kind : RecordKind)
    (cause : Cause) : t.tells n a kind cause = s.tells n a kind cause := by
  have hslot : t.slotOfModule n a = s.slotOfModule n a := by
    rw [State.slotOfModule, State.contextOfModule_of_contexts hcontexts, State.slotOfModule]
    simp only [State.contextAt_of_contexts hcontexts]
  have hnow : t.now = s.now := by rw [State.now, hlrc, State.now]
  rw [State.tells, hslot, State.advisory, hnow, State.tells, State.advisory]

/-- An advisory about a module that is offered, or not, with an entry spare (R153). -/
theorem State.offerIf_report (b : Bool) (hrun : s.inRun = true) (hspare : 0 < s.jw.spare) (kind : RecordKind) (cause : Cause) :
    (if b then s.offerModule n a kind cause else s).jw.report =
      s.jw.report ++ if b then [s.tells n a kind cause] else [] := by
  split
  · rw [State.offerModule_of_spare hrun hspare]
    rfl
  · rw [List.append_nil]

theorem State.offerIf_spare (b : Bool) (hrun : s.inRun = true) (hspare : 0 < s.jw.spare) (kind : RecordKind) (cause : Cause) :
    s.jw.spare ≤ (if b then s.offerModule n a kind cause else s).jw.spare + 1 := by
  split
  · rw [State.offerModule_of_spare hrun hspare, State.spare_eq, State.spare_eq, State.appendItem_advisory]
    change _ ≤ 16 - (_ + s.jw.reserved) + 1
    simp only [List.length_append, List.length_singleton]
    omega
  · exact Nat.le_succ _

theorem State.offerIf_keeps (b : Bool) (kind : RecordKind) (cause : Cause) :
    (if b then s.offerModule n a kind cause else s).contexts = s.contexts ∧
      (if b then s.offerModule n a kind cause else s).lrc = s.lrc := by
  split <;> simp

section Answered

variable (w : State)

theorem State.answered_keeps : (s.answered w n a reboot r).contexts = w.contexts ∧ (s.answered w n a reboot r).pm = w.pm ∧
    (s.answered w n a reboot r).lrc = w.lrc ∧ (s.answered w n a reboot r).strings =
      (w.setLink n a { w.link n a with presence := .present, misses := 0 }).strings := by
  unfold State.answered
  dsimp only
  split <;> split <;> simp

theorem State.answered_jw_of_notInRun (hrun : w.inRun = false) : (s.answered w n a reboot r).jw = w.jw := by
  have hset : (w.setLink n a { w.link n a with presence := .present, misses := 0 }).inRun = false := hrun
  unfold State.answered
  simp only [State.offerModule_of_notInRun hset, ite_self]
  rfl

/-- MODULE-BACK is told before PRESS-OVERFLOW, with the slot of the context as the display report leaves it (R74, R86). -/
theorem State.answered_report (hrun : w.inRun = true) (hspare : 2 ≤ w.jw.spare) :
    (s.answered w n a reboot r).jw.report = w.jw.report ++
      (if moduleBack (s.link n a).presence (s.hot n a) reboot then
        [w.tells n a .moduleBack (if reboot then .reboot else .returned)] else []) ++
      (if r.overflow then [w.tells n a .pressOverflow .none] else []) := by
  let present : State := w.setLink n a { w.link n a with presence := .present, misses := 0 }
  have hprun : present.inRun = true := hrun
  have hpspare : 2 ≤ present.jw.spare := hspare
  unfold State.answered
  dsimp only
  generalize moduleBack (s.link n a).presence (s.hot n a) reboot = back
  have hback := State.offerIf_report (n := n) (a := a) back hprun (by omega) .moduleBack (if reboot then .reboot else .returned)
  have hleft := State.offerIf_spare (n := n) (a := a) back hprun (by omega) .moduleBack (if reboot then .reboot else .returned)
  obtain ⟨hcontexts, hlrc⟩ := State.offerIf_keeps (s := present) (n := n) (a := a) back .moduleBack
    (if reboot then .reboot else .returned)
  have hspared := Nat.lt_of_succ_lt_succ (Nat.lt_of_lt_of_le hpspare hleft)
  rw [State.offerIf_report r.overflow (by rw [State.inRun, hlrc]; exact hrun) hspared, hback,
    State.tells_of_same (s := w) hcontexts hlrc, State.tells_of_same (s := w) rfl rfl]
  rfl

end Answered

theorem State.darkens_of_contexts {t : State} (h : t.contexts = s.contexts) (fresh : Bool) (generation : Nat) :
    t.darkens n a reboot fresh generation = s.darkens n a reboot fresh generation := by
  unfold State.darkens
  rw [State.contextOfModule_of_contexts h]
  simp only [State.contextAt_of_contexts h]

/-- Steps 4 to 6 leave the tables, and write the per-address state of the module (R74). -/
theorem State.hearStatus_keeps : (s.hearStatus n a reboot r).contexts = (s.displayed n a reboot r).contexts ∧
    (s.hearStatus n a reboot r).pm = (s.displayed n a reboot r).pm ∧
    (s.hearStatus n a reboot r).jw = (s.answered (s.displayed n a reboot r) n a reboot r).jw ∧
    (s.hearStatus n a reboot r).lrc = (s.displayed n a reboot r).lrc := by
  obtain ⟨hcontexts, hpm, hlrc, -⟩ := State.answered_keeps (s := s) (n := n) (a := a) (reboot := reboot) (r := r)
    (s.displayed n a reboot r)
  rw [State.hearStatus_eq]
  split <;> exact ⟨hcontexts, hpm, rfl, hlrc⟩

theorem State.hearStatus_stringAt {w : State} (hw : s.displayed n a reboot r = w) (hn : n < w.strings.length) (ha : 1 ≤ a)
    (hlen : a ≤ (w.stringAt n).modules.length) : (s.hearStatus n a reboot r).stringAt n = (w.stringAt n).setLink a
      { w.link n a with
        presence := .present, misses := 0
        darkeningDue := (w.link n a).darkeningDue || w.darkens n a reboot r.fresh r.generation } := by
  obtain ⟨hcontexts, -, -, hstrings⟩ := State.answered_keeps (s := s) (n := n) (a := a) (reboot := reboot) (r := r) w
  rw [State.hearStatus_eq, hw, State.darkens_of_contexts hcontexts]
  have hat : (s.answered w n a reboot r).stringAt n = _ :=
    (State.stringAt_of_strings hstrings n).trans (State.setLink_stringAt hn _)
  have hlt : n < (s.answered w n a reboot r).strings.length := by
    rw [hstrings]
    exact lt_of_lt_of_eq hn (w.setString_length n _).symm
  split
  · next h =>
    rw [State.setLink_stringAt hlt, State.link, hat, StringCtl.link_setLink_self _ _ ha hlen, StringCtl.setLink_setLink, h,
      Bool.or_true]
  · next h => rw [hat, Bool.eq_false_of_not_eq_true h, Bool.or_false]

end Status

/-! ### The display report -/

/-- MODULE-BACK is told of a LOST module, and of a PRESENT one with a context that has rebooted (R86). -/
theorem moduleBack_iff {was : Presence} {hadContext reboot : Bool} : moduleBack was hadContext reboot = true ↔
    was = .lost ∨ (was = .present ∧ reboot = true ∧ hadContext = true) := by
  simp [moduleBack, and_assoc]

section Display

variable {s : State} {n a ci : Nat} {reboot : Bool} {r : Reply} {c : Context}

theorem State.displayed_of_hot (hm : s.contextOfModule n a = some ci) :
    s.displayed n a reboot r = s.displayReport ci reboot r.generation := by
  rw [State.displayed, hm]
  rfl

theorem State.Undamaged.tableWork_displayed (hs : s.Undamaged) : s.TableWork (s.displayed n a reboot r) := by
  unfold State.displayed
  cases s.contextOfModule n a with
  | none => exact hs.tableWork
  | some ci => exact hs.tableWork_displayReport ci reboot r.generation

theorem Context.display_pending (c : Context) (reboot : Bool) (generation : Nat) :
    (c.display reboot generation).pending = none := by
  unfold Context.display
  split
  · rfl
  · split
    · split <;> rfl
    · assumption

theorem Context.display_atlas (c : Context) (reboot : Bool) (generation : Nat) :
    (c.display reboot generation).atlas = c.atlas := by
  unfold Context.display
  repeat' split
  all_goals rfl

/-- The display report as the displayed set that it leaves (R26, R41, R42). -/
theorem Context.display_eq (c : Context) (reboot : Bool) (generation : Nat) : c.display reboot generation =
    { c with
      pending := none
      displayed := if reboot then FaceSet.nothing
        else match c.pending with
          | some x => if x.generation = generation then x else c.displayed
          | none => c.displayed } := by
  unfold Context.display
  cases reboot with
  | true => rfl
  | false =>
    cases hpending : c.pending with
    | none =>
      cases c
      cases hpending
      rfl
    | some x =>
      simp only [Bool.false_eq_true, if_false, beq_iff_eq]
      split <;> rfl

theorem State.freeable_display (hm : s.contextOfModule n a = some ci) (hc : s.contextAt ci = some c) :
    s.freeable (c.display reboot r.generation) = true ↔
      c.claims = [] ∧ ((c.display reboot r.generation).displayed.faces = [] ∨ (s.link n a).presence = .lost) := by
  obtain ⟨d, hd, rfl, rfl⟩ := State.contextAt_of_contextOfModule hm
  obtain rfl := Option.some.inj (hd.symm.trans hc)
  simp [State.freeable_iff, Context.display_pending, Context.display_atlas]

/-- A context that may not be freed stands as the report shows it (R24, R26). -/
theorem State.displayed_of_stands (hm : s.contextOfModule n a = some ci) (hc : s.contextAt ci = some c)
    (h : ¬(c.claims = [] ∧ ((c.display reboot r.generation).displayed.faces = [] ∨ (s.link n a).presence = .lost))) :
    s.displayed n a reboot r = s.setContext ci (some (c.display reboot r.generation)) := by
  have hset := s.contextAt_setContext_self ci (some (c.display reboot r.generation)) (State.lt_of_contextAt hc)
  have hfree : ¬(s.setContext ci (some (c.display reboot r.generation))).freeable (c.display reboot r.generation) = true := by
    rwa [State.freeable_of_strings (s := s) (t := s.setContext ci _) rfl, State.freeable_display hm hc]
  rw [State.displayed_of_hot hm]
  simp only [State.displayReport, hc, State.reportContext, State.releaseContext, hset]
  exact if_neg hfree

/-- A DRAINING context that is dark by the report, or of a LOST module, is freed (R24, R26). -/
theorem State.displayed_of_freed (hm : s.contextOfModule n a = some ci) (hc : s.contextAt ci = some c)
    (h : c.claims = [] ∧ ((c.display reboot r.generation).displayed.faces = [] ∨ (s.link n a).presence = .lost))
    (hdeferred : s.pm.deferred = []) : s.displayed n a reboot r = s.setContext ci none := by
  rw [State.displayed_of_hot hm, State.displayReport, hc]
  dsimp only
  rw [State.reportContext_of_noDeferred hdeferred (State.lt_of_contextAt hc), if_pos ((State.freeable_display hm hc).2 h)]

end Display

/-! ### The lines, taken up once or twice -/

/-- The lines are taken up, behind the offer of the head too: what that leaves of a state (R8, R83, R90). -/
structure State.Resumes (s t : State) : Prop where
  lasting : t.lasting = s.lasting
  inRun : t.inRun = s.inRun
  closes : s.ClosesStrings t
  sweeps : ∀ (n : Nat) (w : Sweep), n < 4 → s.strings.length = 4 → s.Sweeping n → (s.stringAt n).sweep = some w →
    w.address ≤ (s.stringAt n).ceiling →
      (t.stringAt n).sweep = some w ∧ t.Sweeping n ∧ (t.stringAt n).ceiling = (s.stringAt n).ceiling

theorem State.resumes_kick (s : State) : s.Resumes s.kick :=
  ⟨s.kick_lasting, State.inRun_of_frame s.kick_frame, s.closesStrings_kick,
    fun _ _ hn hs h hsweep hw => h.kick hn hs hsweep hw⟩

theorem State.Resumes.trans {s t u : State} (h : s.Resumes t) (k : t.Resumes u) : s.Resumes u := by
  refine ⟨k.lasting.trans h.lasting, k.inRun.trans h.inRun, h.closes.trans k.closes h.inRun, fun n w hn hs hmode hsweep hw => ?_⟩
  obtain ⟨hsweep', hmode', hceiling⟩ := h.sweeps n w hn hs hmode hsweep hw
  obtain ⟨hsweep'', hmode'', hceiling'⟩ := k.sweeps n w hn ((State.stringCount_of_lasting h.lasting).trans hs) hmode' hsweep'
    (by rw [hceiling]; exact hw)
  exact ⟨hsweep'', hmode'', hceiling'.trans hceiling⟩

theorem State.resumes_of_outside {s t : State} (h : t.outside = s.outside) : s.Resumes t := by
  have hstrings := State.strings_of_outside h
  have hcontexts := State.contexts_of_outside h
  have hlasting : t.lasting = s.lasting := by
    simp [State.lasting, State.cores, hstrings, hcontexts]
  refine ⟨hlasting, ?_, State.closesStrings_of_jw (State.jw_of_outside h), fun n w _ _ hmode hsweep _ => ?_⟩
  · rw [State.inRun, State.run_of_outside h, State.inRun]
  · rw [State.stringAt_of_strings hstrings]
    refine ⟨hsweep, ?_, rfl⟩
    rwa [State.Sweeping, State.stringAt_of_strings hstrings, State.anyHot_of_lasting hlasting]

/-- An entry that has become FREE offers the head, and the lines are taken up again (R8; log 34). -/
theorem State.Undamaged.resumes_reoffer {s : State} (hs : s.Undamaged) (free : Nat) : s.Resumes (s.reoffer free) := by
  unfold State.reoffer
  split
  · rw [s.checkContexts_of_intact hs.contexts]
    exact (State.resumes_of_outside s.offerHead_outside).trans (State.resumes_kick _)
  · exact State.resumes_of_outside rfl

/-! ### The sweep after a reply -/

/-- A survey or sweep after a reply: a dark FACES where darkening is due, else the next address (R78, R84; log 42). -/
def Sweep.heard (w : Sweep) (darkening lamp : Bool) : Sweep :=
  let good := w.lampsGood + if lamp then 1 else 0
  if darkening then { w with dark := true, lampsGood := good }
  else { address := w.address + 1, tries := 0, dark := false, lampsGood := good }

theorem State.sweepHeard_eq {s : State} {n : Nat} (hn : n < s.strings.length) (a : Nat) (kind : ExchangeKind) (r : Reply) :
    s.sweepHeard n a kind r = s.withSweep n
      ((s.stringAt n).sweep.map fun w => w.heard (s.link n a).darkeningDue (kind == .poll && !r.lampFault)) := by
  unfold State.sweepHeard
  dsimp only
  split
  · next hw => rw [hw]; rfl
  · next hw => rw [State.withSweep_self hn (by rw [hw]; rfl)]

/-! ### The exchange that is heard -/

/-- The reply with its presses, before its report is taken: the obligation's `v`. -/
def State.pressed (s : State) (n a : Nat) (kind : ExchangeKind) (r : Reply) : State := (s.endLine n).hearPresses n a kind r

/-- The report of a reply, behind its presses: the obligation's `w`. -/
def State.shown (s : State) (n a : Nat) (kind : ExchangeKind) (r : Reply) : State :=
  (s.pressed n a kind r).displayed n a ((s.link n a).reboots r) r

/-- All steps of a reply (R74). -/
def State.reported (s : State) (n a : Nat) (kind : ExchangeKind) (r : Reply) : State :=
  (s.pressed n a kind r).hearStatus n a ((s.link n a).reboots r) r

/-- The reply with its sweep, before the lines are taken up. -/
def State.heard (s : State) (n a : Nat) (kind : ExchangeKind) (sweep : Bool) (r : Reply) : State :=
  let t := s.reported n a kind r
  if sweep then t.sweepHeard n a kind r else t

section Exchange

variable {s : State} (hs : s.Shape) (n : Fin 4) (a : Nat) (kind : ExchangeKind) (sweep : Bool) (r : Reply)
include hs

theorem State.exchangeHeard_eq_heard : s.exchangeHeard n a kind sweep r = (s.heard n a kind sweep r).kick := by
  have hlink := State.link_endLine (hs.lt_strings n) a
  unfold State.exchangeHeard State.heard State.reported State.pressed State.handleReply ModuleLink.reboots
  dsimp only
  rw [hlink]

theorem State.reported_length : (s.reported n a kind r).strings.length = 4 := by
  rw [State.reported, State.stringCount_of_frame (State.hearStatus_frame _ _ _ _ _), State.pressed,
    State.stringCount_of_frame (State.hearPresses_frame _ _ _ _ _), State.endLine, State.setString_length, hs.strings_length]

theorem State.heard_eq : ∃ w, s.heard n a kind sweep r =
    (s.reported n a kind r).withSweep n w := by
  have hlt := lt_of_lt_of_eq n.isLt (State.reported_length hs n a kind r).symm
  unfold State.heard
  dsimp only
  split
  · exact ⟨_, State.sweepHeard_eq hlt a kind r⟩
  · exact ⟨_, (State.withSweep_self hlt rfl).symm⟩

/-- Behind the display report a reply leaves the tables, and offers its advisories alone (R74). -/
theorem State.heard_keeps : (s.heard n a kind sweep r).contexts = (s.shown n a kind r).contexts ∧
    (s.heard n a kind sweep r).pm = (s.shown n a kind r).pm ∧
    (s.heard n a kind sweep r).jw =
      ((s.pressed n a kind r).answered (s.shown n a kind r) n a ((s.link n a).reboots r) r).jw ∧
    (s.heard n a kind sweep r).lrc = (s.shown n a kind r).lrc ∧ (s.heard n a kind sweep r).strings.length = 4 := by
  obtain ⟨w, hw⟩ := State.heard_eq hs n a kind sweep r
  obtain ⟨hcontexts, hpm, hjw, hlrc⟩ := State.hearStatus_keeps (s := s.pressed n a kind r) (n := n) (a := a)
    (reboot := (s.link n a).reboots r) (r := r)
  rw [hw]
  exact ⟨hcontexts, hpm, hjw, hlrc, (State.setString_length _ _ _).trans (State.reported_length hs n a kind r)⟩

variable (hi : s.Intact)
include hi

theorem State.attributes_pressed : (s.sequenceHeard n a kind r).Attributes (s.pressed n a kind r) :=
  hi.undamaged.attributes_hearPresses (hs.lt_strings n) a kind r

theorem State.pressed_lrc : (s.pressed n a kind r).lrc = s.lrc := by
  obtain ⟨-, -, -, hlrc⟩ := s.sequenceHeard_tables a kind r
  exact (State.attributes_pressed hs n a kind r hi).lrc.trans hlrc

/-- The report works on the tables that the presses leave (R74). -/
theorem State.tableWork_shown : (s.pressed n a kind r).TableWork (s.shown n a kind r) :=
  (State.attributes_pressed hs n a kind r hi).undamaged.tableWork_displayed

/-- The string of the module as its report is taken (R73, R74). -/
theorem State.shown_stringAt : ∃ timer, (s.shown n a kind r).stringAt n =
    StringCtl.setLink { s.stringAt n with line := .idle, dormancyTimer := timer } a
      ((s.link n a).heard r.fresh (kind == .dark) ((s.link n a).judge r).2) := by
  obtain ⟨timer, htimer⟩ := State.sequenceHeard_stringAt (hs.lt_strings n) a kind r
  refine ⟨timer, ?_⟩
  rw [(State.tableWork_shown hs n a kind r hi).stringAt,
    State.stringAt_of_strings (State.attributes_pressed hs n a kind r hi).strings, htimer]

theorem State.shown_length : (s.shown n a kind r).strings.length = 4 := by
  rw [(State.tableWork_shown hs n a kind r hi).strings, State.pressed,
    State.stringCount_of_frame (State.hearPresses_frame _ _ _ _ _), State.endLine, State.setString_length, hs.strings_length]

variable (ha : 1 ≤ a) (htop : a ≤ 120)
include ha htop

/-- The per-address state of the module behind the report (R73, R74). -/
theorem State.shown_link : (s.shown n a kind r).link n a =
    (s.link n a).heard r.fresh (kind == .dark) ((s.link n a).judge r).2 := by
  obtain ⟨timer, htimer⟩ := State.shown_stringAt hs n a kind r hi
  rw [State.link, htimer]
  exact StringCtl.link_setLink_self _ _ ha (le_of_le_of_eq htop (hs.modules_length n).symm)

/-- The per-address state of a module that has answered (R73, R74). -/
def State.linkHeard (s : State) (n a : Nat) (kind : ExchangeKind) (r : Reply) : ModuleLink :=
  { presence := .present, lastSequence := ((s.link n a).judge r).2, misses := 0, bootNoted := r.fresh
    darkeningDue := ((s.link n a).darkeningDue && !(kind == .dark)) ||
      (s.shown n a kind r).darkens n a ((s.link n a).reboots r) r.fresh r.generation }

/-- The string of the module behind all steps of the reply (R74). -/
theorem State.reported_stringAt : ∃ timer,
    (s.reported n a kind r).stringAt n =
      StringCtl.setLink { s.stringAt n with line := .idle, dormancyTimer := timer } a (s.linkHeard n a kind r) := by
  obtain ⟨timer, htimer⟩ := State.shown_stringAt hs n a kind r hi
  have hlen : a ≤ ((s.shown n a kind r).stringAt n).modules.length := by
    rw [htimer, StringCtl.setLink_size]
    exact le_of_le_of_eq htop (hs.modules_length n).symm
  refine ⟨timer, ?_⟩
  rw [State.reported, State.hearStatus_stringAt (w := s.shown n a kind r) rfl
    (lt_of_lt_of_eq n.isLt (State.shown_length hs n a kind r hi).symm) ha hlen, htimer,
    State.shown_link hs n a kind r hi ha htop, StringCtl.setLink_setLink]
  rfl

/-- A reply writes the per-address state of its module and no other (R73, R74). -/
theorem State.heard_link (b : Nat) : (s.heard n a kind sweep r).link n b =
    if b = a then s.linkHeard n a kind r else s.link n b := by
  obtain ⟨w, hw⟩ := State.heard_eq hs n a kind sweep r
  obtain ⟨timer, htimer⟩ := State.reported_stringAt hs n a kind r hi ha htop
  have hlt := lt_of_lt_of_eq n.isLt (State.reported_length hs n a kind r).symm
  rw [hw, State.link_withSweep hlt, State.link, htimer]
  split
  · next hb =>
    subst hb
    exact StringCtl.link_setLink_self _ _ ha (le_of_le_of_eq htop (hs.modules_length n).symm)
  · next hb => exact StringCtl.link_setLink_of_ne _ _ hb

/-- Before the report the presence entry stands (R74). -/
theorem State.pressed_presence : ((s.pressed n a kind r).link n a).presence = (s.link n a).presence := by
  rw [← (State.tableWork_shown hs n a kind r hi).link, State.shown_link hs n a kind r hi ha htop]
  rfl

omit ha htop in
/-- The lines are taken up behind a reply, and again behind the head that it lets be offered (R8, R74). -/
theorem State.resumes_reply :
    (s.heard n a kind sweep r).Resumes ((s.exchangeHeard n a kind sweep r).reoffer s.pm.free) := by
  obtain ⟨hcontexts, hpm, -, -, -⟩ := State.heard_keeps hs n a kind sweep r
  have hundamaged : (s.heard n a kind sweep r).Undamaged := (State.tableWork_shown hs n a kind r hi).undamaged.of_tables
    (congrArg PickManager.entries hpm) hcontexts
  rw [State.exchangeHeard_eq_heard hs]
  exact (State.resumes_kick _).trans (hundamaged.follows_kick.undamaged.resumes_reoffer _)

/-- A survey or sweep goes on behind a reply up to its ceiling (R78, R82). -/
theorem State.reply_sweep {x : Sweep} (hx : (s.stringAt n).sweep = some x) {t : State}
    (ht : (s.heard n a kind true r).Resumes t)
    (hmode : (s.stringAt n).mode = .surveying ∨
      ((s.stringAt n).mode = .quiet ∧ t.anyHot n = false ∧ (s.stringAt n).dormancyDue = false))
    (htop' : (x.heard (t.link n a).darkeningDue (kind == .poll && !r.lampFault)).address ≤ (s.stringAt n).ceiling) :
    (t.stringAt n).sweep = some (x.heard (t.link n a).darkeningDue (kind == .poll && !r.lampFault)) := by
  have hlength := State.reported_length hs n a kind r
  have hlt := lt_of_lt_of_eq n.isLt hlength.symm
  obtain ⟨timer, htimer⟩ := State.reported_stringAt hs n a kind r hi ha htop
  have hlink : t.link n a = (s.reported n a kind r).link n a := by
    rw [State.link_of_lasting ht.lasting, State.heard_link hs n a kind true r hi ha htop, if_pos rfl, State.link, htimer]
    refine (StringCtl.link_setLink_self _ _ ha ?_).symm
    exact le_of_le_of_eq htop (hs.modules_length n).symm
  rw [hlink] at htop' ⊢
  have hheard : s.heard n a kind true r = (s.reported n a kind r).withSweep n
      (some (x.heard ((s.reported n a kind r).link n a).darkeningDue (kind == .poll && !r.lampFault))) := by
    refine (State.sweepHeard_eq hlt a kind r).trans ?_
    rw [htimer, StringCtl.setLink_sweep, hx, Option.map_some]
  generalize x.heard ((s.reported n a kind r).link n a).darkeningDue (kind == .poll && !r.lampFault) = w at htop' hheard ⊢
  have hat := (congrArg (State.stringAt · n) hheard).trans (State.withSweep_stringAt hlt _)
  rw [htimer] at hat
  rw [State.anyHot_of_lasting ht.lasting] at hmode
  have hceiling := StringCtl.setLink_ceiling { s.stringAt n with line := .idle, dormancyTimer := timer } (a := a)
    (s.linkHeard n a kind r)
  have hsweeping : (s.heard n a kind true r).Sweeping n := by simpa [State.Sweeping, hat] using hmode
  obtain ⟨hgoes, -⟩ := ht.sweeps n w n.isLt (by rw [hheard, State.withSweep, State.setString_length, hlength]) hsweeping
    (by rw [hat]) (by rw [hat]; exact htop'.trans hceiling.ge)
  exact hgoes

omit hi ha htop in
/-- Where no event is accepted, and out of a run, the presses leave the tables and the report list (R74). -/
theorem State.pressed_of_none (h : ((s.link n a).judge r).1 = [] ∨ s.inRun = false) :
    (s.pressed n a kind r).contexts = s.contexts ∧ (s.pressed n a kind r).pm = s.pm ∧ (s.pressed n a kind r).jw = s.jw := by
  obtain ⟨hcontexts, hpm, hjw, -⟩ := s.sequenceHeard_tables (n := n) a kind r
  rw [State.pressed, State.hearPresses_of_none (hs.lt_strings n) a kind r h]
  exact ⟨hcontexts, hpm, hjw⟩

omit hi ha htop in
/-- A context with claims shows what the reply reports (R26, R74). -/
theorem State.reply_context {t : State} (ht : (s.heard n a kind sweep r).Resumes t) {ci : Nat} {c : Context}
    (hm : s.contextOfModule n a = some ci) (hc : s.contextAt ci = some c) (hne : c.claims ≠ [])
    (haccepted : ((s.link n a).judge r).1 = []) : ∃ d, t.contextAt ci = some d ∧ d.claims = c.claims ∧ d.pin = c.pin ∧
      d.displayed = (c.display ((s.link n a).reboots r) r.generation).displayed := by
  obtain ⟨hcontexts, -, -⟩ := State.pressed_of_none hs n a kind r (.inl haccepted)
  obtain ⟨hheard, -⟩ := State.heard_keeps hs n a kind sweep r
  have hmv : (s.pressed n a kind r).contextOfModule n a = some ci := (State.contextOfModule_of_contexts hcontexts n a).trans hm
  have hcv : (s.pressed n a kind r).contextAt ci = some c := (State.contextAt_of_contexts hcontexts ci).trans hc
  have hshown : s.shown n a kind r = _ := State.displayed_of_stands hmv hcv fun h => hne h.1
  have hset := State.contextAt_setContext_self (s.pressed n a kind r) ci
    (some (c.display ((s.link n a).reboots r) r.generation)) (State.lt_of_contextAt hcv)
  rw [← hshown, ← State.contextAt_of_contexts hheard] at hset
  obtain ⟨x, hx⟩ := State.contextAt_of_lasting ht.lasting hset
  exact ⟨_, hx, c.display_claims _ _, c.display_pin _ _, rfl⟩

omit ha htop in
/-- Out of a run a reply tells nothing (R90). -/
theorem State.reply_report_of_notInRun {t : State} (ht : (s.heard n a kind sweep r).Resumes t) (hrun : s.inRun = false) :
    t.jw.report = (s.shown n a kind r).jw.report := by
  obtain ⟨-, -, hjw, hlrc, -⟩ := State.heard_keeps hs n a kind sweep r
  have hlrcs := hlrc.trans ((State.tableWork_shown hs n a kind r hi).lrc.trans (State.pressed_lrc hs n a kind r hi))
  have hshownRun : (s.shown n a kind r).inRun = false := by rw [State.inRun, ← hlrc, hlrcs]; exact hrun
  have hheardRun : (s.heard n a kind sweep r).inRun = false := by rw [State.inRun, hlrcs]; exact hrun
  obtain ⟨more, hmore, hcloses⟩ := ht.closes
  have hnone : more = [] := List.eq_nil_iff_forall_not_mem.2 fun x hx => by
    obtain ⟨hin, -⟩ := hcloses x hx
    exact Bool.false_ne_true (hheardRun.symm.trans hin)
  rw [hmore, hnone, List.map_nil, List.append_nil, hjw, State.answered_jw_of_notInRun _ hshownRun]

/-- In a run a reply tells of the return of its module and of an overflow, before what the lines tell (R74, R86, R90). -/
theorem State.reply_report {t : State} (ht : (s.heard n a kind sweep r).Resumes t) (hrun : s.inRun = true)
    (hspare : 2 ≤ (s.shown n a kind r).jw.spare) :
    ∃ closings, t.jw.report = (s.shown n a kind r).jw.report ++
        (if (s.link n a).presence = .lost ∨
            ((s.link n a).presence = .present ∧ (s.link n a).reboots r = true ∧
              (s.pressed n a kind r).contextOfModule n a ≠ none) then
          [(s.shown n a kind r).tells n a .moduleBack (if (s.link n a).reboots r then .reboot else .returned)] else []) ++
        (if r.overflow then [(s.shown n a kind r).tells n a .pressOverflow .none] else []) ++ closings ∧
      ∀ x ∈ closings, ∃ rec, x = .advisory rec ∧ (rec.kind = .censusDone ∨ rec.kind = .testDone) := by
  obtain ⟨-, -, hjw, -⟩ := State.heard_keeps hs n a kind sweep r
  have hlrcs := (State.tableWork_shown hs n a kind r hi).lrc.trans (State.pressed_lrc hs n a kind r hi)
  have hshownRun : (s.shown n a kind r).inRun = true := by rw [State.inRun, hlrcs]; exact hrun
  have hback : moduleBack ((s.pressed n a kind r).link n a).presence ((s.pressed n a kind r).hot n a)
        ((s.link n a).reboots r) = true ↔
      (s.link n a).presence = .lost ∨
        ((s.link n a).presence = .present ∧ (s.link n a).reboots r = true ∧
          (s.pressed n a kind r).contextOfModule n a ≠ none) := by
    rw [moduleBack_iff, State.pressed_presence hs n a kind r hi ha htop, State.hot, Option.isSome_iff_ne_none]
  obtain ⟨more, hmore, hcloses⟩ := ht.closes
  refine ⟨more.map Item.advisory, ?_, fun x hx => ?_⟩
  · rw [hmore, hjw, State.answered_report _ hshownRun hspare]
    simp only [hback]
  · obtain ⟨rec, hrec, rfl⟩ := List.mem_map.1 hx
    obtain ⟨-, hkind, -⟩ := hcloses rec hrec
    exact ⟨rec, rfl, hkind.symm⟩

end Exchange

/-- What an advisory about a module says, with the clock and the slot spelled out (R90). -/
theorem State.tells_eq {s t : State} (hlrc : t.lrc = s.lrc) (n a : Nat) (kind : RecordKind) (cause : Cause) :
    t.tells n a kind cause = .advisory
      { kind := kind, cause := cause, lane := 0, adjusted := false, urgent := false, quiet := false, suspectTag := false
        overdueReported := false, tag := locator n a 0 0 0 0
        slot := BitVec.ofNat 16 ((((t.contextOfModule n a).bind t.contextAt).map Context.slot).getD 1024), requested := 0
        confirmed := 0, bundleSize := 1, bundlePosition := 1, intakeSequence := 0, timeAccepted := s.lrc.clock
        timeClosed := s.lrc.clock } := by
  have hnow : t.now = s.lrc.clock := by rw [State.now, hlrc]
  have hslot : t.slotOfModule n a = (((t.contextOfModule n a).bind t.contextAt).map Context.slot).getD 1024 := by
    rw [State.slotOfModule, Option.map_bind]
    rfl
  rw [State.tells, hslot, State.advisory, hnow]
  rfl

/-- Whether step 6 sets darkening due at a cold address (R74). -/
theorem State.darkens_of_cold {s : State} {n a : Nat} (h : s.contextOfModule n a = none) (reboot fresh : Bool) (generation : Nat) :
    s.darkens n a reboot fresh generation = (reboot || generation != 0) := by
  simp only [State.darkens, h]

/-- Whether step 6 sets darkening due at a hot address (R74). -/
theorem State.darkens_of_hot {s : State} {n a ci : Nat} {c : Context} (h : s.contextOfModule n a = some ci)
    (hc : s.contextAt ci = some c) (reboot fresh : Bool) (generation : Nat) : s.darkens n a reboot fresh generation =
      (!fresh && generation != 0 && c.displayed.generation == 0 && c.pending.isNone) := by
  simp only [State.darkens, h, hc]

/-- Settles O41, by the steps of a reply in order: the sequence, the presses, the display report, the advisories, darkening. -/
theorem repliesUpdateTheModule : Obligations.RepliesUpdateTheModule := by
  unfold Obligations.RepliesUpdateTheModule
  refine ⟨⟨judgeEvents_all, fun k e es hk _ => ⟨fun h => ?_, fun h => ?_⟩, judgeEvents_sublist⟩, ?_⟩
  · exact judgeEvents_of_accepted (by rw [(accepts_iff hk).2 h]; rfl) es
  · exact judgeEvents_of_rejected (by rwa [← (accepts_iff hk), Bool.not_eq_true] at h) es
  intro s n frame a kind sweep r hi hs hline ha htop hr m reboot before accepted v w shown holds slot advisory
  have ht := State.resumes_reply hs n a kind sweep r hi
  have hlink (b : Nat) := (State.link_of_lasting ht.lasting n b).trans (State.heard_link hs n a kind sweep r hi ha htop b)
  have hown := (hlink a).trans (if_pos rfl)
  have hpresence : (v.link n a).presence = m.presence := State.pressed_presence hs n a kind r hi ha htop
  have hlrc := (State.tableWork_shown hs n a kind r hi).lrc.trans (State.pressed_lrc hs n a kind r hi)
  have hdisplay (c : Context) : c.display reboot r.generation = shown c := c.display_eq reboot r.generation
  refine ⟨_, exec_moduleReply hi hline hr, congrArg ModuleLink.presence hown, congrArg ModuleLink.misses hown,
    congrArg ModuleLink.bootNoted hown, congrArg ModuleLink.lastSequence hown, fun b hb => (hlink b).trans (if_neg hb),
    State.pressed_of_none hs n a kind r, fun ci c hm hc => ⟨fun hne => ?_, fun hclaims hlit hhere => ?_,
      fun hclaims hdark hdeferred => ?_⟩, fun ci c hm hc hne haccepted => ?_, State.reply_report_of_notInRun hs n a kind sweep r hi ht,
    fun hrun hspare => ?_, fun hcold => ?_, fun ci c hm hc => ?_, fun x hsweep hx hmode => ?_⟩
  · exact (State.displayed_of_stands hm hc fun h => hne h.1).trans (by rw [hdisplay]; rfl)
  · refine (State.displayed_of_stands hm hc fun h => ?_).trans (by rw [hdisplay]; rfl)
    rw [hdisplay, hpresence] at h
    exact h.2.elim hlit hhere
  · exact State.displayed_of_freed hm hc ⟨hclaims, by rw [hdisplay, hpresence]; exact hdark⟩ hdeferred
  · rw [← hdisplay]
    exact State.reply_context hs n a kind sweep r ht hm hc hne haccepted
  · have htold := State.reply_report hs n a kind sweep r hi ha htop ht hrun hspare
    rw [State.tells_eq hlrc, State.tells_eq hlrc] at htold
    exact htold
  · rw [hown, Bool.or_assoc, ← State.darkens_of_cold (s := w) hcold reboot r.fresh r.generation]
    rfl
  · rw [hown, ← State.darkens_of_hot (s := w) hm hc reboot r.fresh r.generation]
    rfl
  · subst hsweep
    have hgoes := State.reply_sweep hs n a kind r hi ha htop hx ht hmode
    have hlamp : (if kind = .poll ∧ r.lampFault = false then 1 else 0) = if kind == .poll && !r.lampFault then 1 else 0 := by
      simp
    dsimp only
    rw [hlamp]
    split
    · next hdue =>
      rw [hdue] at hgoes
      exact hgoes
    · next hdue =>
      rw [Bool.eq_false_of_not_eq_true hdue] at hgoes
      exact hgoes

end Sys2Proof.Machine
end

section
/-! Proofs of the family of 05 (the slot atlas and its cache), first part: the ways and LRU bits after each write of the cache,
and the head lookup on ways with good parity (O26). -/

namespace Sys2Proof.Machine

/-! ### Reads of ways and LRU bits after writes -/

section Writes

variable {s : State}

theorem State.wayAt_of_ways {t : State} (h : t.ac.ways = s.ac.ways) (i : Nat) : t.wayAt i = s.wayAt i := by
  rw [State.wayAt, h, State.wayAt]

theorem State.lruOf_of_lru {t : State} (h : t.ac.lru = s.ac.lru) (k : Nat) : t.lruOf k = s.lruOf k := by
  rw [State.lruOf, h, State.lruOf]

/-- A way reads as it was written. -/
theorem State.wayAt_setWay_self {i : Nat} (h : i < s.ac.ways.length) (w : Way) : (s.setWay i w).wayAt i = w := by
  simp [State.wayAt, State.setWay, List.getD, h]

/-- Writing a way leaves the others. -/
theorem State.wayAt_setWay_of_ne {i j : Nat} (h : j ≠ i) (w : Way) : (s.setWay i w).wayAt j = s.wayAt j := by
  simp [State.wayAt, State.setWay, List.getD, h.symm]

/-- An LRU bit reads as it was written. -/
theorem State.lruOf_setLru_self {k : Nat} (h : k < s.ac.lru.length) (b : Bool) : (s.setLru k b).lruOf k = b := by
  simp [State.lruOf, State.setLru, List.getD, h]

/-- Writing an LRU bit leaves the others. -/
theorem State.lruOf_setLru_of_ne {k j : Nat} (h : j ≠ k) (b : Bool) : (s.setLru k b).lruOf j = s.lruOf j := by
  simp [State.lruOf, State.setLru, List.getD, h.symm]

/-- An LRU bit written as it stands changes nothing. -/
theorem State.setLru_lruOf (k : Nat) : s.setLru k (s.lruOf k) = s := by
  have h : s.ac.lru.set k (s.lruOf k) = s.ac.lru := by
    refine List.ext_getElem (by simp) fun i hi hk => ?_
    rw [List.getElem_set]
    split
    · next heq => rw [State.lruOf, heq, List.getD_eq_getElem _ _ hk]
    · rfl
  rw [State.setLru, h]
  rfl

theorem State.wayAt_invalidateWay_self {i : Nat} (h : i < s.ac.ways.length) :
    (s.invalidateWay i).wayAt i = { s.wayAt i with valid := false, parity := true } := State.wayAt_setWay_self h _

theorem State.wayAt_invalidateWay_of_ne {i j : Nat} (h : j ≠ i) : (s.invalidateWay i).wayAt j = s.wayAt j :=
  State.wayAt_setWay_of_ne h _

/-- The LRU bit of a set names the way invalidated (R97). -/
theorem State.lruOf_invalidateWay_self {i : Nat} (h : i / 2 < s.ac.lru.length) :
    (s.invalidateWay i).lruOf (i / 2) = (i % 2 == 1) :=
  State.lruOf_setLru_self (s := s.setWay i { s.wayAt i with valid := false, parity := true }) h _

theorem State.lruOf_invalidateWay_of_ne {i k : Nat} (h : k ≠ i / 2) : (s.invalidateWay i).lruOf k = s.lruOf k :=
  State.lruOf_setLru_of_ne (s := s.setWay i { s.wayAt i with valid := false, parity := true }) h _

end Writes

/-! ### A cache of its size with good parity -/

/-- The cache has its 64 sets of 2 ways, and none of the ways fails its check. -/
structure State.SoundCache (s : State) : Prop where
  ways : s.ac.ways.length = 128
  lru : s.ac.lru.length = 64
  parity : ∀ w ∈ s.ac.ways, w.parity = true

theorem State.Shape.ways_length {s : State} (h : s.Shape) : s.ac.ways.length = 128 := by
  obtain ⟨-, -, hways, -⟩ := h
  exact hways

theorem State.Shape.lru_length {s : State} (h : s.Shape) : s.ac.lru.length = 64 := by
  obtain ⟨-, -, -, hlru, -⟩ := h
  exact hlru

theorem State.Shape.soundCache {s : State} (h : s.Shape) (hp : ∀ w ∈ s.ac.ways, w.parity = true) : s.SoundCache :=
  ⟨h.ways_length, h.lru_length, hp⟩

theorem State.Intact.soundCache {s : State} (h : s.Intact) (hs : s.Shape) : s.SoundCache := by
  obtain ⟨-, -, hways⟩ := h
  exact hs.soundCache hways

theorem setOf_lt (slot : Nat) : setOf slot < 64 := Nat.mod_lt _ (by decide)

/-- The way that the LRU bit of a set names lies in the cache. -/
theorem State.lruWay_lt (s : State) (slot : Nat) : s.lruWay (setOf slot) < 128 := by
  have h := setOf_lt slot
  unfold State.lruWay
  split <;> omega

section Sound

variable {s : State} (h : s.SoundCache)
include h

theorem State.SoundCache.of_ways {t : State} (hw : t.ac.ways = s.ac.ways) (hl : t.ac.lru.length = s.ac.lru.length) :
    t.SoundCache := ⟨hw ▸ h.ways, hl.trans h.lru, hw ▸ h.parity⟩

theorem State.SoundCache.setLru (k : Nat) (b : Bool) : (s.setLru k b).SoundCache :=
  h.of_ways rfl (by simp [State.setLru])

theorem State.SoundCache.setWay (i : Nat) {w : Way} (hw : w.parity = true) : (s.setWay i w).SoundCache where
  ways := by simpa [State.setWay] using h.ways
  lru := h.lru
  parity x hx := (List.mem_or_eq_of_mem_set hx).elim (h.parity x) fun hxw => hxw ▸ hw

theorem State.SoundCache.invalidateWay (i : Nat) : (s.invalidateWay i).SoundCache := (h.setWay i rfl).setLru _ _

theorem State.SoundCache.install (slot : Nat) (f : AtlasFields) : (s.install slot f).SoundCache := (h.setWay _ rfl).setLru _ _

theorem State.SoundCache.parity_wayAt {i : Nat} (hi : i < 128) : (s.wayAt i).parity = true := by
  have hlt : i < s.ac.ways.length := h.ways.symm ▸ hi
  rw [State.wayAt, List.getD_eq_getElem _ _ hlt]
  exact h.parity _ (List.getElem_mem hlt)

theorem State.SoundCache.checkWay_eq {i : Nat} (hi : i < 128) : s.checkWay i = s :=
  s.checkWay_of_intact h.parity i (h.ways.symm ▸ hi)

theorem State.SoundCache.checkSet_eq (slot : Nat) : s.checkSet slot = s := by
  have hset := setOf_lt slot
  rw [State.checkSet, h.checkWay_eq (by omega), h.checkWay_eq (by omega)]

end Sound

/-! ### The way that holds a slot -/

section Holds

variable {s : State} {slot : Nat}

theorem State.wayHolds_iff (i : Nat) :
    s.wayHolds i slot = true ↔ (s.wayAt i).valid = true ∧ (s.wayAt i).tag = slot / 64 := by
  simp [State.wayHolds]

theorem State.wayOf_of_first (h : s.wayHolds (2 * setOf slot) slot = true) : s.wayOf slot = some (2 * setOf slot) := if_pos h

theorem State.wayOf_of_second (h : ¬s.wayHolds (2 * setOf slot) slot = true) (k : s.wayHolds (2 * setOf slot + 1) slot = true) :
    s.wayOf slot = some (2 * setOf slot + 1) := (if_neg h).trans (if_pos k)

theorem State.wayOf_eq_none_iff : s.wayOf slot = none ↔
    ¬s.wayHolds (2 * setOf slot) slot = true ∧ ¬s.wayHolds (2 * setOf slot + 1) slot = true := by
  unfold State.wayOf
  split
  · next h => simp [h]
  · next h => split <;> simp_all

end Holds

/-! ### The head lookup -/

/-- The lookahead's fields move into the way that the LRU bit names, and the lookahead is emptied (R98). -/
def State.promote (s : State) (slot : Nat) (f : AtlasFields) : State :=
  (s.install slot f).setAc { (s.install slot f).ac with lookahead := none }

section Lookup

variable {s : State} (h : s.SoundCache) {slot : Nat}
include h

/-- A hit in a way hands its fields over, and the LRU bit names the other way (R98). -/
theorem State.SoundCache.lookup_of_way {i : Nat} (hi : s.wayOf slot = some i) :
    s.lookup slot = (s.setLru (setOf slot) (i % 2 == 0), some (s.wayAt i).fields) := by
  simp only [State.lookup, h.checkSet_eq, hi]

/-- A hit in the lookahead hands its fields over and moves them into a way (R98). -/
theorem State.SoundCache.lookup_of_lookahead (hw : s.wayOf slot = none) {x : Lookahead} (hx : s.ac.lookahead = some x)
    (hslot : x.slot = slot) : s.lookup slot = (s.promote slot x.fields, some x.fields) := by
  have hsome : (s.ac.lookahead.filter fun x => x.slot == slot) = some x := by simp [hx, hslot]
  simp only [State.lookup, h.checkSet_eq, hw, hsome]
  rfl

/-- A miss changes nothing (R98). -/
theorem State.SoundCache.lookup_of_miss (hw : s.wayOf slot = none) (hx : ∀ x, s.ac.lookahead = some x → x.slot ≠ slot) :
    s.lookup slot = (s, none) := by
  have hnone : (s.ac.lookahead.filter fun x => x.slot == slot) = none := by simpa using hx
  simp only [State.lookup, h.checkSet_eq, hw, hnone]

end Lookup

/-! ### A way that fails its check -/

section Damaged

variable {s : State}

theorem State.checkWay_of_damaged {i : Nat} (h : (s.wayAt i).parity = false) :
    s.checkWay i = (s.invalidateWay i).reportFault .atlas i := if_neg (by simp [h])

/-- Reporting a fault leaves the cache. -/
theorem State.reportFault_ac (x : FaultTable) (i : Nat) : (s.reportFault x i).ac = s.ac :=
  State.ac_of_frame (s.reportFault_frame x i)

/-- The first fault is captured (R174). -/
theorem State.reportFault_capture (h : s.tiu.capture.frozen = false) (x : FaultTable) (i : Nat) :
    (s.reportFault x i).tiu.capture = { table := x, index := i, clock := s.now, frozen := true, further := false } := by
  simp [State.reportFault, h]

end Damaged

/-- Settles O26: a lookup of sound ways by what holds the slot, and a checked read of a damaged way. -/
theorem headLookupFindsTheFields : Obligations.HeadLookupFindsTheFields := by
  unfold Obligations.HeadLookupFindsTheFields
  constructor
  · intro s slot hshape hparity _ set holds
    have hsound := hshape.soundCache hparity
    have hholds (i : Nat) : holds i ↔ s.wayHolds i slot = true := (State.wayHolds_iff i).symm
    simp only [hholds]
    refine ⟨fun hfirst => ?_, fun hfirst hsecond => ?_, fun hfirst hsecond x hx hslot => ?_, fun hfirst hsecond hx => ?_⟩
    · rw [hsound.lookup_of_way (State.wayOf_of_first hfirst), Nat.mul_mod_right]
      rfl
    · rw [hsound.lookup_of_way (State.wayOf_of_second hfirst hsecond), Nat.mul_add_mod]
      rfl
    · exact hsound.lookup_of_lookahead (State.wayOf_eq_none_iff.2 ⟨hfirst, hsecond⟩) hx hslot
    · exact hsound.lookup_of_miss (State.wayOf_eq_none_iff.2 ⟨hfirst, hsecond⟩) hx
  · intro s i hshape hi hdamaged
    have hway : i < s.ac.ways.length := hshape.ways_length.symm ▸ hi
    have hset : i / 2 < s.ac.lru.length := by rw [hshape.lru_length]; omega
    have hout := s.checkWay_outside i
    have hac : (s.checkWay i).ac = (s.invalidateWay i).ac := by rw [State.checkWay_of_damaged hdamaged, State.reportFault_ac]
    have hwayAt := State.wayAt_of_ways (congrArg Cache.ways hac)
    refine ⟨?_, ?_, ?_, fun hfrozen => ?_, fun j hj => ?_, State.pm_of_outside hout, State.contexts_of_outside hout⟩
    · rw [hwayAt, State.wayAt_invalidateWay_self hway]
    · rw [hwayAt, State.wayAt_invalidateWay_self hway]
    · rw [State.lruOf_of_lru (congrArg Cache.lru hac), State.lruOf_invalidateWay_self hset]
    · rw [State.checkWay_of_damaged hdamaged, State.reportFault_capture (s := s.invalidateWay i) hfrozen]
      exact ⟨rfl, rfl⟩
    · rw [hwayAt, State.wayAt_invalidateWay_of_ne hj]

end Sys2Proof.Machine
end

section
/-! Proofs of the family of 05 (the slot atlas and its cache), second part: the offer of the head, the candidate search and the
arrivals of atlas fetches (O27). -/

namespace Sys2Proof.Machine

/-! ### The read of an atlas entry, and the fetches that it starts -/

@[simp] theorem State.readEntry_ac (s : State) (slot : Nat) : (s.readEntry slot).ac = s.ac := s.linkRead_ac _ _
@[simp] theorem State.readEntry_iu (s : State) (slot : Nat) : (s.readEntry slot).iu = s.iu := s.linkRead_iu _ _

theorem State.startAhead_ac (s : State) (slot : Nat) : (s.startAhead slot).ac = { s.ac with ahead := .underWay slot 0 } :=
  State.readEntry_ac _ _

theorem State.startAhead_iu (s : State) (slot : Nat) : (s.startAhead slot).iu = s.iu := State.readEntry_iu _ _

/-! ### The candidate search -/

section Search

variable {s : State} (h : s.SoundCache)
include h

/-- A search on sound ways starts one lookahead fetch or does nothing (R101). -/
theorem State.SoundCache.seekCandidate_cases (l : List TaskRecord) :
    s.seekCandidate l = s ∨ ∃ slot, s.seekCandidate l = s.startAhead slot := by
  induction l with
  | nil => exact .inl rfl
  | cons r rs ih =>
    simp only [State.seekCandidate, h.checkSet_eq]
    split
    · split
      · exact ih
      · exact .inr ⟨_, rfl⟩
    · exact ih

theorem State.SoundCache.candidateSearch_cases : s.candidateSearch = s ∨ ∃ slot, s.candidateSearch = s.startAhead slot := by
  unfold State.candidateSearch
  split
  · exact h.seekCandidate_cases _
  · exact .inl rfl

theorem State.SoundCache.candidateSearch_iu : s.candidateSearch.iu = s.iu := by
  obtain heq | ⟨slot, heq⟩ := h.candidateSearch_cases <;> rw [heq]
  exact s.startAhead_iu slot

/-- Of the cache the search changes the lookahead fetch alone. -/
theorem State.SoundCache.candidateSearch_ac : s.candidateSearch.ac = { s.ac with ahead := s.candidateSearch.ac.ahead } := by
  obtain heq | ⟨slot, heq⟩ := h.candidateSearch_cases <;> rw [heq]
  rw [s.startAhead_ac slot]

theorem State.SoundCache.candidateSearch_ahead :
    s.candidateSearch.ac.ahead = s.ac.ahead ∨ ∃ slot, s.candidateSearch.ac.ahead = .underWay slot 0 := by
  obtain heq | ⟨slot, heq⟩ := h.candidateSearch_cases <;> rw [heq]
  · exact .inl rfl
  · exact .inr ⟨slot, by rw [s.startAhead_ac slot]⟩

theorem State.SoundCache.candidateSearch_wayAt (i : Nat) : s.candidateSearch.wayAt i = s.wayAt i :=
  State.wayAt_of_ways (by rw [h.candidateSearch_ac]) i

theorem State.SoundCache.candidateSearch_lruOf (k : Nat) : s.candidateSearch.lruOf k = s.lruOf k :=
  State.lruOf_of_lru (by rw [h.candidateSearch_ac]) k

end Search

/-! ### The install of a fetched entry -/

section Install

variable {s : State} (h : s.SoundCache) (slot : Nat) (f : AtlasFields)
include h

/-- The way that the LRU bit names takes the fields (R100). -/
theorem State.SoundCache.wayAt_install_self : (s.install slot f).wayAt (s.lruWay (setOf slot)) =
    { parity := true, valid := true, tag := slot / 64, fields := f } :=
  State.wayAt_setWay_self (h.ways.symm ▸ s.lruWay_lt slot) _

theorem State.SoundCache.lruOf_install_self : (s.install slot f).lruOf (setOf slot) = !s.lruOf (setOf slot) :=
  State.lruOf_setLru_self (s := s.setWay _ _) (h.lru.symm ▸ setOf_lt slot) _

omit h in
theorem State.wayAt_install_of_ne {i : Nat} (hi : i ≠ s.lruWay (setOf slot)) : (s.install slot f).wayAt i = s.wayAt i :=
  State.wayAt_setWay_of_ne hi _

/-- A slot that no way held stands in the way that the LRU bit named (R100). -/
theorem State.SoundCache.wayOf_install (hw : s.wayOf slot = none) :
    (s.install slot f).wayOf slot = some (s.lruWay (setOf slot)) := by
  obtain ⟨hfirst, -⟩ := State.wayOf_eq_none_iff.1 hw
  have hself := h.wayAt_install_self slot f
  have hne := State.wayAt_install_of_ne (s := s) slot f (i := 2 * setOf slot)
  cases hl : s.lruOf (setOf slot)
  · have hway : s.lruWay (setOf slot) = 2 * setOf slot := by simp [State.lruWay, hl]
    rw [hway] at hself ⊢
    exact State.wayOf_of_first (by simp [State.wayHolds, hself])
  · have hway : s.lruWay (setOf slot) = 2 * setOf slot + 1 := by simp [State.lruWay, hl]
    rw [hway] at hself hne ⊢
    exact State.wayOf_of_second (by rwa [State.wayHolds, hne (by omega)]) (by simp [State.wayHolds, hself])

/-- The way installed last is not the one to be replaced next: a hit in it leaves the LRU bit (R97). -/
theorem State.SoundCache.lruOf_install_eq_parity :
    (s.install slot f).lruOf (setOf slot) = (s.lruWay (setOf slot) % 2 == 0) := by
  rw [h.lruOf_install_self]
  cases hl : s.lruOf (setOf slot) <;> simp [State.lruWay, hl]

end Install

/-! ### The offer of the head -/

section Offer

variable {s : State} {r : TaskRecord}

/-- A PICK at the head that needs its fields and waits for no fetch is looked up (R96). -/
theorem State.offerHead_of_asked (hh : s.HeadIs r .pick) (hw : s.headWaits = false) (hn : s.needsFields r.slot.toNat = true) :
    s.offerHead = (s.askAtlas r.slot.toNat).1 := by
  obtain ⟨hrun, hhead, htask⟩ := hh
  simp [State.offerHead, hhead, hrun, htask, hw, hn]

theorem State.askAtlas_of_found {slot : Nat} {t : State} {f : AtlasFields} (h : s.lookup slot = (t, some f)) :
    s.askAtlas slot = (t, some f) := by
  simp only [State.askAtlas, h]

theorem State.askAtlas_of_miss {slot : Nat} {t : State} (h : s.lookup slot = (t, none)) :
    s.askAtlas slot = (t.demand slot, none) := by
  simp only [State.askAtlas, h]

/-- A head whose slot stands in the way last used is offered with no change of the cache, whether it still needs its fields or
not. -/
theorem State.SoundCache.offerHead_of_recent (h : s.SoundCache) (hhead : s.head = some r) {i : Nat}
    (hway : s.wayOf r.slot.toNat = some i) (hlru : s.lruOf (setOf r.slot.toNat) = (i % 2 == 0)) : s.offerHead = s := by
  have hasked : (s.askAtlas r.slot.toNat).1 = s := by
    rw [State.askAtlas_of_found (h.lookup_of_way hway), ← hlru, State.setLru_lruOf]
  unfold State.offerHead
  rw [hhead]
  dsimp only
  rw [hasked, ite_self]

end Offer

/-! ### The arrivals -/

section Arrivals

variable {s : State} (hi : s.Intact) {entry : List Byte} {slot age : Nat}
include hi

theorem exec_atlasDemandArrival (hrun : s.inRun = true) (hd : s.ac.demand = .underWay slot age) (hlen : entry.length = 16) :
    exec (.atlasDemandArrival entry) s = .next (s.demandArrives slot (atlasEntry entry)) := by
  obtain ⟨-, hcontexts, -⟩ := hi
  have harises : (s.inRun && s.ac.demand.age.isSome) = true := by simp [hrun, hd, ReadState.age]
  have hexec : exec (.atlasDemandArrival entry) s = wellFormed (.atlasDemandArrival entry)
      (attempt (s.inRun && s.ac.demand.age.isSome) s
        (s.checkContexts.demandArrives s.ac.demand.what (atlasEntry entry))) := rfl
  rw [hexec, wellFormed_of_wf (by simp [Instr.wf, hlen]), attempt_of_arises harises, s.checkContexts_of_intact hcontexts, hd]
  rfl

theorem exec_atlasLookaheadArrival (hrun : s.inRun = true) (ha : s.ac.ahead = .underWay slot age) (hlen : entry.length = 16) :
    exec (.atlasLookaheadArrival entry) s = .next (s.aheadArrives slot (atlasEntry entry)) := by
  obtain ⟨-, hcontexts, -⟩ := hi
  have harises : (s.inRun && s.ac.ahead.age.isSome) = true := by simp [hrun, ha, ReadState.age]
  have hexec : exec (.atlasLookaheadArrival entry) s = wellFormed (.atlasLookaheadArrival entry)
      (attempt (s.inRun && s.ac.ahead.age.isSome) s
        (s.checkContexts.aheadArrives s.ac.ahead.what (atlasEntry entry))) := rfl
  rw [hexec, wellFormed_of_wf (by simp [Instr.wf, hlen]), attempt_of_arises harises, s.checkContexts_of_intact hcontexts, ha]
  rfl

end Arrivals

/-- The cache once a demand fetch is installed and no longer under way (R100). -/
def State.demanded (s : State) (slot : Nat) (f : AtlasFields) : State :=
  (s.install slot f).setAc { (s.install slot f).ac with demand := .idle }

/-- The lookahead entry filled, the fetch no longer under way (R102). -/
def State.filled (s : State) (slot : Nat) (f : AtlasFields) : State :=
  s.setAc { s.ac with lookahead := some { slot := slot, fields := f }, ahead := .idle }

/-- The lookahead entry filled, and the head that waited on it waits no longer (R102). -/
def State.filledForHead (s : State) (slot : Nat) (f : AtlasFields) : State :=
  (s.filled slot f).setIu { s.iu with onLookahead := false }

section Arrived

variable {s : State} {slot : Nat} (f : AtlasFields)

theorem State.demanded_outside : (s.demanded slot f).outside = s.outside :=
  (State.setAc_outside _ _ rfl rfl).trans (s.install_outside slot f)

theorem State.filled_outside : (s.filled slot f).outside = s.outside := State.setAc_outside _ _ rfl rfl

theorem State.promote_outside : (s.promote slot f).outside = s.outside :=
  (State.setAc_outside _ _ rfl rfl).trans (s.install_outside slot f)

theorem State.filledForHead_outside : (s.filledForHead slot f).outside = s.outside :=
  (State.setIu_outside _ _ rfl rfl rfl rfl rfl rfl).trans (State.filled_outside f)

/-- With no head that waits on it, a lookahead fetch fills the lookahead entry and no more (R102). -/
theorem State.aheadArrives_of_unawaited (hw : s.iu.onLookahead = false) :
    s.aheadArrives slot f = (s.filled slot f).candidateSearch :=
  congrArg State.candidateSearch (if_neg (by simp [hw]))

variable (h : s.SoundCache)
include h

theorem State.SoundCache.demanded : (s.demanded slot f).SoundCache := (h.install slot f).of_ways rfl rfl

theorem State.SoundCache.filled : (s.filled slot f).SoundCache := h.of_ways rfl rfl

theorem State.SoundCache.filledForHead : (s.filledForHead slot f).SoundCache := h.of_ways rfl rfl

theorem State.SoundCache.promote : (s.promote slot f).SoundCache := (h.install slot f).of_ways rfl rfl

/-- The new offer of the head changes nothing more: the way that it finds is the one last used (R100). -/
theorem State.SoundCache.demandArrives_eq {r : TaskRecord} (hhead : s.head = some r) (hw : s.wayOf r.slot.toNat = none) :
    s.demandArrives r.slot.toNat f = (s.demanded r.slot.toNat f).candidateSearch :=
  congrArg State.candidateSearch
    ((h.demanded f).offerHead_of_recent hhead (h.wayOf_install _ f hw) (h.lruOf_install_eq_parity _ f))

/-- A head that waited on the lookahead fetch is looked up again and moves the entry into a way (R102). -/
theorem State.SoundCache.aheadArrives_of_awaited {r : TaskRecord} (hh : s.HeadIs r .pick) (hw : s.iu.onLookahead = true)
    (hd : s.ac.demand = .idle) (hn : s.needsFields r.slot.toNat = true) (hway : s.wayOf r.slot.toNat = none) :
    s.aheadArrives r.slot.toNat f = ((s.filledForHead r.slot.toNat f).promote r.slot.toNat f).candidateSearch := by
  have hfilled : s.aheadArrives r.slot.toNat f = (s.filledForHead r.slot.toNat f).offerHead.candidateSearch :=
    congrArg State.candidateSearch (if_pos hw)
  have hfree : (s.filledForHead r.slot.toNat f).headWaits = false := by
    simp [State.headWaits, State.filledForHead, State.filled, hd]
  have hlookup := (h.filledForHead f).lookup_of_lookahead hway
    (x := { slot := r.slot.toNat, fields := f }) rfl rfl
  have hhead : (s.filledForHead r.slot.toNat f).HeadIs r .pick := hh
  rw [hfilled, State.offerHead_of_asked hhead hfree hn, State.askAtlas_of_found hlookup]

end Arrived

/-- Settles O27: a demand fetch is installed and found by the head; a lookahead fetch fills the lookahead entry, from which a head
that waited takes it. -/
theorem atlasFetchesBringTheFields : Obligations.AtlasFetchesBringTheFields := by
  unfold Obligations.AtlasFetchesBringTheFields
  constructor
  · intro s r entry age hshape hi hh hd _ _ hlen hway
    have hs := hi.soundCache hshape
    obtain ⟨hrun, hhead, -⟩ := id hh
    have hexec := exec_atlasDemandArrival hi hrun hd hlen
    rw [hs.demandArrives_eq _ hhead hway] at hexec
    have hu := hs.demanded (slot := r.slot.toNat) (atlasEntry entry)
    have hout := (State.candidateSearch_outside _).trans
      (State.demanded_outside (s := s) (slot := r.slot.toNat) (atlasEntry entry))
    refine ⟨_, hexec, by rw [hu.candidateSearch_ac]; rfl, ?_, fun i hne => ?_, ?_, hu.candidateSearch_iu,
      State.pm_of_outside hout, State.contexts_of_outside hout, State.strings_of_outside hout, State.jw_of_outside hout⟩
    · exact (hu.candidateSearch_wayAt _).trans (hs.wayAt_install_self _ _)
    · exact (hu.candidateSearch_wayAt _).trans (State.wayAt_install_of_ne _ _ hne)
    · exact (hu.candidateSearch_lruOf _).trans (hs.lruOf_install_self _ _)
  · intro s entry slot age hshape hi hrun ha hlen _
    have hs := hi.soundCache hshape
    have hexec := exec_atlasLookaheadArrival hi hrun ha hlen
    constructor
    · intro hw
      rw [State.aheadArrives_of_unawaited _ hw] at hexec
      have hu := hs.filled (slot := slot) (atlasEntry entry)
      have hac := hu.candidateSearch_ac
      have hout := (State.candidateSearch_outside _).trans (State.filled_outside (s := s) (slot := slot) (atlasEntry entry))
      exact ⟨_, hexec, by rw [hac]; rfl, by rw [hac]; rfl, by rw [hac]; rfl, by rw [hac]; rfl, hu.candidateSearch_iu,
        State.pm_of_outside hout, State.contexts_of_outside hout⟩
    · rintro r hw hh rfl hd hn hway
      rw [hs.aheadArrives_of_awaited _ hh hw hd hn hway] at hexec
      have hv := hs.filledForHead (slot := r.slot.toNat) (atlasEntry entry)
      have hu := hv.promote (slot := r.slot.toNat) (atlasEntry entry)
      have hout := ((State.candidateSearch_outside _).trans
        (State.promote_outside (slot := r.slot.toNat) (atlasEntry entry))).trans
        (State.filledForHead_outside (s := s) (slot := r.slot.toNat) (atlasEntry entry))
      refine ⟨_, hexec, by rw [hu.candidateSearch_iu]; rfl, by rw [hu.candidateSearch_ac]; rfl, ?_, ?_,
        State.pm_of_outside hout, State.contexts_of_outside hout⟩
      · exact (hu.candidateSearch_wayAt _).trans (hv.wayAt_install_self _ _)
      · exact (hu.candidateSearch_lruOf _).trans (hv.lruOf_install_self _ _)

end Sys2Proof.Machine
end

section
/-! Proofs of the family of 05 (the slot atlas and its cache), third part: what goes out through the taking up of the lines,
and a PICK at the head that needs its atlas fields (O30). -/

namespace Sys2Proof.Machine

/-! ### What goes out is not taken back -/

@[simp] theorem State.startPoll_out (s : State) (n a : Nat) (w : Bool) :
    (s.startPoll n a w).out = s.out ++ [.frame n (pollFrame a (s.link n a).lastSequence)] := rfl

@[simp] theorem State.startDark_out (s : State) (n a : Nat) (w : Bool) : (s.startDark n a w).out =
    s.out ++ [.frame n (facesFrame a (s.link n a).lastSequence FaceSet.nothing (s.stringAt n).rotation)] := rfl

@[simp] theorem State.startFaces_out (s : State) (n a ci : Nat) (c : Context) : (s.startFaces n a ci c).out =
    s.out ++ [.frame n (facesFrame a (s.link n a).lastSequence c.desired (s.stringAt n).rotation)] := rfl

@[simp] theorem State.startBroadcast_out (s : State) (n : Nat) (b : Broadcast) :
    (s.startBroadcast n b).out = s.out ++ [.frame n b.bytes] := rfl

@[simp] theorem State.settleMode_out (s : State) (n : Nat) : (s.settleMode n).out = s.out := by
  unfold State.settleMode
  dsimp only
  repeat' split
  all_goals rfl

@[simp] theorem State.offerString_out (s : State) (n : Nat) (k : RecordKind) (c : Cause) (m : Nat) :
    (s.offerString n k c m).out = s.out := by
  unfold State.offerString
  split <;> rfl

@[simp] theorem State.endSurvey_out (s : State) (n : Nat) (w : Sweep) : (s.endSurvey n w).out = s.out := by
  have hclose (m : Nat) : (s.closeSurvey n m).out = s.out := by
    unfold State.closeSurvey
    split <;> simp
  simp [State.endSurvey, hclose]

@[simp] theorem State.endSweep_out (s : State) (n : Nat) : (s.endSweep n).out = s.out := by
  unfold State.endSweep
  dsimp only
  repeat' split
  all_goals simp

theorem State.hotTurn_out (s : State) (n a : Nat) : s.out <+: (s.hotTurn n a).out := by
  unfold State.hotTurn
  dsimp only
  repeat' split
  all_goals simp

theorem State.coldTurnAt_out (s : State) (n a : Nat) : s.out <+: (s.coldTurnAt n a).out := by
  unfold State.coldTurnAt
  dsimp only
  split <;> simp

theorem State.roundTurn_out (s : State) (n : Nat) : s.out <+: (s.roundTurn n).out := by
  unfold State.roundTurn
  dsimp only
  repeat' split
  · exact s.hotTurn_out n _
  · exact State.coldTurnAt_out (s.setString n _) n _
  · exact State.hotTurn_out (s.setString n _) n _
  · exact List.prefix_rfl

theorem State.sweepTurn_out (s : State) (n : Nat) (w : Sweep) : s.out <+: (s.sweepTurn n w).out := by
  unfold State.sweepTurn
  split <;> simp

theorem State.quietTurn_out (s : State) (n : Nat) : s.out <+: (s.quietTurn n).out := by
  unfold State.quietTurn
  dsimp only
  repeat' split
  · exact State.coldTurnAt_out (s.setString n _) n _
  · exact List.prefix_rfl
  · exact List.prefix_rfl

theorem State.turn_out (s : State) (n : Nat) : s.out <+: (s.turn n).out := by
  unfold State.turn
  dsimp only
  repeat' split
  · exact s.sweepTurn_out n _
  · exact List.prefix_rfl
  · exact s.sweepTurn_out n _
  · exact s.quietTurn_out n
  · exact s.roundTurn_out n
  · exact List.prefix_rfl

theorem State.runLine_out (s : State) (n : Nat) : s.out <+: (s.runLine n).out := by
  unfold State.runLine
  dsimp only
  split
  · split
    · simp
    · simpa using State.turn_out ((s.settleMode n).endSweep n) n
  · simp

/-- The lines, taken up, put frames out behind what went out before. -/
theorem State.kick_out (s : State) : s.out <+: s.kick.out := by
  simp only [State.kick, State.eachString, List.foldl]
  exact (((s.runLine_out 0).trans (State.runLine_out _ 1)).trans (State.runLine_out _ 2)).trans (State.runLine_out _ 3)

theorem State.linkRead_out (s : State) (o b : Nat) : s.out <+: (s.linkRead o b).out := by
  unfold State.linkRead
  split <;> simp

/-- A record fetch is a read and a write of the intake's own counts, when one starts at all (R126). -/
theorem State.startRecordFetch_cases (s : State) : s.startRecordFetch = s ∨ ∃ o n,
    s.startRecordFetch = (s.linkRead o (32 * n)).setIu
      { s.iu with fetch := .underWay n 0, fetched := s.iu.fetched + BitVec.ofNat 32 n } := by
  unfold State.startRecordFetch
  split
  · exact .inl rfl
  · split
    · exact .inr ⟨_, _, rfl⟩
    · exact .inl rfl

theorem State.startRecordFetch_out (s : State) : s.out <+: s.startRecordFetch.out := by
  obtain heq | ⟨o, n, heq⟩ := s.startRecordFetch_cases <;> rw [heq]
  exact s.linkRead_out o (32 * n)

@[simp] theorem State.startRecordFetch_ac (s : State) : s.startRecordFetch.ac = s.ac := by
  obtain heq | ⟨o, n, heq⟩ := s.startRecordFetch_cases <;> rw [heq]
  exact s.linkRead_ac o (32 * n)

@[simp] theorem State.startRecordFetch_onLookahead (s : State) :
    s.startRecordFetch.iu.onLookahead = s.iu.onLookahead := by
  obtain heq | ⟨o, n, heq⟩ := s.startRecordFetch_cases <;> rw [heq]
  rfl

/-! ### The fetch that a miss of the head asks for -/

section Demand

variable {s : State} {slot : Nat}

/-- The head waits on the lookahead fetch of its slot (R100). -/
theorem State.demand_of_ahead (h : s.ac.ahead.reads slot = true) : s.demand slot = s.setIu { s.iu with onLookahead := true } :=
  if_pos h

/-- A demand fetch of the head's entry starts (R100). -/
theorem State.demand_of_none (h : s.ac.ahead.reads slot = false) :
    s.demand slot = (s.setAc { s.ac with demand := .underWay slot 0 }).readEntry slot :=
  if_neg (by simp [h])

theorem State.demand_onLookahead (h : s.iu.onLookahead = false) : (s.demand slot).iu.onLookahead = s.ac.ahead.reads slot := by
  cases hr : s.ac.ahead.reads slot
  · rw [State.demand_of_none hr, State.readEntry_iu]
    exact h
  · rw [State.demand_of_ahead hr]
    rfl

/-- The read of a slot's entry goes out (R95, R100). -/
theorem State.readEntry_out {b : Addr} (h : s.lrc.base = some b) :
    (s.readEntry slot).out = s.out ++ [.linkRead (b + BitVec.ofNat 64 (0x1000 + 16 * slot)) 16] := by
  rw [State.readEntry, s.linkRead_of_base b h]
  rfl

end Demand

/-! ### The PICK at the head -/

section HeadPick

variable {s : State} {r : TaskRecord}

/-- PICK on a head that waits for a fetch changes nothing (R96). -/
theorem State.headPick_of_waits (h : s.headWaits = true) : s.headPick = s := by
  unfold State.headPick
  split
  · exact if_neg (by simp [h])
  · rfl

theorem State.takeHeadPick_of_found {t : State} {f : AtlasFields} (hn : s.needsFields r.slot.toNat = true)
    (h : s.lookup r.slot.toNat = (t, some f)) : s.takeHeadPick r = t.offerPick r (some f) := by
  simp only [State.takeHeadPick, if_pos hn, State.askAtlas_of_found h]

theorem State.takeHeadPick_of_miss (hn : s.needsFields r.slot.toNat = true) (h : s.lookup r.slot.toNat = (s, none)) :
    s.takeHeadPick r = (s.demand r.slot.toNat).startRecordFetch := by
  simp only [State.takeHeadPick, if_pos hn, State.askAtlas_of_miss h]

/-- The consumption of a PICK is judged on no part of the cache but the fields that it is handed. -/
theorem State.PickTaken.of_setAc {x : Cache} {t : State} {i : Nat} {f : Option AtlasFields}
    (h : (s.setAc x).PickTaken t i r f) : s.PickTaken t i r f := h

/-- A PICK whose fields a lookup hands over is consumed on them into the lowest-numbered FREE entry, whatever the lookup changes
of the cache (R1, R96). -/
theorem State.pickTaken_of_found (hi : s.Intact) (hshape : s.Shape) (hh : s.HeadIs r .pick) (hw : s.headWaits = false)
    (hn : s.needsFields r.slot.toNat = true) {x : Cache} {f : AtlasFields}
    (hlookup : s.lookup r.slot.toNat = (s.setAc x, some f)) {i : Nat} (hlt : i < 256) (hfree : s.pickAt i = none)
    (hlow : ∀ j < i, s.pickAt j ≠ none) : ∃ t, exec .pick s = .next t ∧ s.PickTaken t i r (some f) := by
  obtain ⟨hlen, -⟩ := hshape
  have hl : (s.setAc x).lowestFree = some i := State.lowestFree_eq_some (hlen ▸ hlt) hfree hlow
  have hexec : exec .pick s = .next ((s.setAc x).takePick i r (some f)).consumed.kick := by
    refine congrArg Host.Outcome.next ((State.headPick_of_intact hi hh hw).trans ?_)
    rw [State.takeHeadPick_of_found hn hlookup, State.offerPick, hl]
  exact ⟨_, hexec, State.PickTaken.of_setAc (State.pickTaken_takePick (s := s.setAc x) (hlen ▸ hlt))⟩

end HeadPick

/-- Settles O30, by what the lookup of the head finds (a way, the lookahead or nothing), or by the fetch that the head waits
for. -/
theorem pickWaitsForItsAtlasFields : Obligations.PickWaitsForItsAtlasFields := by
  unfold Obligations.PickWaitsForItsAtlasFields
  intro s r hi hshape hh hn slot
  have hs := hi.soundCache hshape
  refine ⟨fun i w hw hlt hfree hlow hway => ?_, fun i x hw hlt hfree hlow hway hx hslot => ?_, fun hw hway hx => ?_,
    fun hw => ?_⟩
  · exact State.pickTaken_of_found hi hshape hh hw hn (hs.lookup_of_way hway) hlt hfree hlow
  · exact State.pickTaken_of_found hi hshape hh hw hn (hs.lookup_of_lookahead hway hx hslot) hlt hfree hlow
  · have hexec : exec .pick s = .next (s.demand slot).startRecordFetch.kick := by
      refine congrArg Host.Outcome.next ((State.headPick_of_intact hi hh hw).trans ?_)
      rw [State.takeHeadPick_of_miss hn (hs.lookup_of_miss hway hx)]
    have hout := (State.startRecordFetch_outside _).trans (s.demand_outside slot)
    have hlook : s.iu.onLookahead = false := by
      obtain ⟨-, hlook⟩ := Bool.or_eq_false_iff.1 hw
      exact hlook
    refine ⟨_, hexec, ?_, ?_, ?_, ?_, fun hr => ?_, fun hr => ⟨?_, fun b hb => ?_⟩⟩
    · rw [State.kick_iu, State.queue_of_outside hout]
    · rw [State.kick_iu, State.taken_of_outside hout]
    · rw [State.kick_pm, State.pm_of_outside hout]
    · rw [State.kick_iu, State.startRecordFetch_onLookahead, State.demand_onLookahead hlook]
    · rw [State.kick_ac, State.startRecordFetch_ac, State.demand_of_ahead hr]
      rfl
    · rw [State.kick_ac, State.startRecordFetch_ac, State.demand_of_none hr, State.readEntry_ac]
      rfl
    · have hread := State.readEntry_out (s := s.setAc { s.ac with demand := .underWay slot 0 }) (slot := slot) hb
      obtain ⟨more, hmore⟩ := (State.startRecordFetch_out (s.demand slot)).trans (State.kick_out _)
      rw [← hmore, State.demand_of_none hr, hread, List.append_assoc]
      exact ⟨more, rfl⟩
  · exact congrArg Host.Outcome.next (State.headPick_of_waits hw)

end Sys2Proof.Machine
end

section
/-! Proofs of the family of 05 (the slot atlas and its cache), fourth part: ATLAS-DROP (O37). -/

namespace Sys2Proof.Machine

/-! ### The walk of the ways -/

/-- Whether a way, by its number, holds a slot of a drop's range (R104). -/
def Way.inRange (w : Way) (first count i : Nat) : Bool :=
  w.valid && decide (first ≤ w.slotOf i ∧ w.slotOf i < first + count)

theorem Way.inRange_iff (w : Way) (first count i : Nat) : w.inRange first count i = true ↔
    w.valid = true ∧ first ≤ w.tag * 64 + i / 2 ∧ w.tag * 64 + i / 2 < first + count := by
  rw [Way.inRange, Bool.and_eq_true, decide_eq_true_iff]
  rfl

/-- Whether a drop that has walked the ways below `n` has invalidated a way. -/
def State.gone (s : State) (first count n i : Nat) : Bool := decide (i < n) && (s.wayAt i).inRange first count i

/-- The LRU bit of a set once a drop has walked the ways below `n`: it names the last way invalidated (R97). -/
def State.namedBy (s : State) (first count n k : Nat) : Bool :=
  if s.gone first count n (2 * k + 1) then true else if s.gone first count n (2 * k) then false else s.lruOf k

/-- A drop has walked the ways below `n` of a sound cache and changed nothing but ways and LRU bits (R97, R104). -/
structure State.Walked (s : State) (first count n : Nat) (t : State) : Prop where
  sound : t.SoundCache
  way : ∀ i < 128, t.wayAt i = if s.gone first count n i then { s.wayAt i with valid := false } else s.wayAt i
  lru : ∀ k < 64, t.lruOf k = s.namedBy first count n k
  rest : t = s.setAc { s.ac with ways := t.ac.ways, lru := t.ac.lru }

section Walk

variable {s t : State} {first count n : Nat}

theorem State.gone_succ_of_ne {i : Nat} (h : i ≠ n) : s.gone first count (n + 1) i = s.gone first count n i := by
  have hlt : i < n + 1 ↔ i < n := by omega
  simp [State.gone, hlt]

theorem State.gone_succ_self : s.gone first count (n + 1) n = (s.wayAt n).inRange first count n := by simp [State.gone]

theorem State.gone_of_le {i : Nat} (h : n ≤ i) : s.gone first count n i = false := by
  simp [State.gone, h]

/-- The walk of one more way names it when it is invalidated (R97). -/
theorem State.namedBy_succ_of_gone (h : (s.wayAt n).inRange first count n = true) :
    s.namedBy first count (n + 1) (n / 2) = (n % 2 == 1) := by
  unfold State.namedBy
  obtain hodd | heven : n = 2 * (n / 2) + 1 ∨ n = 2 * (n / 2) := by omega
  · rw [← hodd, State.gone_succ_self, h, if_pos rfl]
    simpa using (show n % 2 = 1 by omega)
  · rw [State.gone_of_le (by omega), ← heven, State.gone_succ_self, h]
    simpa using (show n % 2 = 0 by omega)

/-- The walk of a way that stays invalidates nothing more. -/
theorem State.gone_succ_of_stays (h : ¬(s.wayAt n).inRange first count n = true) (i : Nat) :
    s.gone first count (n + 1) i = s.gone first count n i := by
  obtain rfl | hne := eq_or_ne i n
  · rw [State.gone_succ_self, State.gone_of_le le_rfl]
    simpa using h
  · exact State.gone_succ_of_ne hne

theorem State.namedBy_succ_of_ne {k : Nat} (h : k ≠ n / 2) :
    s.namedBy first count (n + 1) k = s.namedBy first count n k := by
  unfold State.namedBy
  rw [State.gone_succ_of_ne (by omega), State.gone_succ_of_ne (by omega)]

/-- A drop reads a sound way and invalidates it when it holds a slot of the range (R104). -/
theorem State.SoundCache.dropWay_eq (h : s.SoundCache) (hn : n < 128) : s.dropWay first count n =
    if (s.wayAt n).inRange first count n then s.invalidateWay n else s := by
  simp only [State.dropWay, h.checkWay_eq hn]
  rfl

theorem State.Walked.zero (h : s.SoundCache) : s.Walked first count 0 s where
  sound := h
  way i _ := by rw [State.gone_of_le (Nat.zero_le i)]; rfl
  lru k _ := by rw [State.namedBy, State.gone_of_le (Nat.zero_le _), State.gone_of_le (Nat.zero_le _)]; rfl
  rest := rfl

theorem State.Walked.succ (h : s.Walked first count n t) (hn : n < 128) :
    s.Walked first count (n + 1) (t.dropWay first count n) := by
  have hself : t.wayAt n = s.wayAt n := by
    rw [h.way n hn, State.gone_of_le le_rfl]
    rfl
  rw [h.sound.dropWay_eq hn, hself]
  split
  · next hdrop =>
    refine ⟨h.sound.invalidateWay n, fun i hi => ?_, fun k hk => ?_, ?_⟩
    · obtain rfl | hne := eq_or_ne i n
      · rw [State.wayAt_invalidateWay_self (h.sound.ways.symm ▸ hi), State.gone_succ_self, if_pos hdrop, hself,
          ← h.sound.parity_wayAt hi, hself]
      · rw [State.wayAt_invalidateWay_of_ne hne, h.way i hi, State.gone_succ_of_ne hne]
    · obtain rfl | hne := eq_or_ne k (n / 2)
      · rw [State.lruOf_invalidateWay_self (h.sound.lru.symm ▸ hk), State.namedBy_succ_of_gone hdrop]
      · rw [State.lruOf_invalidateWay_of_ne hne, h.lru k hk, State.namedBy_succ_of_ne hne]
    · exact congrArg (fun u => u.invalidateWay n) h.rest
  · next hstay =>
    have hgone := State.gone_succ_of_stays hstay
    refine ⟨h.sound, fun i hi => ?_, fun k hk => ?_, h.rest⟩
    · rw [hgone, h.way i hi]
    · rw [State.namedBy, hgone, hgone, h.lru k hk, State.namedBy]

theorem State.SoundCache.walked (h : s.SoundCache) (hn : n ≤ 128) :
    s.Walked first count n ((List.range n).foldl (State.dropWay first count) s) := by
  induction n with
  | zero => exact .zero h
  | succ n ih =>
    rw [List.range_succ, List.foldl_append]
    exact (ih (by omega)).succ (by omega)

end Walk

/-! ### The drop -/

/-- The walk of every way that a drop makes (R104; log 32). -/
def State.walkWays (s : State) (first count : Nat) : State := (List.range s.ac.ways.length).foldl (State.dropWay first count) s

theorem State.SoundCache.walkWays {s : State} (h : s.SoundCache) (first count : Nat) :
    s.Walked first count 128 (s.walkWays first count) := by
  rw [State.walkWays, h.ways]
  exact h.walked le_rfl

/-- The drop but for the voiding of a lookahead fetch: the ways walked, the lookahead entry invalid (R104). -/
def State.emptyRange (s : State) (first count : Nat) : State :=
  (s.walkWays first count).setAc { (s.walkWays first count).ac with lookahead := none }

theorem State.dropAtlas_eq (s : State) (first count : Nat) : s.dropAtlas first count = (s.emptyRange first count).voidAhead := rfl

section Void

variable {s : State}

theorem State.voidAhead_of_underWay {slot age : Nat} (h : s.ac.ahead = .underWay slot age) : s.voidAhead =
    (s.setAc { s.ac with ahead := .idle }).setLrc { s.lrc with voided := s.lrc.voided ++ [.lookahead] } := by
  simp only [State.voidAhead, h]

theorem State.voidAhead_of_none (h : ∀ slot age, s.ac.ahead ≠ .underWay slot age) : s.voidAhead = s := by
  unfold State.voidAhead
  split
  · exact absurd ‹_› (h _ _)
  · rfl

/-- Of the cache the voiding of a lookahead fetch changes that fetch alone. -/
theorem State.voidAhead_ac : s.voidAhead.ac = { s.ac with ahead := s.voidAhead.ac.ahead } := by
  unfold State.voidAhead
  split <;> rfl

theorem State.voidAhead_iu : s.voidAhead.iu = s.iu := by
  unfold State.voidAhead
  split <;> rfl

theorem State.voidAhead_pm : s.voidAhead.pm = s.pm := by
  unfold State.voidAhead
  split <;> rfl

end Void

section Drop

variable {s : State} (h : s.SoundCache) (first count : Nat)
include h

/-- A drop, before it voids a lookahead fetch, changes ways, LRU bits and the lookahead entry alone. -/
theorem State.SoundCache.emptyRange_eq : s.emptyRange first count = s.setAc { s.ac with
    ways := (s.walkWays first count).ac.ways, lru := (s.walkWays first count).ac.lru, lookahead := none } :=
  congrArg (fun t : State => t.setAc { t.ac with lookahead := none }) (h.walkWays first count).rest

theorem State.SoundCache.dropAtlas_ac : (s.dropAtlas first count).ac = { s.ac with
    ways := (s.walkWays first count).ac.ways, lru := (s.walkWays first count).ac.lru, lookahead := none
    ahead := (s.dropAtlas first count).ac.ahead } := by
  rw [State.dropAtlas_eq, State.voidAhead_ac, h.emptyRange_eq]
  rfl

theorem State.SoundCache.dropAtlas_iu : (s.dropAtlas first count).iu = s.iu := by
  rw [State.dropAtlas_eq, State.voidAhead_iu, h.emptyRange_eq]
  rfl

theorem State.SoundCache.dropAtlas_pm : (s.dropAtlas first count).pm = s.pm := by
  rw [State.dropAtlas_eq, State.voidAhead_pm, h.emptyRange_eq]
  rfl

theorem State.SoundCache.dropAtlas : (s.dropAtlas first count).SoundCache :=
  (h.walkWays first count).sound.of_ways (by rw [h.dropAtlas_ac]) (by rw [h.dropAtlas_ac])

theorem State.SoundCache.dropAtlas_wayAt {i : Nat} (hi : i < 128) : (s.dropAtlas first count).wayAt i =
    if s.gone first count 128 i then { s.wayAt i with valid := false } else s.wayAt i :=
  (State.wayAt_of_ways (by rw [h.dropAtlas_ac]) i).trans ((h.walkWays first count).way i hi)

theorem State.SoundCache.dropAtlas_lruOf {k : Nat} (hk : k < 64) :
    (s.dropAtlas first count).lruOf k = s.namedBy first count 128 k :=
  (State.lruOf_of_lru (by rw [h.dropAtlas_ac]) k).trans ((h.walkWays first count).lru k hk)

/-- A lookahead fetch under way is voided (R104). -/
theorem State.SoundCache.dropAtlas_voids {slot age : Nat} (ha : s.ac.ahead = .underWay slot age) :
    (s.dropAtlas first count).ac.ahead = .idle ∧
      (s.dropAtlas first count).lrc.voided = s.lrc.voided ++ [.lookahead] := by
  have hu : (s.emptyRange first count).ac.ahead = .underWay slot age := by rw [h.emptyRange_eq]; exact ha
  rw [State.dropAtlas_eq, State.voidAhead_of_underWay hu, h.emptyRange_eq]
  exact ⟨rfl, rfl⟩

theorem State.SoundCache.dropAtlas_voided_of_none (ha : ∀ slot age, s.ac.ahead ≠ .underWay slot age) :
    (s.dropAtlas first count).lrc.voided = s.lrc.voided := by
  have hu : ∀ slot age, (s.emptyRange first count).ac.ahead ≠ .underWay slot age := by rw [h.emptyRange_eq]; exact ha
  rw [State.dropAtlas_eq, State.voidAhead_of_none hu, h.emptyRange_eq]
  rfl

end Drop

/-! ### The cache through the consumption of the head -/

@[simp] theorem State.consumeHead_ac (s : State) : s.consumeHead.ac = s.ac := by
  unfold State.consumeHead
  dsimp only
  split <;> simp

@[simp] theorem State.consumeHead_lrc (s : State) : s.consumeHead.lrc = s.lrc := by
  unfold State.consumeHead
  dsimp only
  split <;> simp

/-- Reads voided before the consumption of the head stay so, and it voids none. -/
theorem State.consumed_voided (s : State) : s.consumed.lrc.voided = s.lrc.voided := by
  have hafter : s.consumeHead.afterHead.lrc.voided = s.consumeHead.lrc.voided :=
    congrArg (fun o : Outside => o.control.voided) (State.afterHead_outside _)
  rw [State.consumed, State.kick_lrc, hafter, State.consumeHead_lrc]

/-- Of the cache the fetch that a miss starts is a demand fetch alone (R100). -/
theorem State.demand_ac (s : State) (slot : Nat) : (s.demand slot).ac = { s.ac with demand := (s.demand slot).ac.demand } := by
  cases hr : s.ac.ahead.reads slot
  · rw [State.demand_of_none hr, State.readEntry_ac]
    rfl
  · rw [State.demand_of_ahead hr]
    rfl

/-- The state in which a consumption offers the next head (R128). -/
def State.nextOffer (s : State) : State := s.consumeHead.startRecordFetch

theorem State.nextOffer_ac (s : State) : s.nextOffer.ac = s.ac := by simp [State.nextOffer]

theorem State.nextOffer_head (s : State) : s.nextOffer.head = s.iu.queue.tail.head? := by
  rw [State.head, State.nextOffer, State.queue_of_outside (State.startRecordFetch_outside _), State.consumeHead_iu]

theorem State.consumed_ac (s : State) : s.consumed.ac = s.nextOffer.offerHead.candidateSearch.ac := State.kick_ac _

section Consumption

variable {s : State} (h : s.SoundCache) (hl : s.ac.lookahead = none)
include h hl

/-- With no lookahead entry the offer of the head hits a way, starts a fetch or does nothing (R96, R98). -/
theorem State.SoundCache.offerHead_cases : s.offerHead = s ∨ ∃ r, s.head = some r ∧ r.task = .pick ∧
    ((∃ b, s.offerHead = s.setLru (setOf r.slot.toNat) b) ∨ s.offerHead = s.demand r.slot.toNat) := by
  unfold State.offerHead
  split
  · next r hhead =>
    split
    · next hasked =>
      simp only [Bool.and_eq_true, beq_iff_eq] at hasked
      obtain ⟨⟨⟨-, htask⟩, -⟩, -⟩ := hasked
      refine .inr ⟨r, hhead, htask, ?_⟩
      cases hway : s.wayOf r.slot.toNat with
      | some i => exact .inl ⟨_, by rw [State.askAtlas_of_found (h.lookup_of_way hway)]⟩
      | none => exact .inr (by rw [State.askAtlas_of_miss (h.lookup_of_miss hway (by simp [hl]))])
    · exact .inl rfl
  · exact .inl rfl

theorem State.SoundCache.offerHead_ac :
    s.offerHead.ac = { s.ac with lru := s.offerHead.ac.lru, demand := s.offerHead.ac.demand } := by
  obtain heq | ⟨r, -, -, ⟨b, heq⟩ | heq⟩ := h.offerHead_cases hl <;> rw [heq]
  · rfl
  · rw [State.demand_ac]

/-- The offer of the head leaves the LRU bit of every set but that of a PICK at the head (R97). -/
theorem State.SoundCache.offerHead_lruOf {k : Nat} (hk : ∀ r, s.head = some r → r.task = .pick → setOf r.slot.toNat ≠ k) :
    s.offerHead.lruOf k = s.lruOf k := by
  obtain heq | ⟨r, hhead, htask, ⟨b, heq⟩ | heq⟩ := h.offerHead_cases hl <;> rw [heq]
  · exact State.lruOf_setLru_of_ne (hk r hhead htask).symm b
  · exact State.lruOf_of_lru (by rw [State.demand_ac]) k

omit hl in
/-- A consumption offers the next head on a sound cache, in which the candidate search then runs. -/
theorem State.SoundCache.nextOffer : s.nextOffer.SoundCache := h.of_ways (by rw [s.nextOffer_ac]) (by rw [s.nextOffer_ac])

theorem State.SoundCache.nextOffer_offerHead : s.nextOffer.offerHead.SoundCache :=
  h.nextOffer.of_ways (by rw [h.nextOffer.offerHead_ac (s.nextOffer_ac ▸ hl)])
    (State.lru_of_outside (State.offerHead_outside _))

theorem State.SoundCache.consumed_ac : s.consumed.ac =
    { s.ac with lru := s.consumed.ac.lru, demand := s.consumed.ac.demand, ahead := s.consumed.ac.ahead } := by
  rw [State.consumed_ac, (h.nextOffer_offerHead hl).candidateSearch_ac, h.nextOffer.offerHead_ac (s.nextOffer_ac ▸ hl),
    State.nextOffer_ac]

/-- Behind the consumption of the head the lookahead fetch is the one that was, or a fresh one (R101). -/
theorem State.SoundCache.consumed_ahead :
    s.consumed.ac.ahead = s.ac.ahead ∨ ∃ slot, s.consumed.ac.ahead = .underWay slot 0 := by
  have hsearch := (h.nextOffer_offerHead hl).candidateSearch_ahead
  rw [h.nextOffer.offerHead_ac (s.nextOffer_ac ▸ hl), State.nextOffer_ac] at hsearch
  rwa [State.consumed_ac]

theorem State.SoundCache.consumed_lruOf {k : Nat}
    (hk : ∀ next, s.iu.queue.tail.head? = some next → next.task = .pick → setOf next.slot.toNat ≠ k) :
    s.consumed.lruOf k = s.lruOf k :=
  calc s.consumed.lruOf k = s.nextOffer.offerHead.candidateSearch.lruOf k := State.lruOf_of_lru (by rw [State.consumed_ac]) k
    _ = s.nextOffer.offerHead.lruOf k := (h.nextOffer_offerHead hl).candidateSearch_lruOf k
    _ = s.nextOffer.lruOf k :=
      h.nextOffer.offerHead_lruOf (s.nextOffer_ac ▸ hl) fun r hr => hk r (s.nextOffer_head ▸ hr)
    _ = s.lruOf k := State.lruOf_of_lru (by rw [State.nextOffer_ac]) k

end Consumption

/-! ### ATLAS-DROP -/

/-- Whether the range of an ATLAS-DROP is refused (R144). -/
def TaskRecord.badRange (r : TaskRecord) : Prop :=
  1024 ≤ r.slot.toNat ∨ r.quantity.toNat = 0 ∨ 1024 < r.quantity.toNat

section AtlasDrop

variable {s : State} {r : TaskRecord}

theorem State.atlasDrop_of_bad (h : r.badRange) : s.atlasDrop r = s.refuse r .badArgument :=
  if_pos (by simpa [TaskRecord.badRange, or_assoc] using h)

theorem State.atlasDrop_of_good (h : ¬r.badRange) : s.atlasDrop r = s.dropAtlas r.slot.toNat r.quantity.toNat :=
  if_neg (by simpa [TaskRecord.badRange, or_assoc] using h)

theorem exec_atlasDrop (hi : s.Intact) (hs : 0 < s.jw.spare) (hh : s.HeadIs r .atlasDrop) :
    exec .atlasDrop s = .next (s.atlasDrop r).consumed := by
  obtain ⟨-, hcontexts, -⟩ := hi
  have hd := State.directive_of_ready hh hs fun t q => t.checkContexts.atlasDrop q
  rw [s.checkContexts_of_intact hcontexts] at hd
  exact congrArg Host.Outcome.next hd

end AtlasDrop

/-- Settles O37: the drop walks the ways in order, and its consumption changes no way, but may look up the PICK behind it. -/
theorem atlasDropEmptiesItsRange : Obligations.AtlasDropEmptiesItsRange := by
  unfold Obligations.AtlasDropEmptiesItsRange
  intro s r hi hshape hspare hh first count bad dropped named
  have hs := hi.soundCache hshape
  have hexec := exec_atlasDrop hi hspare hh
  have hdropped (i : Nat) (hlt : i < 128) : s.gone first count 128 i = true ↔ dropped i := by
    rw [State.gone, decide_eq_true hlt, Bool.true_and]
    exact Way.inRange_iff _ first count i
  have hnamed (k : Nat) (hk : k < 64) : (s.dropAtlas first count).lruOf k = named k :=
    (hs.dropAtlas_lruOf first count hk).trans
      (if_congr (hdropped _ (by omega)) rfl (if_congr (hdropped _ (by omega)) rfl rfl))
  refine ⟨fun hbad => ⟨_, hexec, ?_⟩, fun hgood => ⟨hnamed, _, hexec, ?_⟩⟩
  · rw [State.atlasDrop_of_bad hbad]
    exact s.refuse_consumed r .badArgument
  · have hdrop : s.atlasDrop r = s.dropAtlas first count := State.atlasDrop_of_good hgood
    rw [hdrop]
    have hd := hs.dropAtlas first count
    have hl : (s.dropAtlas first count).ac.lookahead = none := by rw [hs.dropAtlas_ac]
    have hiu := hs.dropAtlas_iu first count
    have hac := hd.consumed_ac hl
    refine ⟨State.took_consumed (by rw [hiu]) (by rw [hiu]), (State.consumed_pm _).trans (hs.dropAtlas_pm first count),
      by rw [hac]; exact hl, fun i hlt => ?_, fun k hk hnext => ?_, fun slot age ha => ?_, fun ha => ?_⟩
    · calc (s.dropAtlas first count).consumed.wayAt i = (s.dropAtlas first count).wayAt i := State.wayAt_of_ways (by rw [hac]) i
        _ = _ := hs.dropAtlas_wayAt first count hlt
        _ = _ := if_congr (hdropped i hlt) rfl rfl
    · exact (hd.consumed_lruOf hl (by rw [hiu]; exact hnext)).trans (hnamed k hk)
    · obtain ⟨hidle, hvoided⟩ := hs.dropAtlas_voids first count ha
      have hahead := hd.consumed_ahead hl
      rw [hidle] at hahead
      exact ⟨(State.consumed_voided _).trans hvoided, hahead⟩
    · exact (State.consumed_voided _).trans (hs.dropAtlas_voided_of_none first count ha)

end Sys2Proof.Machine
end

section
/-! Proofs of the family of 06 (the exchange area), first part: the base and the START read (O6), and the atlas entry (O25). -/

namespace Sys2Proof.Machine

/-! ### START -/

/-- The low 12 bits of EXBASE-LO are ignored, so that the base stands on a 4 KiB boundary (R107). -/
theorem exchangeBase_toNat (hi lo : Word) :
    (exchangeBase hi lo).toNat = (hi.toNat * 2 ^ 32 + lo.toNat) / 4096 * 4096 := by
  have hhi := hi.isLt
  have hlo := lo.isLt
  rw [exchangeBase, BitVec.toNat_ofNat]
  omega

/-- The START read is the header host line and the setup block (R108). -/
theorem State.issueStart_eq (s : State) {b : Addr} (hb : exchangeBase s.lrc.exbaseHi s.lrc.exbaseLo = b) :
    s.issueStart = { s with
      lrc := { s.lrc with run := .starting, base := some b, startRead := some 0 }
      out := s.out ++ [.linkRead b 64, .linkRead (b + 0x100#64) 64] } := by
  have hzero : Addr.plus b 0 = b := BitVec.add_zero b
  have hblock : Addr.plus b 0x100 = b + 0x100#64 := rfl
  simp [State.issueStart, hb, State.linkRead, State.setLrc, State.emit, hzero, hblock]

/-- Settles O6: an action legal in UNSET is taken, and its two reads go out from the base just taken. -/
theorem startTakesTheBaseAndIssuesItsReads : Obligations.StartTakesTheBaseAndIssuesItsReads := by
  unfold Obligations.StartTakesTheBaseAndIssuesItsReads
  refine ⟨exchangeBase_toNat, fun s hrun => ?_⟩
  have htaken : exec .start s = .next s.issueStart :=
    congrArg Host.Outcome.next (if_pos (by simp [hrun]))
  exact htaken.trans (congrArg Host.Outcome.next (s.issueStart_eq rfl))

/-! ### The atlas entry -/

theorem bitOf_eq_getLsbD (b : Byte) (i : Nat) : bitOf b i = b.getLsbD i := by
  rw [bitOf, BitVec.getLsbD, Nat.testBit_eq_decide_div_mod_eq, Bool.beq_eq_decide_eq]

/-- The four bytes that the part reads of an atlas entry (R117). -/
theorem atlasEntry_cons (b0 b1 b2 b3 : Byte) (rest : List Byte) : atlasEntry (b0 :: b1 :: b2 :: b3 :: rest) =
    { usable := b0.getLsbD 0, string := b1.toNat % 4, address := b2.toNat, limit := b3.toNat, solo := b0.getLsbD 1 } := by
  simp [atlasEntry, byteAt, bitOf_eq_getLsbD]

theorem AtlasFields.resolves_iff (f : AtlasFields) (u : Setup) : f.resolves u = true ↔
    f.usable = true ∧ 1 ≤ f.address ∧ f.address ≤ 120 ∧ f.limit ≤ 9 ∧ (u.string f.string).enabled = true ∧
      f.address ≤ (u.string f.string).ceiling := by
  simp [AtlasFields.resolves, and_assoc]

/-- Settles O25, by the four bytes that the part reads and by the conditions of AtlasFields.resolves. -/
theorem atlasEntriesAreDecodedAndResolved : Obligations.AtlasEntriesAreDecodedAndResolved := by
  unfold Obligations.AtlasEntriesAreDecodedAndResolved
  intro b0 b1 b2 b3 rest u
  exact ⟨atlasEntry_cons b0 b1 b2 b3 rest, AtlasFields.resolves_iff _ u⟩

end Sys2Proof.Machine
end

section
/-! Proofs of the family of 06 (the exchange area), second part: the bytes of records, headers and frames, and the places in host
memory (O48). -/

namespace Sys2Proof.Machine

/-! ### Numbers as bytes -/

@[simp] theorem bytesLE_length (n v : Nat) : (bytesLE n v).length = n := by
  induction n generalizing v with
  | zero => rfl
  | succ n ih => rw [bytesLE, List.length_cons, ih]

/-- Bytes read back as the number that was written, as far as they hold it (00, Conventions). -/
theorem readLE_bytesLE (n v : Nat) : readLE (bytesLE n v) = v % 256 ^ n := by
  induction n generalizing v with
  | zero => simp [bytesLE, readLE, Nat.mod_one]
  | succ n ih =>
    rw [bytesLE, readLE, ih, BitVec.toNat_ofNat, Nat.pow_succ' (m := 256)]
    exact Nat.mod_mul.symm

theorem readLE_bytesLE_of_lt {n v : Nat} (h : v < 256 ^ n) : readLE (bytesLE n v) = v :=
  (readLE_bytesLE n v).trans (Nat.mod_eq_of_lt h)

theorem readLE_bytesLE_word (w : Word) : readLE (bytesLE 4 w.toNat) = w.toNat := readLE_bytesLE_of_lt w.isLt

theorem readLE_bytesLE_half (w : BitVec 16) : readLE (bytesLE 2 w.toNat) = w.toNat := readLE_bytesLE_of_lt w.isLt

/-! ### Fields of bytes put one behind the other -/

/-- A field behind what stands first. -/
theorem fieldAt_append_of_le {front : List Byte} {i : Nat} (h : front.length ≤ i) (rest : List Byte) (n : Nat) :
    fieldAt (front ++ rest) i n = fieldAt rest (i - front.length) n := by
  rw [fieldAt, List.drop_append, List.drop_of_length_le h, List.nil_append, fieldAt]

theorem byteAt_append_of_le {front : List Byte} {i : Nat} (h : front.length ≤ i) (rest : List Byte) :
    byteAt (front ++ rest) i = byteAt rest (i - front.length) := List.getD_append_right _ _ _ _ h

theorem byteAt_singleton_append (b : Byte) (rest : List Byte) : byteAt ([b] ++ rest) 0 = b := rfl

theorem fieldAt_bytesLE (n v : Nat) : fieldAt (bytesLE n v) 0 n = v % 256 ^ n := by
  rw [fieldAt, List.drop_zero, List.take_of_length_le (bytesLE_length n v).le, readLE_bytesLE]

/-- The field that stands first. -/
theorem fieldAt_bytesLE_append (n v : Nat) (rest : List Byte) : fieldAt (bytesLE n v ++ rest) 0 n = v % 256 ^ n := by
  rw [fieldAt, List.drop_zero, List.take_append_of_le_length (bytesLE_length n v).ge, ← fieldAt_bytesLE]
  rfl

theorem byteAt_bytesLE_append (v : Nat) (rest : List Byte) : byteAt (bytesLE 1 v ++ rest) 0 = BitVec.ofNat 8 v := rfl

/-- A byte of a number's bytes, read alone. -/
theorem fieldAt_bytesLE_one {n i : Nat} (h : i < n) (v : Nat) : fieldAt (bytesLE n v) i 1 = v / 256 ^ i % 256 := by
  induction i generalizing n v with
  | zero =>
    obtain ⟨n, rfl⟩ := Nat.exists_eq_succ_of_ne_zero (by omega : n ≠ 0)
    simp [fieldAt, bytesLE, readLE]
  | succ i ih =>
    obtain ⟨n, rfl⟩ := Nat.exists_eq_succ_of_ne_zero (by omega : n ≠ 0)
    have hnext : fieldAt (bytesLE n (v / 256)) i 1 = v / 256 / 256 ^ i % 256 := ih (by omega) _
    rw [Nat.div_div_eq_div_mul, ← Nat.pow_succ'] at hnext
    exact hnext

/-! ### The task record -/

/-- The fields of a task record stand at their places, whatever the rest of the record holds (Table 6-5). -/
theorem taskRecord_bytes (kind lane code x : Byte) (tag arg1 arg2 : Word) (slot quantity : BitVec 16) (rest : List Byte) :
    taskRecord ([kind, lane, code, x] ++ bytesLE 4 tag.toNat ++ bytesLE 2 slot.toNat ++ bytesLE 2 quantity.toNat ++
        bytesLE 4 arg1.toNat ++ bytesLE 4 arg2.toNat ++ rest) =
      { kind := kind, lane := lane, qualifier := code, tag := tag, slot := slot, quantity := quantity, arg1 := arg1,
        arg2 := arg2 } := by
  have hword (w : Word) : BitVec.ofNat 32 (readLE (bytesLE 4 w.toNat)) = w := by
    rw [readLE_bytesLE_word, BitVec.ofNat_toNat, BitVec.setWidth_eq]
  have hhalf (w : BitVec 16) : BitVec.ofNat 16 (readLE (bytesLE 2 w.toNat)) = w := by
    rw [readLE_bytesLE_half, BitVec.ofNat_toNat, BitVec.setWidth_eq]
  calc taskRecord _ = { kind := kind, lane := lane, qualifier := code
                        tag := BitVec.ofNat 32 (readLE (bytesLE 4 tag.toNat))
                        slot := BitVec.ofNat 16 (readLE (bytesLE 2 slot.toNat))
                        quantity := BitVec.ofNat 16 (readLE (bytesLE 2 quantity.toNat))
                        arg1 := BitVec.ofNat 32 (readLE (bytesLE 4 arg1.toNat))
                        arg2 := BitVec.ofNat 32 (readLE (bytesLE 4 arg2.toNat)) } := rfl
    _ = _ := by rw [hword, hword, hword, hhalf, hhalf]

/-! ### Outcome records and block headers -/

/-- The five flags of an outcome record stand in bits 0 to 4 (Table 6-6). -/
theorem flags_bits : ∀ adjusted urgent quiet suspect overdue : Bool,
    let f := BitVec.ofNat 8 (weight adjusted 1 + weight urgent 2 + weight quiet 4 + weight suspect 8 + weight overdue 16)
    f.getLsbD 0 = adjusted ∧ f.getLsbD 1 = urgent ∧ f.getLsbD 2 = quiet ∧ f.getLsbD 3 = suspect ∧ f.getLsbD 4 = overdue := by
  decide

theorem RecordKind.code_lt (k : RecordKind) : k.code < 256 := by
  cases k with
  | final k => cases k <;> decide
  | _ => decide

theorem Cause.code_lt (c : Cause) : c.code < 256 := by cases c <;> decide

theorem OutcomeRecord.bytes_length (r : OutcomeRecord) (lost : Nat) : (r.bytes lost).length = 32 := by
  simp [OutcomeRecord.bytes]

/-- Each numeric field of an outcome record reads back from its place (Table 6-6). -/
theorem OutcomeRecord.bytes_fields (r : OutcomeRecord) {lost : Nat} (hlost : lost < 256) :
    fieldAt (r.bytes lost) 0 1 = r.kind.code ∧ fieldAt (r.bytes lost) 1 1 = r.cause.code ∧
      fieldAt (r.bytes lost) 4 4 = r.tag.toNat ∧ fieldAt (r.bytes lost) 8 2 = r.slot.toNat ∧
      fieldAt (r.bytes lost) 10 2 = r.requested.toNat ∧ fieldAt (r.bytes lost) 12 2 = r.confirmed.toNat ∧
      fieldAt (r.bytes lost) 16 4 = r.intakeSequence.toNat ∧ fieldAt (r.bytes lost) 20 4 = r.timeAccepted.toNat ∧
      fieldAt (r.bytes lost) 24 4 = r.timeClosed.toNat ∧ fieldAt (r.bytes lost) 28 1 = lost ∧
      fieldAt (r.bytes lost) 29 3 = 0 := by
  simp only [OutcomeRecord.bytes, List.append_assoc, fieldAt_append_of_le, fieldAt_bytesLE_append, fieldAt_bytesLE,
    bytesLE_length, List.length_singleton, Nat.reduceLeDiff, Nat.reduceSub, le_refl, Nat.sub_self, Nat.reducePow]
  exact ⟨Nat.mod_eq_of_lt r.kind.code_lt, Nat.mod_eq_of_lt r.cause.code_lt, Nat.mod_eq_of_lt r.tag.isLt,
    Nat.mod_eq_of_lt r.slot.isLt, Nat.mod_eq_of_lt r.requested.isLt, Nat.mod_eq_of_lt r.confirmed.isLt,
    Nat.mod_eq_of_lt r.intakeSequence.isLt, Nat.mod_eq_of_lt r.timeAccepted.isLt, Nat.mod_eq_of_lt r.timeClosed.isLt,
    Nat.mod_eq_of_lt hlost, trivial⟩

/-- The single bytes of an outcome record (Table 6-6). -/
theorem OutcomeRecord.bytes_bytes (r : OutcomeRecord) (lost : Nat) :
    byteAt (r.bytes lost) 2 = r.lane ∧ byteAt (r.bytes lost) 3 = BitVec.ofNat 8 r.flags ∧
      byteAt (r.bytes lost) 14 = r.bundleSize ∧ byteAt (r.bytes lost) 15 = r.bundlePosition := by
  simp only [OutcomeRecord.bytes, List.append_assoc, byteAt_append_of_le, byteAt_singleton_append, byteAt_bytesLE_append,
    bytesLE_length, List.length_singleton, Nat.reduceLeDiff, Nat.reduceSub, le_refl, Nat.sub_self, and_self]

theorem blockHeader_fields (j : Count) {count lost : Nat} (clock : Clock) (hcount : count < 65536) (hlost : lost < 256) :
    let h := blockHeader j count lost clock
    h.length = 32 ∧ fieldAt h 0 4 = j.toNat ∧ fieldAt h 4 2 = count ∧ fieldAt h 6 1 = lost ∧ fieldAt h 7 1 = 0 ∧
      fieldAt h 8 4 = clock.toNat ∧ fieldAt h 12 20 = 0 :=
  ⟨rfl, readLE_bytesLE_word j, readLE_bytesLE_of_lt (n := 2) hcount, readLE_bytesLE_of_lt (n := 1) hlost, rfl,
    readLE_bytesLE_word clock, rfl⟩

/-- The locator of an event in its four bytes (Table 6-8). -/
theorem locator_fields {n a sequence button face generation : Nat} (hn : n < 4) (ha : a < 256) (hs : sequence < 16)
    (hb : button < 4) (hf : face < 4) (hg : generation < 16) :
    let b := bytesLE 4 (locator n a sequence button face generation).toNat
    fieldAt b 0 1 = a ∧ fieldAt b 1 1 = n ∧ fieldAt b 2 1 % 16 = sequence ∧ fieldAt b 2 1 / 16 % 4 = button ∧
      fieldAt b 2 1 / 64 = face ∧ fieldAt b 3 1 = generation := by
  intro b
  have hvalue : (locator n a sequence button face generation).toNat =
      a + 256 * n + 65536 * (sequence + 16 * button + 64 * face) + 16777216 * generation := by
    rw [locator, BitVec.toNat_ofNat]
    omega
  have hbyte {i : Nat} (hi : i < 4) := fieldAt_bytesLE_one hi (locator n a sequence button face generation).toNat
  rw [hbyte (i := 0) (by omega), hbyte (i := 1) (by omega), hbyte (i := 2) (by omega), hbyte (i := 3) (by omega), hvalue]
  omega

/-! ### Frames -/

/-- A frame ends with its CRC, low byte first (R69). -/
theorem frameBytes_eq (body : List Byte) : frameBytes body =
    body ++ [BitVec.ofNat 8 (crc16 body).toNat, BitVec.ofNat 8 ((crc16 body).toNat / 256)] := rfl

/-- What a broadcast frame carries before its CRC (Table 4-2). -/
def Broadcast.body : Broadcast → List Byte
  | .pause => [0, 0x10]
  | .go => [0, 0x11]
  | .allDark => [0, 0x12]
  | .test k => [0, 0x13, BitVec.ofNat 8 k]

theorem Broadcast.bytes_eq (b : Broadcast) : b.bytes = frameBytes b.body := by cases b <;> rfl

theorem weight_eq (flag : Bool) (w : Nat) : weight flag w = flag.toNat * w := by cases flag <;> simp [weight]

/-- A flag read back as one bit of a number. -/
theorem flag_of_toNat {k : Nat} {flag : Bool} (h : k = flag.toNat) : (k == 1) = flag := by cases flag <;> rw [h] <;> rfl

theorem FaceSet.headByte_toNat {x : FaceSet} (hg : x.generation < 16) (hp : ∀ i, x.pinned = some i → i < 4) :
    x.headByte.toNat = x.generation + weight x.paused 16 + weight x.pinned.isSome 32 + 64 * x.pinned.getD 0 := by
  have hpin : x.pinned.getD 0 < 4 := by
    cases h : x.pinned with
    | none => decide
    | some i => exact hp i h
  rw [FaceSet.headByte, BitVec.toNat_ofNat, weight, weight]
  split <;> split <;> omega

/-- The second payload byte of a FACES frame, bit by bit (Table 4-2). -/
theorem FaceSet.headByte_bits {x : FaceSet} (hg : x.generation < 16) (hp : ∀ i, x.pinned = some i → i < 4) :
    x.headByte.toNat % 16 = x.generation ∧ x.headByte.getLsbD 4 = x.paused ∧ x.headByte.getLsbD 5 = x.pinned.isSome ∧
      x.headByte.toNat / 64 = x.pinned.getD 0 := by
  have hpaused := x.paused.toNat_le
  have hpinned := x.pinned.isSome.toNat_le
  rw [← bitOf_eq_getLsbD, ← bitOf_eq_getLsbD, bitOf, bitOf, FaceSet.headByte_toNat hg hp, weight_eq, weight_eq]
  exact ⟨by omega, flag_of_toNat (by omega), flag_of_toNat (by omega), by omega⟩

theorem Face.headByte_toNat {f : Face} (hi : f.index < 4) (hc : f.colour < 8) :
    (byteAt f.bytes 0).toNat = f.index + 4 * f.colour + 32 * f.blink.code + weight f.adjust 128 := by
  have hblink : f.blink.code < 3 := by cases f.blink <;> decide
  change (BitVec.ofNat 8 _).toNat = _
  rw [BitVec.toNat_ofNat, weight]
  split <;> omega

/-- The three bytes of a face (Table 4-2). -/
theorem Face.bytes_fields {f : Face} (hi : f.index < 4) (hc : f.colour < 8) (hq : f.quantity < 65536) :
    f.bytes.length = 3 ∧ (byteAt f.bytes 0).toNat % 4 = f.index ∧ (byteAt f.bytes 0).toNat / 4 % 8 = f.colour ∧
      (byteAt f.bytes 0).toNat / 32 % 4 = (match f.blink with | .steady => 0 | .slow => 1 | .fast => 2) ∧
      (byteAt f.bytes 0).getLsbD 7 = f.adjust ∧ fieldAt f.bytes 1 2 = f.quantity := by
  have hblink : f.blink.code < 3 := by cases f.blink <;> decide
  have hadjust := f.adjust.toNat_le
  change _ ∧ _ ∧ _ ∧ _ = f.blink.code ∧ _ ∧ _
  rw [← bitOf_eq_getLsbD, bitOf, Face.headByte_toNat hi hc, weight_eq]
  exact ⟨rfl, by omega, by omega, by omega, flag_of_toNat (by omega), readLE_bytesLE_of_lt (n := 2) hq⟩

theorem ackByte_bits : ∀ k < 16, (ackByte (some k)).getLsbD 7 = true ∧ (ackByte (some k)).toNat % 128 = k := by decide

/-! ### Places in host memory -/

/-- The journal begins on the first 4 KiB boundary at or behind the end of the task stream (Table 6-1, R107). -/
theorem Setup.journalOffset_bounds (u : Setup) : u.journalOffset % 0x1000 = 0 ∧
    0x5000 + u.capacity * 32 ≤ u.journalOffset ∧ u.journalOffset < 0x5000 + u.capacity * 32 + 0x1000 := by
  rw [Setup.journalOffset]
  omega

/-! ### The module's reply -/

/-- The two bytes of a press event (Table 4-2). -/
def PressEvent.bytes (e : PressEvent) : List Byte :=
  [BitVec.ofNat 8 (e.sequence + 16 * e.button.code + 64 * e.face), BitVec.ofNat 8 e.generation]

theorem buttonOf_code (b : Button) : buttonOf b.code = some b := by cases b <;> rfl

/-- A press event reads back as it was written. -/
theorem pressEvent_bytes {e : PressEvent} (hs : e.sequence < 16) (hf : e.face < 3) (hg : e.generation < 16) :
    pressEvent (BitVec.ofNat 8 (e.sequence + 16 * e.button.code + 64 * e.face)) (BitVec.ofNat 8 e.generation) = some e := by
  have hbutton : e.button.code < 3 := by cases e.button <;> decide
  have hvalue : (BitVec.ofNat 8 (e.sequence + 16 * e.button.code + 64 * e.face)).toNat =
      e.sequence + 16 * e.button.code + 64 * e.face := by
    rw [BitVec.toNat_ofNat]
    omega
  have hcode : (e.sequence + 16 * e.button.code + 64 * e.face) / 16 % 4 = e.button.code := by omega
  have hface : (e.sequence + 16 * e.button.code + 64 * e.face) / 64 = e.face := by omega
  have hsequence : (e.sequence + 16 * e.button.code + 64 * e.face) % 16 = e.sequence := by omega
  have hgeneration : (BitVec.ofNat 8 e.generation).toNat % 16 = e.generation := by
    rw [BitVec.toNat_ofNat]
    omega
  have hnot : (e.face == 3) = false := beq_eq_false_iff_ne.2 (by omega)
  simp only [pressEvent, hvalue, hcode, buttonOf_code, hface, hsequence, hgeneration, hnot, Bool.false_eq_true, if_false]

theorem pressEvents_cons (b0 b1 : Byte) (rest : List Byte) (es : List PressEvent) :
    pressEvents (b0 :: b1 :: rest) = some es ↔
      ∃ e ds, pressEvent b0 b1 = some e ∧ pressEvents rest = some ds ∧ es = e :: ds := by
  rw [pressEvents]
  cases pressEvent b0 b1 <;> cases pressEvents rest <;> simp [eq_comm]

theorem pressEvents_bytes {es : List PressEvent} (h : ∀ e ∈ es, e.sequence < 16 ∧ e.face < 3 ∧ e.generation < 16) :
    pressEvents (es.map PressEvent.bytes).flatten = some es := by
  induction es with
  | nil => rfl
  | cons e es ih =>
    obtain ⟨hs, hf, hg⟩ := h e List.mem_cons_self
    have hrest := ih fun d hd => h d (List.mem_cons_of_mem e hd)
    exact (pressEvents_cons _ _ _ _).2 ⟨e, es, pressEvent_bytes hs hf hg, hrest, rfl⟩

theorem pressEvent_face {b0 b1 : Byte} {e : PressEvent} (h : pressEvent b0 b1 = some e) : e.face < 3 := by
  have hbyte := b0.isLt
  unfold pressEvent at h
  split at h
  · split at h
    · exact nomatch h
    · next hface =>
      obtain rfl := Option.some.inj h
      have hne : b0.toNat / 64 ≠ 3 := fun heq => hface (beq_iff_eq.2 heq)
      change b0.toNat / 64 < 3
      omega
  · exact nomatch h

/-- The press events of a reply take two bytes each, and none has face index 3 (R70). -/
theorem pressEvents_spec : ∀ {bs : List Byte} {es : List PressEvent}, pressEvents bs = some es →
    bs.length = 2 * es.length ∧ ∀ e ∈ es, e.face < 3
  | [], es, h => by
    obtain rfl : [] = es := Option.some.inj h
    simp
  | [_], _, h => nomatch h
  | b0 :: b1 :: rest, es, h => by
    obtain ⟨e, ds, he, hds, rfl⟩ := (pressEvents_cons b0 b1 rest es).1 h
    obtain ⟨hlength, hfaces⟩ := pressEvents_spec hds
    exact ⟨by simp only [List.length_cons, hlength]; omega, List.forall_mem_cons.2 ⟨pressEvent_face he, hfaces⟩⟩

theorem frameBytes_length (body : List Byte) : (frameBytes body).length = body.length + 2 := by
  rw [frameBytes, List.length_append, bytesLE_length]

theorem byteAt_frameBytes {body : List Byte} {i : Nat} (h : i < body.length) : byteAt (frameBytes body) i = byteAt body i :=
  List.getD_append _ _ _ _ h

/-- A frame with a good CRC, from the address spoken to, is read as a reply when its events are (R69, R70). -/
theorem decodeReply_frameBytes {body : List Byte} {a count : Nat} (hcount : (byteAt body 3).toNat = count) (hfour : count ≤ 4)
    (hlength : body.length = 4 + 2 * count) (haddress : (byteAt body 0).toNat = a) (hkind : (byteAt body 1).toNat = 0x80) :
    decodeReply a (frameBytes body) = (pressEvents (body.drop 4)).map fun es =>
      { generation := (byteAt body 2).toNat % 16, fresh := bitOf (byteAt body 2) 4, overflow := bitOf (byteAt body 2) 5
        lampFault := bitOf (byteAt body 2) 6, events := es } := by
  have hbyte {i : Nat} (hi : i < 4) : byteAt (frameBytes body) i = byteAt body i := byteAt_frameBytes (by omega)
  have hbody : (frameBytes body).take (4 + 2 * count) = body := by rw [← hlength, frameBytes, List.take_left]
  have hframe : (frameBytes body).length = 6 + 2 * count := by rw [frameBytes_length]; omega
  simp only [decodeReply, hbyte, Nat.reduceLT, hcount, hbody, hframe, haddress, hkind, hfour, decide_true, BEq.rfl,
    Bool.and_self, if_true]

/-- What makes the bytes on the line a valid reply (R70). -/
theorem decodeReply_eq_some {a : Nat} {frame : List Byte} {r : Reply} (h : decodeReply a frame = some r) :
    (byteAt frame 3).toNat ≤ 4 ∧ frame.length = 6 + 2 * (byteAt frame 3).toNat ∧ (byteAt frame 0).toNat = a ∧
      (byteAt frame 1).toNat = 0x80 ∧ frame = frameBytes (frame.take (4 + 2 * (byteAt frame 3).toNat)) ∧
      pressEvents ((frame.take (4 + 2 * (byteAt frame 3).toNat)).drop 4) = some r.events := by
  unfold decodeReply at h
  dsimp only at h
  split at h
  · next hvalid =>
    simp only [Bool.and_eq_true, decide_eq_true_eq, beq_iff_eq] at hvalid
    obtain ⟨⟨⟨⟨hfour, hlength⟩, haddress⟩, hkind⟩, hcrc⟩ := hvalid
    obtain ⟨es, hes, rfl⟩ := Option.map_eq_some_iff.1 h
    exact ⟨hfour, hlength, haddress, hkind, hcrc, hes⟩
  · exact nomatch h

/-- A valid reply carries the CRC of what stands before it, low byte first (R69). -/
theorem fieldAt_crc {frame : List Byte} {k : Nat} (hlength : frame.length = k + 2) (hcrc : frame = frameBytes (frame.take k)) :
    fieldAt frame (frame.length - 2) 2 = (crc16 (frame.take (frame.length - 2))).toNat := by
  have hend : frame.length - 2 = k := by omega
  have hfront : (frame.take k).length = k := by rw [List.length_take]; omega
  rw [hend]
  calc fieldAt frame k 2 = fieldAt (frameBytes (frame.take k)) k 2 := by rw [← hcrc]
    _ = fieldAt (bytesLE 2 (crc16 (frame.take k)).toNat) 0 2 := by
      rw [frameBytes, fieldAt_append_of_le hfront.le, hfront, Nat.sub_self]
    _ = _ := (fieldAt_bytesLE 2 _).trans (Nat.mod_eq_of_lt (BitVec.isLt _))

/-- The third byte of a module's reply: its displayed generation and its three flags (Table 4-2). -/
def replyStatus (generation : Nat) (fresh overflow lampFault : Bool) : Byte :=
  BitVec.ofNat 8 (generation + weight fresh 16 + weight overflow 32 + weight lampFault 64)

theorem replyStatus_bits {generation : Nat} (hg : generation < 16) (fresh overflow lampFault : Bool) :
    (replyStatus generation fresh overflow lampFault).toNat % 16 = generation ∧
      bitOf (replyStatus generation fresh overflow lampFault) 4 = fresh ∧
      bitOf (replyStatus generation fresh overflow lampFault) 5 = overflow ∧
      bitOf (replyStatus generation fresh overflow lampFault) 6 = lampFault := by
  have hvalue : (replyStatus generation fresh overflow lampFault).toNat =
      generation + weight fresh 16 + weight overflow 32 + weight lampFault 64 := by
    rw [replyStatus, BitVec.toNat_ofNat, weight, weight, weight]
    repeat' split
    all_goals omega
  have hfresh := fresh.toNat_le
  have hoverflow := overflow.toNat_le
  have hlamp := lampFault.toNat_le
  simp only [bitOf, hvalue, weight_eq]
  exact ⟨by omega, flag_of_toNat (by omega), flag_of_toNat (by omega), flag_of_toNat (by omega)⟩

/-- A module's reply reads back as it was written (Table 4-2). -/
theorem decodeReply_bytes {a generation : Nat} (fresh overflow lampFault : Bool) {es : List PressEvent} (ha : a < 256)
    (hg : generation < 16) (hcount : es.length ≤ 4)
    (hes : ∀ e ∈ es, e.sequence < 16 ∧ e.face < 3 ∧ e.generation < 16) :
    decodeReply a (frameBytes ([BitVec.ofNat 8 a, 0x80, replyStatus generation fresh overflow lampFault,
        BitVec.ofNat 8 es.length] ++ (es.map PressEvent.bytes).flatten)) =
      some { generation := generation, fresh := fresh, overflow := overflow, lampFault := lampFault, events := es } := by
  have hbyte {v : Nat} (hv : v < 256) : (BitVec.ofNat 8 v).toNat = v := by rw [BitVec.toNat_ofNat]; omega
  have hevents := pressEvents_bytes hes
  obtain ⟨hlength, -⟩ := pressEvents_spec hevents
  obtain ⟨hgeneration, hfresh, hoverflow, hlamp⟩ := replyStatus_bits hg fresh overflow lampFault
  have hread := decodeReply_frameBytes (body := [BitVec.ofNat 8 a, 0x80, replyStatus generation fresh overflow lampFault,
      BitVec.ofNat 8 es.length] ++ (es.map PressEvent.bytes).flatten) (a := a) (count := es.length) (hbyte (by omega)) hcount
    (by rw [List.length_append, hlength]; rfl) (hbyte ha) rfl
  rw [hread]
  refine (congrArg _ hevents).trans ?_
  change some (Reply.mk _ _ _ _ es) = _
  exact congrArg some (by
    rw [Reply.mk.injEq]
    exact ⟨hgeneration, hfresh, hoverflow, hlamp, rfl⟩)

/-! ### The layouts together -/

/-- Settles O48, table by table: each layout by the lemma that says how its bytes read back. -/
theorem layoutsStandByteForByte : Obligations.LayoutsStandByteForByte := by
  unfold Obligations.LayoutsStandByteForByte
  refine ⟨taskRecord_bytes, fun r lost hlost => ?_, rfl, rfl,
    fun _ _ _ _ _ _ hn ha hs hb hf hg => locator_fields hn ha hs hb hf hg, rfl,
    fun j _ _ clock hcount hlost => blockHeader_fields j clock hcount hlost, ⟨fun b => ?_, rfl, ackByte_bits,
      fun _ _ _ => ⟨frameBytes_eq _, frameBytes_eq _⟩, fun a last x rotation hg hp hfaces => ?_⟩, fun u k j i => ?_,
    fun _ _ fresh overflow lampFault _ ha hg hcount hes => decodeReply_bytes fresh overflow lampFault ha hg hcount hes,
    fun a frame r h => ?_⟩
  · obtain ⟨hkind, hcause, htag, hslot, hrequested, hconfirmed, hsequence, haccepted, hclosed, hlosts, hzero⟩ :=
      r.bytes_fields hlost
    obtain ⟨hlane, hflags, hsize, hposition⟩ := r.bytes_bytes lost
    obtain ⟨hadjusted, hurgent, hquiet, hsuspect, hoverdue⟩ :=
      flags_bits r.adjusted r.urgent r.quiet r.suspectTag r.overdueReported
    rw [hflags]
    exact ⟨r.bytes_length lost, hkind, hcause, hlane, hadjusted, hurgent, hquiet, hsuspect, hoverdue, htag, hslot, hrequested,
      hconfirmed, hsize, hposition, hsequence, haccepted, hclosed, hlosts, hzero⟩
  · exact b.bytes_eq.trans (frameBytes_eq b.body)
  · obtain ⟨hgeneration, hpaused, hpinned, hindex⟩ := FaceSet.headByte_bits hg hp
    refine ⟨frameBytes_eq _, hgeneration, hpaused, hpinned, hindex, fun f hf => ?_⟩
    obtain ⟨hi, hc, hq⟩ := hfaces f hf
    exact Face.bytes_fields hi hc hq
  · obtain ⟨haligned, hbehind, hnext⟩ := u.journalOffset_bounds
    exact ⟨rfl, haligned, hbehind, hnext, rfl⟩
  · obtain ⟨hfour, hlength, haddress, hkind, hcrc, hevents⟩ := decodeReply_eq_some h
    obtain ⟨hcount, hfaces⟩ := pressEvents_spec hevents
    rw [List.length_drop, List.length_take] at hcount
    exact ⟨haddress, BitVec.eq_of_toNat_eq hkind, hfour, hlength, by omega, hfaces, fieldAt_crc (by omega) hcrc⟩

end Sys2Proof.Machine
end

section
/-! Proofs of the family of 06 (the exchange area), third part: what the losses of a feed fault leave, on tables that pass their checks
and on tables that do not. -/

namespace Sys2Proof.Machine

/-! ### The work of a loss

The frame says what table work leaves of the run. Beside it, the losses of a feed fault leave the controllers, the FREE count and
JOURNAL, whatever damage their reads find: no pick is confirmed by them, so that none is freed. -/

/-- The controllers, the FREE count and JOURNAL stand, and what went out before is not taken back. -/
structure State.LossWork (s t : State) : Prop where
  strings : t.strings = s.strings
  free : t.pm.free = s.pm.free
  journal : t.lrc.notice.getLsbD 0 = s.lrc.notice.getLsbD 0
  out : s.out <+: t.out

namespace State

theorem LossWork.refl (s : State) : s.LossWork s := ⟨rfl, rfl, rfl, List.prefix_rfl⟩

theorem LossWork.trans {s t u : State} (h : s.LossWork t) (k : t.LossWork u) : s.LossWork u :=
  ⟨k.strings.trans h.strings, k.free.trans h.free, k.journal.trans h.journal, h.out.trans k.out⟩

/-- A fold of operations that each are such work is such work. -/
theorem lossWork_foldl {α : Type} {f : State → α → State} (hf : ∀ (s : State) a, s.LossWork (f s a)) (l : List α) (s : State) :
    s.LossWork (l.foldl f s) := by
  induction l generalizing s with
  | nil => exact .refl s
  | cons a l ih => exact (hf s a).trans (ih (f s a))

variable (s : State)

theorem lossWork_setPick (i : Nat) (p : Option Pick) : s.LossWork (s.setPick i p) := ⟨rfl, rfl, rfl, List.prefix_rfl⟩
theorem lossWork_setContext (ci : Nat) (x : Option Context) : s.LossWork (s.setContext ci x) := ⟨rfl, rfl, rfl, List.prefix_rfl⟩
theorem lossWork_undefer (i : Nat) : s.LossWork (s.undefer i) := ⟨rfl, rfl, rfl, List.prefix_rfl⟩
theorem lossWork_setTiu (x : Integrity) : s.LossWork (s.setTiu x) := ⟨rfl, rfl, rfl, List.prefix_rfl⟩
theorem lossWork_appendItem (x : Item) : s.LossWork (s.appendItem x) := ⟨rfl, rfl, rfl, List.prefix_rfl⟩

/-- A raised notice other than JOURNAL. -/
theorem raise_journal {x : Notice} (hx : x ≠ .journal) : (s.raise x).lrc.notice.getLsbD 0 = s.lrc.notice.getLsbD 0 := by
  have hbit : x.bit.getLsbD 0 = false := by
    cases x with
    | journal => exact absurd rfl hx
    | _ => rfl
  rw [State.raise_lrc, BitVec.getLsbD_or, hbit, Bool.or_false]

theorem setNotices_out_prefix (n m : BitVec 6) : s.out <+: (s.setNotices n m).out := by
  rw [State.setNotices_out]
  exact List.prefix_append _ _

theorem lossWork_raise {x : Notice} (hx : x ≠ .journal) : s.LossWork (s.raise x) where
  strings := s.raise_strings x
  free := congrArg PickManager.free (s.raise_pm x)
  journal := s.raise_journal hx
  out := s.setNotices_out_prefix _ _

theorem lossWork_reportFault (x : FaultTable) (i : Nat) : s.LossWork (s.reportFault x i) := by
  unfold State.reportFault
  split
  · exact s.lossWork_setTiu _
  · exact (s.lossWork_setTiu _).trans (State.lossWork_raise _ (by decide))

/-- Only a quiet pick confirmed FULL is freed as it is closed (R7). -/
theorem lossWork_close (i : Nat) {o : Outcome} (ho : o.kind ≠ .full) : s.LossWork (s.close i o) := by
  unfold State.close
  split
  · exact .refl s
  · next p _ =>
    have hkeeps : ¬(p.quiet && o.kind == .full) = true := by simp [ho]
    rw [if_neg hkeeps]
    exact (s.lossWork_setPick i _).trans (State.lossWork_appendItem _ _)

theorem lossWork_settleContext (ci : Nat) : s.LossWork (s.settleContext ci) := by
  unfold State.settleContext
  split
  · split
    · exact s.lossWork_setContext ci none
    · exact .refl s
  · exact .refl s

theorem lossWork_dropReference (i : Nat) : s.LossWork (s.dropReference i) := by
  unfold State.dropReference
  split
  · exact .refl s
  · split
    · exact .refl s
    · exact (s.lossWork_setContext _ _).trans (State.lossWork_settleContext _ _)

theorem lossWork_leaveBundle (i : Nat) {kind : OutcomeKind} (hkind : kind ≠ .full) (cause : Cause) (suspect : Bool) :
    s.LossWork (s.leaveBundle i kind cause suspect) :=
  (s.lossWork_close i hkind).trans (State.lossWork_dropReference _ i)

theorem lossWork_markSuspect (i : Nat) : s.LossWork (s.markSuspect i) := by
  unfold State.markSuspect
  split
  · split
    · exact s.lossWork_setPick i _
    · exact .refl s
  · exact .refl s

theorem lossWork_damagePick (i : Nat) : s.LossWork (s.damagePick i) := by
  have hfaulted : OutcomeKind.faulted ≠ .full := by decide
  unfold State.damagePick
  split
  · exact (s.lossWork_undefer i).trans (State.lossWork_close _ i hfaulted)
  · split
    · exact s.lossWork_markSuspect i
    · split
      · exact s.lossWork_leaveBundle i hfaulted .entry true
      · exact s.lossWork_setPick i none

theorem lossWork_walkDeferred : s.LossWork s.walkDeferred := by
  refine lossWork_foldl (fun t i => ?_) _ s
  obtain hv | ⟨p, -, ⟨ci, d, hv⟩ | ⟨o, hv⟩⟩ := t.visitDeferred_cases i
  all_goals rw [hv]
  · exact .refl t
  · exact ⟨rfl, rfl, rfl, List.prefix_rfl⟩
  · exact ⟨rfl, rfl, rfl, List.prefix_rfl⟩

theorem lossWork_handlePick (i : Nat) : s.LossWork (s.handlePick i) := by
  have hdamage := s.lossWork_damagePick i
  unfold State.handlePick
  dsimp only
  split
  · exact (hdamage.trans (State.lossWork_walkDeferred _)).trans (State.lossWork_reportFault _ _ _)
  · exact hdamage.trans (State.lossWork_reportFault _ _ _)

theorem lossWork_placementPass : s.LossWork s.placementPass :=
  (lossWork_foldl lossWork_handlePick _ s).trans (State.lossWork_walkDeferred _)

theorem lossWork_releaseContext (ci : Nat) : s.LossWork (s.releaseContext ci) := by
  unfold State.releaseContext
  split
  · split
    · exact (s.lossWork_setContext ci none).trans (State.lossWork_placementPass _)
    · exact .refl s
  · exact .refl s

theorem lossWork_reportLost (n a : Nat) : s.LossWork (s.reportLost n a) := by
  unfold State.reportLost
  split
  · next ci _ =>
    split
    · split
      · exact ((s.lossWork_setContext ci _).trans (State.lossWork_settleContext _ ci)).trans (State.lossWork_placementPass _)
      · exact s.lossWork_releaseContext ci
    · exact .refl s
  · exact .refl s

theorem lossWork_offerModule (n a : Nat) (kind : RecordKind) (cause : Cause) : s.LossWork (s.offerModule n a kind cause) := by
  unfold State.offerModule State.offer
  split
  · split
    · exact s.lossWork_appendItem _
    · exact ⟨rfl, rfl, rfl, List.prefix_rfl⟩
  · exact .refl s

/-- The losses of a feed fault, on any tables (R91, point 3). -/
theorem lossWork_losesAll (n : Nat) (l : List Nat) : s.LossWork (s.losesAll n l) :=
  lossWork_foldl (fun t a => (t.lossWork_reportLost n a).trans (State.lossWork_offerModule _ n a _ _)) l s

theorem losesAll_frame (n : Nat) (l : List Nat) : (s.losesAll n l).frame = s.frame :=
  foldl_frame (fun t a => t.feedLoses n a) (fun t a => t.feedLoses_frame n a) l s

end State

end Sys2Proof.Machine
end

section
/-! Proofs of the family of 06 (the exchange area), fourth part: what an ACCEPTED START makes of the strings, and what their lines then
carry. -/

namespace Sys2Proof.Machine

/-! ### The controller that is brought up -/

/-- The items that an ACCEPTED START writes in every controller, enabled or not, with any exchange abandoned (R68, R76). -/
def StringCtl.renewed (x : StringCtl) (u : Setup) (n : Nat) : StringCtl :=
  { x.abandoned with
    items := some (u.items n), modules := List.replicate 120 ModuleLink.fresh, coldWalk := 0, dormancyTimer := 0
    roundPosition := 0 }

section BringUp

variable {x : StringCtl} {u : Setup} {n : Nat}

theorem StringCtl.bringUp_of_disabled (h : (u.string n).enabled = false) : x.bringUp u n = { x.renewed u n with
    mode := .off, feed := false, purpose := none, line := .idle, due := [], sweep := none, modeTimer := none
    turnDue := false, dormancyDue := false } := if_pos (by simp [h])

theorem StringCtl.bringUp_of_dark (h : (u.string n).enabled = true) (hfeed : x.feed = false) :
    x.bringUp u n = (x.renewed u n).enterSettling .start := (if_neg (by simp [h])).trans (if_pos (by simp [hfeed]))

theorem StringCtl.bringUp_of_lit (h : (u.string n).enabled = true) (hfeed : x.feed = true) :
    x.bringUp u n = (x.renewed u n).enterSurvey .start false :=
  (if_neg (by simp [h])).trans (if_neg (by simp [hfeed]))

theorem StringCtl.bringUp_feed_of_enabled (h : (u.string n).enabled = true) : (x.bringUp u n).feed = true := by
  cases hfeed : x.feed with
  | false => rw [StringCtl.bringUp_of_dark h hfeed]; rfl
  | true => rw [StringCtl.bringUp_of_lit h hfeed]; exact hfeed

theorem StringCtl.bringUp_feedFaultInput : (x.bringUp u n).feedFaultInput = x.feedFaultInput := by
  unfold StringCtl.bringUp
  dsimp only
  repeat' split
  all_goals rfl

theorem StringCtl.bringUp_items : (x.bringUp u n).items = some (u.items n) ∧ (x.bringUp u n).coldWalk = 0 := by
  unfold StringCtl.bringUp
  dsimp only
  repeat' split
  all_goals exact ⟨rfl, rfl⟩

theorem StringCtl.abandoned_inExchange (x : StringCtl) : x.abandoned.line.inExchange = false := by
  unfold StringCtl.abandoned
  dsimp only
  split
  · rfl
  · next h => simpa using h

/-- Only an exchange is detached from its sweep. -/
theorem Line.detach_of_not_inExchange {l : Line} (h : l.inExchange = false) : l.detach = l := by
  cases l with
  | exchange a k w left => exact nomatch h
  | _ => rfl

theorem StringCtl.abandoned_detach (x : StringCtl) : x.abandoned.line.detach = x.abandoned.line :=
  Line.detach_of_not_inExchange x.abandoned_inExchange

end BringUp

/-! ### A controller that no turn is owed -/

/-- A controller as START leaves it: in a mode that the taking up of its line does not settle, with no light test or census that
its end would report. -/
structure StringCtl.BroughtUp (x : StringCtl) : Prop where
  mode : x.mode = .off ∨ x.mode = .settling ∨ x.mode = .surveying ∨ x.mode = .feedFault
  purpose : x.purpose = some .start ∨ x.purpose = none

theorem StringCtl.broughtUp_powerOn : StringCtl.powerOn.BroughtUp := ⟨.inl rfl, .inr rfl⟩

theorem StringCtl.broughtUp_trip (x : StringCtl) (ms : List ModuleLink) : (x.trip ms).BroughtUp :=
  ⟨.inr (.inr (.inr rfl)), .inr rfl⟩

theorem StringCtl.broughtUp_bringUp (x : StringCtl) (u : Setup) (n : Nat) : (x.bringUp u n).BroughtUp := by
  cases henabled : (u.string n).enabled with
  | false => rw [StringCtl.bringUp_of_disabled henabled]; exact ⟨.inl rfl, .inr rfl⟩
  | true =>
    cases hfeed : x.feed with
    | false => rw [StringCtl.bringUp_of_dark henabled hfeed]; exact ⟨.inr (.inl rfl), .inl rfl⟩
    | true => rw [StringCtl.bringUp_of_lit henabled hfeed]; exact ⟨.inr (.inr (.inl rfl)), .inl rfl⟩

/-- A string that is brought up with its feed on has no exchange on its line, and starts its way to ACTIVE or QUIET. -/
theorem StringCtl.bringUp_of_feed {x : StringCtl} {u : Setup} {n : Nat} (h : (x.bringUp u n).feed = true) :
    (x.bringUp u n).line.inExchange = false ∧ (x.bringUp u n).purpose = some .start ∧
      ((x.bringUp u n).mode = .settling ∨ (x.bringUp u n).mode = .surveying) := by
  cases henabled : (u.string n).enabled with
  | false =>
    rw [StringCtl.bringUp_of_disabled henabled] at h
    exact nomatch h
  | true =>
    cases hfeed : x.feed with
    | false => rw [StringCtl.bringUp_of_dark henabled hfeed]; exact ⟨rfl, rfl, .inl rfl⟩
    | true =>
      rw [StringCtl.bringUp_of_lit henabled hfeed]
      exact ⟨(congrArg Line.inExchange x.abandoned_detach).trans x.abandoned_inExchange, rfl, .inr rfl⟩

/-- A controller reads as it was written, or its string is none of the part's and reads as after power-on. -/
theorem State.stringAt_setString_cases (s : State) (n : Nat) (y : StringCtl) :
    (s.setString n y).stringAt n = y ∨ (s.setString n y).stringAt n = StringCtl.powerOn := by
  by_cases hn : n < s.strings.length
  · exact .inl (s.stringAt_setString_self n y hn)
  · refine .inr (List.getD_eq_default _ _ ?_)
    rw [State.setString_length]
    omega

/-! ### One string at START -/

section StartString

variable (u : Setup) (s : State) (n : Nat)

/-- A string at START, before the level of its feed-fault input is looked at (R76). -/
def State.raised : State := s.setString n ((s.stringAt n).bringUp u n)

/-- What an ACCEPTED START does with a string: it is brought up or shut down, and a feed fault that stands at a feed switched on is
taken, with no set in flight to drop and no closing advisory to offer (R76, R91). -/
theorem State.startString_cases :
    let t := State.raised u s n
    let fault := (t.stringAt n).feedFaultInput && (t.stringAt n).feed
    (fault = false ∧ State.startString u s n = t) ∨
      (fault = true ∧ ∃ ms, State.startString u s n =
        ((t.setString n ((t.stringAt n).trip ms)).losesAll n (t.hotAddresses n)).raise .string) := by
  intro t fault
  have hstart : State.startString u s n = t.judgeFeed n := rfl
  cases hfault : fault with
  | false => exact .inl ⟨rfl, hstart.trans (if_neg (ne_true_of_eq_false hfault))⟩
  | true =>
    refine .inr ⟨rfl, ?_⟩
    obtain ⟨-, hfeed⟩ := Bool.and_eq_true_iff.1 hfault
    have hat : t.stringAt n = (s.stringAt n).bringUp u n :=
      (s.stringAt_setString_cases n _).resolve_right fun hnone => by
        have hoff : (t.stringAt n).feed = false := congrArg StringCtl.feed hnone
        exact nomatch hoff.symm.trans hfeed
    rw [hat] at hfeed
    obtain ⟨hline, hpurpose, hmode⟩ := StringCtl.bringUp_of_feed hfeed
    rw [← hat] at hline hpurpose hmode
    have hdrop : t.dropInFlight n = t := State.dropInFlight_of_other fun a w left h => by
      rw [h] at hline
      exact nomatch hline
    have hcloses : t.feedCloses n = t := by
      obtain ⟨k, hends, -⟩ | ⟨-, heq⟩ := t.feedCloses_eq n
      · obtain hm | hm := hmode <;> simp [StringCtl.feedEnds, hm, hpurpose] at hends
      · exact heq
    refine ⟨t.feedModules n 1 (t.stringAt n).modules, ?_⟩
    have hoff : ((t.stringAt n).mode == .off) = false := by obtain hm | hm := hmode <;> rw [hm] <;> rfl
    have hjudge : t.judgeFeed n = t.takeFeedFault n := (if_pos hfault).trans (if_neg (by simp [hoff]))
    rw [hstart, hjudge, State.takeFeedFault_eq, State.tripped, hdrop, hcloses]

theorem State.startString_stringAt_of_ne {m : Nat} (h : m ≠ n) : (State.startString u s m).stringAt n = s.stringAt n := by
  have hraised : (State.raised u s m).stringAt n = s.stringAt n := s.stringAt_setString_of_ne m n _ h
  obtain ⟨-, heq⟩ | ⟨-, ms, heq⟩ := State.startString_cases u s m <;> rw [heq]
  · exact hraised
  · rw [State.stringAt_of_strings (State.raise_strings _ _), State.stringAt_of_strings (State.lossWork_losesAll _ _ _).strings,
      State.stringAt_setString_of_ne _ _ _ _ h, hraised]

theorem State.startString_count : (State.startString u s n).strings.length = s.strings.length := by
  obtain ⟨-, heq⟩ | ⟨-, ms, heq⟩ := State.startString_cases u s n <;> rw [heq]
  · exact s.setString_length n _
  · rw [State.raise_strings, (State.lossWork_losesAll _ _ _).strings, State.setString_length]
    exact s.setString_length n _

/-- A string whose feed-fault input is at rest, or whose feed is off, is as it was brought up or shut down. -/
theorem State.startString_stringAt (hn : n < s.strings.length)
    (h : (s.stringAt n).feedFaultInput = false ∨ ((s.stringAt n).bringUp u n).feed = false) :
    (State.startString u s n).stringAt n = (s.stringAt n).bringUp u n := by
  have hat : (State.raised u s n).stringAt n = (s.stringAt n).bringUp u n := s.stringAt_setString_self n _ hn
  obtain ⟨-, heq⟩ | ⟨hfault, -⟩ := State.startString_cases u s n
  · rw [heq, hat]
  · rw [hat, StringCtl.bringUp_feedFaultInput] at hfault
    obtain h | h := h <;> simp [h] at hfault

/-- An asserted feed fault of an enabled string is taken at once (R76). -/
theorem State.startString_stringAt_of_fault (hn : n < s.strings.length) (h : (s.stringAt n).feedFaultInput = true)
    (henabled : (u.string n).enabled = true) :
    ∃ ms, (State.startString u s n).stringAt n = ((s.stringAt n).bringUp u n).trip ms := by
  have hat : (State.raised u s n).stringAt n = (s.stringAt n).bringUp u n := s.stringAt_setString_self n _ hn
  have hcount : n < (State.raised u s n).strings.length := lt_of_lt_of_eq hn (s.setString_length n _).symm
  obtain ⟨hfault, -⟩ | ⟨-, ms, heq⟩ := State.startString_cases u s n
  · rw [hat, StringCtl.bringUp_feedFaultInput, h, StringCtl.bringUp_feed_of_enabled henabled] at hfault
    exact nomatch hfault
  · refine ⟨ms, ?_⟩
    rw [heq, State.stringAt_of_strings (State.raise_strings _ _), State.stringAt_of_strings (State.lossWork_losesAll _ _ _).strings,
      State.stringAt_setString_self _ n _ hcount, hat]

theorem State.startString_broughtUp : ((State.startString u s n).stringAt n).BroughtUp := by
  have hread (t : State) {y : StringCtl} (hy : y.BroughtUp) : ((t.setString n y).stringAt n).BroughtUp := by
    obtain h | h := t.stringAt_setString_cases n y <;> rw [h]
    · exact hy
    · exact StringCtl.broughtUp_powerOn
  obtain ⟨-, heq⟩ | ⟨-, ms, heq⟩ := State.startString_cases u s n <;> rw [heq]
  · exact hread s (StringCtl.broughtUp_bringUp _ _ _)
  · rw [State.stringAt_of_strings (State.raise_strings _ _), State.stringAt_of_strings (State.lossWork_losesAll _ _ _).strings]
    exact hread _ (StringCtl.broughtUp_trip _ _)

end StartString

/-- One string, after an operation that is done for each of the four and touches no string but its own. -/
theorem State.eachString_stringAt {f : State → Nat → State}
    (hne : ∀ (t : State) (m n : Nat), m ≠ n → (f t m).stringAt n = t.stringAt n)
    (hcount : ∀ (t : State) m, (f t m).strings.length = t.strings.length) (s : State) {n : Nat} (hn : n < 4) :
    ∃ t : State, t.stringAt n = s.stringAt n ∧ t.strings.length = s.strings.length ∧
      (s.eachString f).stringAt n = (f t n).stringAt n := by
  have : n = 0 ∨ n = 1 ∨ n = 2 ∨ n = 3 := by omega
  simp only [State.eachString, List.foldl]
  rcases this with rfl | rfl | rfl | rfl
  · exact ⟨s, rfl, rfl, by simp [hne]⟩
  · exact ⟨f s 0, by simp [hne], by simp [hcount], by simp [hne]⟩
  · exact ⟨f (f s 0) 1, by simp [hne], by simp [hcount], by simp [hne]⟩
  · exact ⟨f (f (f s 0) 1) 2, by simp [hne], by simp [hcount], rfl⟩

/-! ### The lines of strings brought up -/

section Lines

variable {s : State} {n : Nat}

theorem State.settleMode_of_broughtUp (h : (s.stringAt n).BroughtUp) : s.settleMode n = s := by
  apply State.settleMode_of_mode <;> obtain hm | hm | hm | hm := h.mode <;> rw [hm] <;> exact fun h => nomatch h

/-- No closing advisory is offered as the line of such a string is taken up (R78, R90). -/
theorem State.runLine_jw_of_broughtUp (h : (s.stringAt n).BroughtUp) : (s.runLine n).jw = s.jw := by
  have hends : (s.endSweep n).jw = s.jw := by
    unfold State.endSweep State.endSurvey
    simp only [State.closeSurvey_of_none (.inr h.purpose)]
    repeat' split
    all_goals rfl
  unfold State.runLine
  rw [State.settleMode_of_broughtUp h]
  dsimp only
  split
  · split
    · rfl
    · rw [State.turn_jw, hends]
  · rfl

/-- Each line is taken up with its string as START has left it, for no line touches another string. -/
theorem State.foldl_runLine_jw (l : List Nat) (hl : l.Nodup) (s : State) (h : ∀ n ∈ l, (s.stringAt n).BroughtUp) :
    (l.foldl State.runLine s).jw = s.jw := by
  induction l generalizing s with
  | nil => rfl
  | cons m l ih =>
    obtain ⟨hm, hl⟩ := List.nodup_cons.1 hl
    have hrest (n : Nat) (hn : n ∈ l) : ((s.runLine m).stringAt n).BroughtUp := by
      have hne : m ≠ n := fun heq => hm (heq ▸ hn)
      rw [s.runLine_stringAt_of_ne hne]
      exact h n (List.mem_cons_of_mem m hn)
    exact (ih hl (s.runLine m) hrest).trans (State.runLine_jw_of_broughtUp (h m List.mem_cons_self))

theorem State.kick_jw_of_broughtUp (h : ∀ n < 4, (s.stringAt n).BroughtUp) : s.kick.jw = s.jw :=
  State.foldl_runLine_jw [0, 1, 2, 3] (by decide) s fun n hn => h n (by simp at hn; omega)

/-- A string that has nothing to send stays as START has left it. -/
theorem State.kick_stringAt_of_rest (hn : n < 4) (h : (s.stringAt n).BroughtUp) (hline : (s.stringAt n).line = .idle)
    (hdue : (s.stringAt n).due = []) (hsweep : (s.stringAt n).sweep = none) : s.kick.stringAt n = s.stringAt n := by
  obtain ⟨t, -, -, hat, hkick⟩ := s.kick_stringAt hn
  rw [← hat] at h hline hdue hsweep
  have hturn : t.turn n = t := by
    obtain hm | hm | hm | hm := h.mode <;> simp only [State.turn, hm, hsweep]
  rw [hkick, State.runLine_of_turn (State.settleMode_of_broughtUp h) hline hdue hsweep, hturn, hat]

/-- A string with broadcasts due puts the first on the line as soon as that is idle, and changes in nothing else (R70, R92). -/
theorem State.kick_stringAt_of_due (hn : n < 4) (hcount : n < s.strings.length) (h : (s.stringAt n).BroughtUp)
    (hdue : (s.stringAt n).due ≠ []) : ∃ line due, s.kick.stringAt n = { s.stringAt n with line := line, due := due } ∧
      ((s.stringAt n).line ≠ .idle → line = (s.stringAt n).line ∧ due = (s.stringAt n).due) ∧
      ((s.stringAt n).line = .idle → ∀ b rest, (s.stringAt n).due = b :: rest → line = .broadcast b 1 ∧ due = rest) := by
  obtain ⟨t, hlasting, -, hat, hkick⟩ := s.kick_stringAt hn
  rw [hkick, ← hat]
  rw [← hat] at h hdue
  have hmode := State.settleMode_of_broughtUp h
  by_cases hline : (t.stringAt n).line = .idle
  · obtain ⟨b, rest, hb⟩ := List.exists_cons_of_ne_nil hdue
    have hlt : n < t.strings.length := lt_of_lt_of_eq hcount (State.stringCount_of_lasting hlasting).symm
    refine ⟨.broadcast b 1, rest, ?_, fun hbusy => absurd hline hbusy, fun _ c more hc => ?_⟩
    · rw [State.runLine_of_due hmode hline hb hlt, State.sent_stringAt _ hlt]
    · obtain ⟨rfl, rfl⟩ := List.cons.inj (hb.symm.trans hc)
      exact ⟨rfl, rfl⟩
  · exact ⟨_, _, by rw [State.runLine_of_busy hmode hline], fun _ => ⟨rfl, rfl⟩, fun hidle => absurd hidle hline⟩

end Lines

end Sys2Proof.Machine
end

section
/-! Proofs of the family of 06 (the exchange area), fifth part: the START checks and the blocks of an ACCEPTED START (O7). -/

namespace Sys2Proof.Machine

/-! ### The START checks -/

section Checks

variable (hostLine block : List Byte)

/-- Check 1: C, N and R are sizes that the part knows (R109). -/
def sizesGood : Prop :=
  fieldAt block 0 2 ∈ [64, 128, 256, 512, 1024, 2048, 4096] ∧ fieldAt block 2 2 ∈ [2, 4, 8, 16, 32, 64] ∧
    fieldAt block 4 2 ∈ [8, 16, 32, 64]

/-- Check 2: the atlas has 1 to 1024 entries (R109). -/
def atlasGood : Prop := fieldAt block 6 2 ≠ 0 ∧ fieldAt block 6 2 ≤ 1024

/-- Check 3: POSTED and RELEASED are 0 (R109). -/
def countersGood : Prop := fieldAt hostLine 0 4 = 0 ∧ fieldAt hostLine 4 4 = 0

theorem sizesAccepted_iff :
    sizesAccepted (fieldAt block 0 2) (fieldAt block 2 2) (fieldAt block 4 2) = true ↔ sizesGood block := by
  simp only [sizesAccepted, Bool.and_eq_true, List.contains_iff_mem, and_assoc, sizesGood]

variable {hostLine block}

theorem startVerdict_of_sizes (h : ¬sizesGood block) : startVerdict hostLine block = .sizes :=
  if_pos (by simpa using mt (sizesAccepted_iff block).1 h)

theorem startVerdict_of_sizesGood (h : sizesGood block) : startVerdict hostLine block =
    if fieldAt block 6 2 == 0 || decide (1024 < fieldAt block 6 2) then .atlas
    else if fieldAt hostLine 0 4 != 0 || fieldAt hostLine 4 4 != 0 then .counters else .accepted :=
  if_neg (by simpa using (sizesAccepted_iff block).2 h)

theorem startVerdict_of_atlas (h : sizesGood block) (ha : ¬atlasGood block) : startVerdict hostLine block = .atlas := by
  rw [startVerdict_of_sizesGood h, if_pos]
  simp only [atlasGood] at ha
  simp only [Bool.or_eq_true, beq_iff_eq, decide_eq_true_eq]
  omega

theorem startVerdict_of_counters (h : sizesGood block) (ha : atlasGood block) (hc : ¬countersGood hostLine) :
    startVerdict hostLine block = .counters := by
  obtain ⟨hsome, hmost⟩ := ha
  rw [startVerdict_of_sizesGood h, if_neg (by simp [hsome, hmost]), if_pos]
  simp only [countersGood] at hc
  simp only [Bool.or_eq_true, bne_iff_ne]
  omega

theorem startVerdict_of_good (h : sizesGood block) (ha : atlasGood block) (hc : countersGood hostLine) :
    startVerdict hostLine block = .accepted := by
  obtain ⟨hsome, hmost⟩ := ha
  obtain ⟨hposted, hreleased⟩ := hc
  rw [startVerdict_of_sizesGood h, if_neg (by simp [hsome, hmost]), if_neg (by simp [hposted, hreleased])]

/-- The arrival of both START reads in STARTING is judged (R108, R109). -/
theorem exec_startReadArrival {s : State} (hrun : s.lrc.run = .starting) (hread : s.lrc.startRead.isSome = true)
    (hhost : hostLine.length = 64) (hblock : block.length = 64) :
    exec (.startReadArrival hostLine block) s = .next (s.judgeStart hostLine block) :=
  (wellFormed_of_wf (by simp [Instr.wf, hhost, hblock]) _).trans (attempt_of_arises (by simp [hrun, hread]) _)

theorem State.judgeStart_of_accepted (s : State) (h : startVerdict hostLine block = .accepted) :
    s.judgeStart hostLine block = s.acceptStart (setupCopy block) := by
  simp only [State.judgeStart, h]

theorem State.judgeStart_of_failed (s : State) {v : Verdict} (h : startVerdict hostLine block = v) (hv : v ≠ .accepted) :
    s.judgeStart hostLine block = s.failStart v := by
  unfold State.judgeStart
  rw [h]
  cases v with
  | accepted => exact absurd rfl hv
  | _ => rfl

/-- A START that fails touches run control alone (R109). -/
theorem State.failStart_lrc (s : State) (v : Verdict) : (s.failStart v).lrc = { s.lrc with
    run := .unset, verdict := v, base := none, startRead := none, notice := s.lrc.notice ||| Notice.setup.bit } := by
  simp [State.failStart]

end Checks

/-! ### The threshold of JOURNAL -/

theorem le_clampTo {lo hi : Nat} (h : lo ≤ hi) (v : Nat) : lo ≤ clampTo lo hi v := by
  unfold clampTo
  repeat' split
  all_goals omega

/-- The threshold of JOURNAL is at least 1, so that no block waits at a START (R110, R159). -/
theorem setupCopy_threshold_pos {block : List Byte} (h : sizesGood block) : 0 < (setupCopy block).threshold := by
  obtain ⟨-, hblocks, -⟩ := h
  have hsome : 1 ≤ fieldAt block 2 2 := by
    simp only [List.mem_cons, List.not_mem_nil, or_false] at hblocks
    omega
  exact le_clampTo hsome _

/-! ### The blocks at an ACCEPTED START -/

/-- The judgement of JOURNAL sends at most a message (R159, R161). -/
theorem State.judgeJournal_out (s : State) (atSeal : Bool) : s.out <+: (s.judgeJournal atSeal).out := by
  unfold State.judgeJournal
  split
  · exact List.prefix_rfl
  · split
    · split
      · exact s.setNotices_out_prefix _ _
      · exact List.prefix_rfl
    · split
      · exact s.setNotices_out_prefix _ _
      · exact List.prefix_rfl

/-- What START leaves behind the part line and the judgement of JOURNAL, before it turns to the strings (R109). -/
def State.begun (s : State) (u : Setup) : State := (s.startBlocks u).partLine.judgeJournal false

theorem State.acceptStart_eq (s : State) (u : Setup) : s.acceptStart u = ((s.begun u).eachString (State.startString u)).kick := rfl

section Begun

variable (s : State) (u : Setup)

theorem State.begun_lrc : (s.begun u).lrc = { s.lrc with
    run := .running, verdict := .accepted, clock := 0, setup := some u, startRead := none
    notice := (s.startBlocks u).partLine.journalFlag false } := by
  rw [State.begun, State.judgeJournal_lrc, State.partLine_lrc]
  rfl

theorem State.begun_jw : (s.begun u).jw = Journal.empty := by simp [State.begun, State.startBlocks]
theorem State.begun_iu : (s.begun u).iu = Intake.empty := by simp [State.begun, State.startBlocks]
theorem State.begun_ac : (s.begun u).ac = Cache.empty true := by simp [State.begun, State.startBlocks]
theorem State.begun_contexts : (s.begun u).contexts = s.contexts := by simp [State.begun, State.startBlocks]
theorem State.begun_strings : (s.begun u).strings = s.strings := by simp [State.begun, State.startBlocks]
theorem State.begun_pm : (s.begun u).pm = { s.pm with lanes := List.replicate 6 Lane.off } := by
  simp [State.begun, State.startBlocks]

/-- JOURNAL is clear in LEVEL, and stands in LATCH (R159). -/
theorem State.begun_journal (hu : 0 < u.threshold) :
    (s.begun u).lrc.notice.getLsbD 0 = (u.latch && s.lrc.notice.getLsbD 0) := by
  have hflag : (s.startBlocks u).partLine.journalFlag false =
      if u.latch then s.lrc.notice else s.lrc.notice &&& ~~~Notice.journal.bit := by
    have hsetup : (s.startBlocks u).lrc.setup = some u := rfl
    have hnotice : (s.startBlocks u).lrc.notice = s.lrc.notice := rfl
    have hnone : (s.startBlocks u).jw.unreleased = 0 := by simp [State.startBlocks, Journal.unreleased, Journal.empty]
    simp only [State.journalFlag, State.partLine_lrc, State.partLine_jw, hsetup, hnotice, hnone]
    exact if_neg (by omega)
  rw [State.begun_lrc, hflag]
  cases u.latch with
  | false => simp [Notice.bit]
  | true => rfl

/-- The part line goes out first: no record taken, no block sealed, the FREE count, clock 0 (R109, R114). -/
theorem State.begun_out {b : Addr} (hb : s.lrc.base = some b) :
    s.out ++ [.linkWrite (b + 0x40#64) (bytesLE 4 0 ++ bytesLE 4 0 ++ bytesLE 4 s.pm.free ++ bytesLE 4 0)] <+:
      (s.begun u).out := by
  have hline : (s.startBlocks u).partLine.out =
      s.out ++ [.linkWrite (b + 0x40#64) (bytesLE 4 0 ++ bytesLE 4 0 ++ bytesLE 4 s.pm.free ++ bytesLE 4 0)] := by
    rw [State.partLine, State.linkWrite_of_base (s.startBlocks u) b hb]
    rfl
  rw [State.begun, ← hline]
  exact State.judgeJournal_out _ false

end Begun

/-! ### What the strings leave of the run -/

/-- What the strings of an ACCEPTED START leave: what a string event leaves, the intake, the cache, the FREE count and JOURNAL; what
went out before; and, with no context in use, the contexts and the journal. -/
structure State.Brings (s t : State) : Prop where
  run : s.LeavesRun t
  iu : t.iu = s.iu
  ac : t.ac = s.ac
  free : t.pm.free = s.pm.free
  journal : t.lrc.notice.getLsbD 0 = s.lrc.notice.getLsbD 0
  out : s.out <+: t.out
  idle : (∀ e ∈ s.contexts, e.context = none) → t.contexts = s.contexts ∧ t.jw = s.jw

theorem State.Brings.trans {s t u : State} (h : s.Brings t) (k : t.Brings u) : s.Brings u where
  run := h.run.trans k.run
  iu := k.iu.trans h.iu
  ac := k.ac.trans h.ac
  free := k.free.trans h.free
  journal := k.journal.trans h.journal
  out := h.out.trans k.out
  idle hnone := by
    obtain ⟨hcontexts, hjw⟩ := h.idle hnone
    obtain ⟨hcontexts', hjw'⟩ := k.idle (by rwa [hcontexts])
    exact ⟨hcontexts'.trans hcontexts, hjw'.trans hjw⟩

theorem State.brings_setString (s : State) (n : Nat) (x : StringCtl) : s.Brings (s.setString n x) :=
  ⟨⟨rfl, rfl, rfl, rfl, rfl, rfl⟩, rfl, rfl, rfl, rfl, List.prefix_rfl, fun _ => ⟨rfl, rfl⟩⟩

/-- With no context in use no address is hot (4.1). -/
theorem State.hotAddresses_of_noContext {s : State} (h : ∀ e ∈ s.contexts, e.context = none) (n : Nat) :
    s.hotAddresses n = [] := by
  refine List.filter_eq_nil_iff.2 fun a _ => ?_
  have hnone : s.contextOfModule n a = none := firstFrom_eq_none _ 0 _ fun e he => by rw [h e he]; rfl
  simp [State.hot, hnone]

theorem State.startString_brings (u : Setup) (s : State) (n : Nat) : s.Brings (State.startString u s n) := by
  obtain ⟨-, heq⟩ | ⟨-, ms, heq⟩ := State.startString_cases u s n <;> rw [heq]
  · exact s.brings_setString n _
  · set t := State.raised u s n
    set v := t.setString n ((t.stringAt n).trip ms)
    have hv : s.Brings v := (s.brings_setString n _).trans (t.brings_setString n _)
    have hframe : ((v.losesAll n (t.hotAddresses n)).raise .string).frame = v.frame :=
      (State.raise_frame _ _).trans (v.losesAll_frame n _)
    have hloses : v.LossWork ((v.losesAll n (t.hotAddresses n)).raise .string) :=
      (v.lossWork_losesAll n _).trans (State.lossWork_raise _ (by decide))
    refine hv.trans ⟨State.leavesRun_of_frame hframe, State.iu_of_frame hframe, State.ac_of_frame hframe, hloses.free,
      hloses.journal, hloses.out, fun hnone => ?_⟩
    have hcold : t.hotAddresses n = [] := State.hotAddresses_of_noContext hnone n
    rw [hcold, State.raise_contexts, State.raise_jw]
    exact ⟨rfl, rfl⟩

theorem State.eachString_brings (u : Setup) (s : State) : s.Brings (s.eachString (State.startString u)) :=
  (((s.startString_brings u 0).trans (State.startString_brings u _ 1)).trans (State.startString_brings u _ 2)).trans
    (State.startString_brings u _ 3)

/-! ### The state that an ACCEPTED START leaves -/

section Accepted

variable (s : State) (u : Setup)

theorem State.eachString_broughtUp {n : Nat} (hn : n < 4) : ((s.eachString (State.startString u)).stringAt n).BroughtUp := by
  obtain ⟨t, -, -, hat⟩ := State.eachString_stringAt (fun t m k h => State.startString_stringAt_of_ne u t k h)
    (fun t m => State.startString_count u t m) s hn
  rw [hat]
  exact State.startString_broughtUp u t n

theorem State.acceptStart_leaves : (s.begun u).LeavesRun (s.acceptStart u) :=
  (State.eachString_brings u (s.begun u)).run.trans (State.leavesRun_of_frame (State.kick_frame _))

theorem State.acceptStart_lrc : (s.acceptStart u).lrc = { s.lrc with
    run := .running, verdict := .accepted, clock := 0, setup := some u, startRead := none
    notice := (s.acceptStart u).lrc.notice } := by
  rw [(s.acceptStart_leaves u).lrc, State.begun_lrc]

theorem State.acceptStart_iu : (s.acceptStart u).iu = Intake.empty := by
  rw [State.acceptStart_eq, State.kick_iu, (State.eachString_brings u _).iu, State.begun_iu]

theorem State.acceptStart_ac : (s.acceptStart u).ac = Cache.empty true := by
  rw [State.acceptStart_eq, State.kick_ac, (State.eachString_brings u _).ac, State.begun_ac]

theorem State.acceptStart_lanes : (s.acceptStart u).pm.lanes = List.replicate 6 Lane.off := by
  rw [(s.acceptStart_leaves u).lanes, State.begun_pm]

theorem State.acceptStart_free : (s.acceptStart u).pm.free = s.pm.free := by
  rw [State.acceptStart_eq, State.kick_pm, (State.eachString_brings u _).free, State.begun_pm]

/-- SEALED, RELEASED and the open block begin at 0 (R111, R151). -/
theorem State.acceptStart_counts : (s.acceptStart u).jw.sealed = 0 ∧ (s.acceptStart u).jw.released = 0 ∧
    (s.acceptStart u).jw.written = 0 ∧ (s.acceptStart u).jw.sealTimer = none := by
  have h := s.acceptStart_leaves u
  rw [h.sealed, h.released, h.written, h.sealTimer, State.begun_jw]
  exact ⟨rfl, rfl, rfl, rfl⟩

/-- With no context in use no module is lost, so that no advisory is offered (R90, R151). -/
theorem State.acceptStart_jw (h : ∀ e ∈ s.contexts, e.context = none) : (s.acceptStart u).jw = Journal.empty := by
  obtain ⟨-, hkept⟩ := (State.eachString_brings u (s.begun u)).idle (by rwa [State.begun_contexts])
  rw [State.acceptStart_eq, State.kick_jw_of_broughtUp fun n hn => (s.begun u).eachString_broughtUp u hn, hkept, State.begun_jw]

theorem State.acceptStart_journal (hu : 0 < u.threshold) :
    (s.acceptStart u).lrc.notice.getLsbD 0 = (u.latch && s.lrc.notice.getLsbD 0) := by
  rw [State.acceptStart_eq, State.kick_lrc, (State.eachString_brings u _).journal, State.begun_journal s u hu]

theorem State.acceptStart_out : ∃ more, ∀ base, s.lrc.base = some base → (s.acceptStart u).out =
    s.out ++ .linkWrite (base + 0x40#64) (bytesLE 4 0 ++ bytesLE 4 0 ++ bytesLE 4 s.pm.free ++ bytesLE 4 0) :: more := by
  cases hbase : s.lrc.base with
  | none => exact ⟨[], fun _ h => nomatch h⟩
  | some base =>
    obtain ⟨more, hmore⟩ := ((s.begun_out u hbase).trans (State.eachString_brings u _).out).trans (State.kick_out _)
    refine ⟨more, fun d hd => ?_⟩
    obtain rfl := Option.some.inj hd
    rw [State.acceptStart_eq, ← hmore, List.append_assoc]
    rfl

end Accepted

/-! ### The verdict of the last START -/

theorem State.resetAll_lrc (s : State) (link soft : Bool) : (s.resetAll link soft).lrc = s.resetWords link soft :=
  State.kick_lrc _

theorem State.clearRun_verdict (s : State) : s.clearRun.lrc.verdict = s.lrc.verdict := by
  rw [State.clearRun, State.kick_lrc]
  rfl

/-- Settles O7, by the verdict of the checks and by what a failed and an ACCEPTED START leave of each block. -/
theorem startChecksDecideTheStart : Obligations.StartChecksDecideTheStart := by
  unfold Obligations.StartChecksDecideTheStart
  intro s h b hrun hread hh hb c n r a sizes atlas counters failed
  have hexec := exec_startReadArrival hrun hread hh hb
  have hfails {v : Verdict} (hverdict : startVerdict h b = v) (hv : v ≠ .accepted) : failed v := by
    rw [State.judgeStart_of_failed s hverdict hv] at hexec
    refine ⟨_, hexec, s.failStart_lrc v, ?_⟩
    simp [State.failStart]
  refine ⟨fun hs => hfails (startVerdict_of_sizes hs) (by decide), fun hs ha => hfails (startVerdict_of_atlas hs ha) (by decide),
    fun hs ha hc => hfails (startVerdict_of_counters hs ha hc) (by decide), fun hs ha hc => ?_, fun v t ht => ?_,
    fun v t ht => ?_, fun v t ht => ?_, fun v t ht => ?_⟩
  · set u := setupCopy b
    rw [State.judgeStart_of_accepted s (startVerdict_of_good hs ha hc)] at hexec
    obtain ⟨more, hmore⟩ := s.acceptStart_out u
    obtain ⟨hsealed, hreleased, hwritten, htimer⟩ := s.acceptStart_counts u
    have hlrc := s.acceptStart_lrc u
    refine ⟨s.acceptStart u, more, hexec, by rw [hlrc], by rw [hlrc], by rw [hlrc], by rw [hlrc], by rw [hlrc], by rw [hlrc],
      s.acceptStart_iu u, s.acceptStart_ac u, s.acceptStart_lanes u, s.acceptStart_free u, hsealed, hreleased, hwritten, htimer,
      fun hnone => ?_, s.acceptStart_journal u (setupCopy_threshold_pos hs), hmore⟩
    rw [s.acceptStart_jw u hnone]
    exact ⟨rfl, rfl, rfl, rfl⟩
  · obtain rfl : v.power = t := Host.Outcome.next.inj ht
    rfl
  · obtain rfl : v.resetAll false true = t := Host.Outcome.next.inj ht
    rw [State.resetAll_lrc]
    rfl
  · obtain rfl : v.resetAll true false = t := Host.Outcome.next.inj ht
    rw [State.resetAll_lrc]
    rfl
  · obtain rfl : (if v.lrc.run == .halted then v.clearRun else v.refuseAction) = t := Host.Outcome.next.inj ht
    split
    · exact v.clearRun_verdict
    · rfl

end Sys2Proof.Machine
end

section
/-! Proofs of the family of 06 (the exchange area), sixth part: the setup copy, and the strings of an ACCEPTED START (O8). -/

namespace Sys2Proof.Machine

/-! ### The setup copy -/

/-- A value in its range is kept, and another brought to the nearer end (R110). -/
theorem clampTo_spec {lo hi : Nat} (h : lo ≤ hi) (v : Nat) :
    (v < lo → clampTo lo hi v = lo) ∧ (lo ≤ v → v ≤ hi → clampTo lo hi v = v) ∧ (hi < v → clampTo lo hi v = hi) := by
  unfold clampTo
  split
  · exact ⟨fun _ => rfl, by omega, by omega⟩
  · split
    · exact ⟨by omega, by omega, fun _ => rfl⟩
    · exact ⟨by omega, fun _ _ => rfl, by omega⟩

/-- A period in hundreds of ms stays one, for both ends are (R110). -/
theorem clampTo_hundreds (v : Nat) : clampTo 200 2000 (v / 100 * 100) % 100 = 0 := by
  unfold clampTo
  repeat' split
  all_goals omega

theorem setupCopy_string (block : List Byte) {n : Nat} (hn : n < 4) : (setupCopy block).string n = stringSetup block n := by
  have : n = 0 ∨ n = 1 ∨ n = 2 ∨ n = 3 := by omega
  obtain rfl | rfl | rfl | rfl := this <;> rfl

/-- The quiet code of a string is one of four periods (R110). -/
theorem quietMs_of_code : ∀ q < 4, 25 * 2 ^ q = [25, 50, 100, 200].getD q 0 := by decide

theorem stringSetup_enabled (block : List Byte) (n : Nat) : (stringSetup block n).enabled = true ↔
    (byteAt block 0x13).getLsbD n = true ∧ 1 ≤ (stringSetup block n).ceiling ∧ (stringSetup block n).ceiling ≤ 120 := by
  simp [stringSetup, bitOf_eq_getLsbD]

/-- What the setup copy gives for a string (R110). -/
theorem setupCopy_strings (b : List Byte) {n : Nat} (hn : n < 4) :
    let u := setupCopy b
    (u.string n).ceiling = (byteAt b (0x18 + n)).toNat ∧ (u.string n).dormancy = (byteAt b 0x16).getLsbD n ∧
      (u.string n).quietMs = [25, 50, 100, 200].getD ((byteAt b 0x17).toNat / 4 ^ n % 4) 0 ∧
      ((u.string n).enabled = true ↔
        (byteAt b 0x13).getLsbD n = true ∧ 1 ≤ (u.string n).ceiling ∧ (u.string n).ceiling ≤ 120) := by
  intro u
  rw [setupCopy_string b hn]
  exact ⟨rfl, bitOf_eq_getLsbD _ _, quietMs_of_code _ (Nat.mod_lt _ (by decide)), stringSetup_enabled b n⟩

/-! ### The strings of an ACCEPTED START -/

section Strings

variable {s : State} {u : Setup} {n : Nat} (hn : n < 4) (hs : s.strings.length = 4)
include hn hs

/-- A string of an ACCEPTED START, as no other string's work touches it. -/
theorem State.eachString_startString : ∃ t : State, n < t.strings.length ∧ t.stringAt n = s.stringAt n ∧
    ((s.begun u).eachString (State.startString u)).stringAt n = (State.startString u t n).stringAt n := by
  obtain ⟨t, hat, hcount, heach⟩ := State.eachString_stringAt (fun t m k h => State.startString_stringAt_of_ne u t k h)
    (fun t m => State.startString_count u t m) (s.begun u) hn
  rw [State.begun_strings, hs] at hcount
  exact ⟨t, by omega, hat.trans (State.stringAt_of_strings (s.begun_strings u) n), heach⟩

omit hn in
theorem State.eachString_startString_count : ((s.begun u).eachString (State.startString u)).strings.length = 4 := by
  simp only [State.eachString, List.foldl, State.startString_count, State.begun_strings, hs]

omit hs in
/-- A string that its line leaves as START has made it. -/
theorem State.acceptStart_stringAt_of_rest {y : StringCtl}
    (hy : ((s.begun u).eachString (State.startString u)).stringAt n = y) (hline : y.line = .idle) (hdue : y.due = [])
    (hsweep : y.sweep = none) : (s.acceptStart u).stringAt n = y := by
  have hup := (s.begun u).eachString_broughtUp u hn
  rw [State.acceptStart_eq, State.kick_stringAt_of_rest hn hup (by rw [hy, hline]) (by rw [hy, hdue]) (by rw [hy, hsweep]), hy]

/-- A disabled string is shut down (R76). -/
theorem State.acceptStart_of_disabled (h : (u.string n).enabled = false) :
    (s.acceptStart u).stringAt n = (s.stringAt n).bringUp u n := by
  obtain ⟨t, hlt, hat, heach⟩ := State.eachString_startString hn hs (u := u)
  have hdown := StringCtl.bringUp_of_disabled (x := t.stringAt n) h
  rw [State.startString_stringAt u t n hlt (.inr (by rw [hdown])), hdown] at heach
  rw [State.acceptStart_stringAt_of_rest hn heach rfl rfl rfl, ← hat, hdown]

/-- An enabled string whose feed was off settles (R76). -/
theorem State.acceptStart_of_dark (h : (u.string n).enabled = true) (hinput : (s.stringAt n).feedFaultInput = false)
    (hfeed : (s.stringAt n).feed = false) :
    (s.acceptStart u).stringAt n = ((s.stringAt n).renewed u n).enterSettling .start := by
  obtain ⟨t, hlt, hat, heach⟩ := State.eachString_startString hn hs (u := u)
  rw [← hat] at hinput hfeed ⊢
  rw [State.startString_stringAt u t n hlt (.inl hinput), StringCtl.bringUp_of_dark h hfeed] at heach
  exact State.acceptStart_stringAt_of_rest hn heach rfl rfl rfl

/-- An enabled string whose feed was on surveys, behind the broadcasts on its line and due (R76; log 17). -/
theorem State.acceptStart_of_lit (h : (u.string n).enabled = true) (hinput : (s.stringAt n).feedFaultInput = false)
    (hfeed : (s.stringAt n).feed = true) : ∃ line due,
      (s.acceptStart u).stringAt n =
        { ((s.stringAt n).renewed u n).enterSurvey .start false with line := line, due := due } ∧
      (s.stringAt n).abandoned.Sends ((s.acceptStart u).stringAt n) [.allDark] := by
  obtain ⟨t, hlt, hat, heach⟩ := State.eachString_startString hn hs (u := u)
  rw [← hat] at hinput hfeed ⊢
  rw [State.startString_stringAt u t n hlt (.inl hinput), StringCtl.bringUp_of_lit h hfeed] at heach
  have hcount : n < ((s.begun u).eachString (State.startString u)).strings.length :=
    lt_of_lt_of_eq hn (State.eachString_startString_count hs).symm
  have hdue : (((s.begun u).eachString (State.startString u)).stringAt n).due ≠ [] := by
    rw [heach]
    simp [StringCtl.enterSurvey]
  obtain ⟨line, due, hat', hbusy, hidle⟩ :=
    State.kick_stringAt_of_due hn hcount ((s.begun u).eachString_broughtUp u hn) hdue
  rw [heach] at hat' hbusy hidle
  have hline : (((t.stringAt n).renewed u n).enterSurvey .start false).line = (t.stringAt n).abandoned.line :=
    (t.stringAt n).abandoned_detach
  rw [hline] at hbusy hidle
  rw [State.acceptStart_eq, hat']
  exact ⟨line, due, rfl, hbusy, hidle⟩

/-- An asserted feed fault of an enabled string is taken at once (R76, R91). -/
theorem State.acceptStart_of_fault (h : (u.string n).enabled = true) (hinput : (s.stringAt n).feedFaultInput = true) :
    ∃ ms, (s.acceptStart u).stringAt n = ((s.stringAt n).bringUp u n).trip ms := by
  obtain ⟨t, hlt, hat, heach⟩ := State.eachString_startString hn hs (u := u)
  rw [← hat] at hinput ⊢
  obtain ⟨ms, hms⟩ := State.startString_stringAt_of_fault u t n hlt hinput h
  exact ⟨ms, State.acceptStart_stringAt_of_rest hn (heach.trans hms) rfl rfl rfl⟩

end Strings

/-- Settles O8: the setup copy field by field, and each string by its enable bit, its feed and its feed-fault input. -/
theorem acceptedStartBringsTheStringsUp : Obligations.AcceptedStartBringsTheStringsUp := by
  unfold Obligations.AcceptedStartBringsTheStringsUp
  refine ⟨fun b => ?_, fun s h b hrun hread hh hb hverdict hs => ⟨s.acceptStart (setupCopy b), ?_, fun n hn => ?_⟩⟩
  · exact ⟨rfl, rfl, rfl, rfl, fun hblocks => clampTo_spec hblocks _, bitOf_eq_getLsbD _ _, bitOf_eq_getLsbD _ _,
      clampTo_spec (by decide) _, clampTo_spec (by decide) _, clampTo_spec (by decide) _, clampTo_spec (by decide) _,
      clampTo_spec (by decide) _, clampTo_hundreds _, rfl, fun n hn => setupCopy_strings b hn⟩
  · rw [exec_startReadArrival hrun hread hh hb, State.judgeStart_of_accepted s hverdict]
  · intro u x y
    obtain ⟨hitems, hwalk⟩ := StringCtl.bringUp_items (x := x) (u := u) (n := n)
    cases henabled : (u.string n).enabled with
    | false =>
      have hy : y = x.bringUp u n := State.acceptStart_of_disabled hn hs henabled
      rw [hy]
      refine ⟨hitems, hwalk, fun _ => ?_, fun h => (nomatch h), fun h => (nomatch h)⟩
      rw [StringCtl.bringUp_of_disabled henabled]
      exact ⟨rfl, rfl, rfl, rfl⟩
    | true =>
      cases hinput : x.feedFaultInput with
      | true =>
        obtain ⟨ms, hy⟩ : ∃ ms, y = (x.bringUp u n).trip ms := State.acceptStart_of_fault hn hs henabled hinput
        rw [hy]
        exact ⟨hitems, hwalk, fun h => (nomatch h), fun _ h => (nomatch h), fun _ _ => ⟨rfl, rfl⟩⟩
      | false =>
        cases hfeed : x.feed with
        | false =>
          have hy : y = (x.renewed u n).enterSettling .start := State.acceptStart_of_dark hn hs henabled hinput hfeed
          rw [hy]
          exact ⟨rfl, rfl, fun h => (nomatch h), fun _ _ => ⟨rfl, rfl, rfl, fun _ => ⟨rfl, rfl, rfl, rfl⟩, fun h => (nomatch h)⟩,
            fun _ h => (nomatch h)⟩
        | true =>
          obtain ⟨line, due, hy, hsends⟩ : ∃ line due,
              y = { (x.renewed u n).enterSurvey .start false with line := line, due := due } ∧ x.abandoned.Sends y [.allDark] :=
            State.acceptStart_of_lit hn hs henabled hinput hfeed
          rw [hy] at hsends ⊢
          exact ⟨rfl, rfl, fun h => (nomatch h), fun _ _ => ⟨hfeed, rfl, rfl, fun h => (nomatch h), fun _ => ⟨rfl, rfl, hsends⟩⟩,
            fun _ h => (nomatch h)⟩

end Sys2Proof.Machine
end

section
/-! Proofs of the family of 07 (task intake and qualifiers), first part: what the issue of a poll, a record fetch and the offer of
the head do to the intake, said once for each; the checks on a PICK (O31), and QUALIFIER (O32). -/

namespace Sys2Proof.Machine

/-! ### The issue of a poll -/

/-- The end of a poll interval clears the flag, and writes the part line where the flag was set (R134). -/
theorem State.endInterval_eq (s : State) :
    s.endInterval = { s with iu := { s.iu with consumed := false }, out := s.endInterval.out } := by
  unfold State.endInterval State.partLine State.linkWrite
  split
  · split <;> rfl
  · next h =>
    have hflag : s.iu.consumed = false := by simpa using h
    rw [← hflag]

/-- The issue of a poll touches the intake and what goes out alone (R121, R134). -/
theorem State.issuePoll_eq (s : State) :
    s.issuePoll = { s with iu := { s.iu with poll := .underWay 0 0, consumed := false }, out := s.issuePoll.out } := by
  have hread : (s.setIu { s.iu with poll := .underWay 0 0 }).linkRead 0 64 =
      { s with iu := { s.iu with poll := .underWay 0 0 }
               out := ((s.setIu { s.iu with poll := .underWay 0 0 }).linkRead 0 64).out } := by
    unfold State.linkRead
    split <;> rfl
  rw [State.issuePoll, State.endInterval_eq, hread]

section IssuePoll

variable (s : State)

@[simp] theorem State.issuePoll_iu : s.issuePoll.iu = { s.iu with poll := .underWay 0 0, consumed := false } := by
  rw [State.issuePoll_eq]

@[simp] theorem State.issuePoll_lrc : s.issuePoll.lrc = s.lrc := by rw [State.issuePoll_eq]
@[simp] theorem State.issuePoll_ac : s.issuePoll.ac = s.ac := by rw [State.issuePoll_eq]
@[simp] theorem State.issuePoll_pm : s.issuePoll.pm = s.pm := by rw [State.issuePoll_eq]
@[simp] theorem State.issuePoll_contexts : s.issuePoll.contexts = s.contexts := by rw [State.issuePoll_eq]
@[simp] theorem State.issuePoll_strings : s.issuePoll.strings = s.strings := by rw [State.issuePoll_eq]
@[simp] theorem State.issuePoll_jw : s.issuePoll.jw = s.jw := by rw [State.issuePoll_eq]

/-- The read of the host line goes out ahead of the part line of the interval that it ends (log 26). -/
theorem State.issuePoll_out {b : Addr} (h : s.lrc.base = some b) : s.issuePoll.out = s.out ++ .linkRead b 64 ::
    (if s.iu.consumed then [.linkWrite (b + 0x40#64) s.partLineBytes] else []) := by
  have hread (t : State) (ht : t.lrc.base = some b) : (t.linkRead 0 64).endInterval.out = t.out ++ .linkRead b 64 ::
      (if t.iu.consumed then [.linkWrite (b + 0x40#64) t.partLineBytes] else []) := by
    rw [t.linkRead_of_base b ht, Addr.plus, BitVec.add_zero]
    cases hc : t.iu.consumed
    · simp [State.endInterval, hc]
    · simp [State.endInterval, hc, State.partLine, State.linkWrite, ht, State.partLineBytes, State.now, Addr.plus]
  exact hread (s.setIu { s.iu with poll := .underWay 0 0 }) h

end IssuePoll

/-! ### The start of a record fetch -/

/-- When a record fetch starts (R126). -/
def State.fetchStarts (s : State) : Prop :=
  s.lrc.run = .running ∧ s.iu.fetch = .idle ∧ s.iu.queue.length < 8 ∧ s.iu.posted ≠ s.iu.fetched

theorem State.startRecordFetch_of_starts {s : State} {u : Setup} (hu : s.lrc.setup = some u) (h : s.fetchStarts) :
    s.startRecordFetch = (s.linkRead (u.recordOffset s.iu.fetched) (32 * s.fetchCount u)).setIu { s.iu with
      fetch := .underWay (s.fetchCount u) 0, fetched := s.iu.fetched + BitVec.ofNat 32 (s.fetchCount u) } := by
  obtain ⟨hrun, hidle, hroom, hposted⟩ := h
  simp [State.startRecordFetch, hu, hrun, hidle, hroom, hposted]

theorem State.startRecordFetch_of_not {s : State} (h : ¬s.fetchStarts) : s.startRecordFetch = s := by
  unfold State.startRecordFetch
  split
  · rfl
  · exact if_neg (by simpa [State.fetchStarts, and_assoc] using h)

/-- A record fetch reads and writes the intake's fetch and fetched count alone (R126). -/
theorem State.startRecordFetch_eq (s : State) : s.startRecordFetch = { s with
    iu := { s.iu with fetch := s.startRecordFetch.iu.fetch, fetched := s.startRecordFetch.iu.fetched }
    out := s.startRecordFetch.out } := by
  obtain heq | ⟨o, n, heq⟩ := s.startRecordFetch_cases
  · rw [heq]
  · rw [heq]
    unfold State.linkRead
    split <;> rfl

@[simp] theorem State.startRecordFetch_lrc (s : State) : s.startRecordFetch.lrc = s.lrc := by rw [State.startRecordFetch_eq]

/-! ### The offer of the head and the candidate search -/

@[simp] theorem State.candidateSearch_iu (s : State) : s.candidateSearch.iu = s.iu := by
  have hseek (l : List TaskRecord) (t : State) : (t.seekCandidate l).iu = t.iu := by
    induction l generalizing t with
    | nil => rfl
    | cons r rs ih =>
      unfold State.seekCandidate
      dsimp only
      split
      · split
        · rw [ih, State.checkSet_iu]
        · rw [State.startAhead_iu, State.checkSet_iu]
      · exact ih t
  unfold State.candidateSearch
  split
  · exact hseek _ s
  · rfl

/-- The question put to the Atlas Cache marks the intake at most (R100). -/
theorem State.sameIntake_askAtlas (s : State) (slot : Nat) : s.SameIntake (s.askAtlas slot).1 := by
  have hlookup := s.lookup_iu slot
  unfold State.askAtlas
  split
  · next heq => exact State.sameIntake_of_iu (by simpa [heq] using hlookup)
  · next t heq =>
    obtain rfl : (s.lookup slot).1 = t := by rw [heq]
    have hdemand := State.sameIntake_demand (s.lookup slot).1 slot
    rwa [State.SameIntake, hlookup] at hdemand

/-! ### The checks on a PICK -/

theorem laneInRange_iff (l : Nat) : laneInRange l = true ↔ 1 ≤ l ∧ l ≤ 6 := by simp [laneInRange]

section Qualifiers

variable {q : QualifierSet}

theorem QualifierSet.fault_of_overrun (h : q.count = 5) : q.fault = some .qualifierOverrun := by simp [QualifierSet.fault, h]

/-- Whether the bad-qualifier check fails: a bad code, or an override outside 1..6 (R130). -/
def QualifierSet.Bad (q : QualifierSet) : Prop := q.badCode = true ∨ ∃ l, q.lane = some l ∧ (l = 0 ∨ 6 < l)

theorem QualifierSet.bad_iff :
    q.Bad ↔ (q.badCode || (q.lane.map fun l => !laneInRange l).getD false) = true := by
  have hout (l : Nat) : laneInRange l = false ↔ l = 0 ∨ 6 < l := by
    rw [← Bool.not_eq_true, laneInRange_iff]
    omega
  unfold QualifierSet.Bad
  cases q.lane <;> simp [hout]

theorem QualifierSet.fault_of_bad (h : q.count ≠ 5) (hb : q.Bad) : q.fault = some .badQualifier := by
  simp [QualifierSet.fault, h, QualifierSet.bad_iff.1 hb]

theorem QualifierSet.fault_of_good (h : q.count ≠ 5) (hb : ¬q.Bad) : q.fault = none := by
  simp only [QualifierSet.fault, beq_iff_eq, h, if_false, if_neg (mt QualifierSet.bad_iff.2 hb)]

end Qualifiers

section Acceptance

variable {s : State} {r : TaskRecord} {lane : Nat}

theorem State.tagHeld_iff {tag : Word} : s.tagHeld tag = true ↔ ∃ e ∈ s.pm.entries, ∃ p, e.pick = some p ∧ p.tag = tag := by
  simp only [State.tagHeld, List.any_eq_true]
  refine exists_congr fun e => and_congr_right fun _ => ?_
  cases e.pick <;> simp

theorem State.atlasSize_of_setup {u : Setup} (hu : s.lrc.setup = some u) : s.atlasSize = u.atlasSize := by
  simp [State.atlasSize, hu]

/-- The acceptance checks in their order, each as the bound or the search that it is (R131). -/
theorem State.acceptance_eq {u : Setup} (hu : s.lrc.setup = some u) (x : Option AtlasFields) : s.acceptance r lane x =
    if ¬(1 ≤ r.quantity.toNat ∧ r.quantity.toNat ≤ 999) then some .badQty
    else if ¬(1 ≤ lane ∧ lane ≤ 6 ∧ (s.lane lane).colour ≠ none) then some .laneOff
    else if ¬r.slot.toNat < u.atlasSize then some .badSlot
    else if s.tagHeld r.tag = true then some .duplicateTag
    else if (s.contextOfSlot r.slot.toNat).isSome = true then none else s.judgeFields x := by
  unfold State.acceptance
  rw [State.atlasSize_of_setup hu]
  refine if_congr ?_ rfl (if_congr ?_ rfl (if_congr ?_ rfl rfl))
  · simp only [Bool.or_eq_true, beq_iff_eq, decide_eq_true_eq]
    omega
  · simp only [Bool.or_eq_true, Bool.not_eq_true', ← Bool.not_eq_true, laneInRange_iff, Option.isNone_iff_eq_none]
    tauto
  · exact Nat.not_lt.symm

/-- Checks 5 and 6 on the fields that the Atlas Cache handed over (R131). -/
theorem State.judgeFields_eq {u : Setup} (hu : s.lrc.setup = some u) (f : AtlasFields) : s.judgeFields (some f) =
    if f.resolves u = false then some .slotUnusable
    else if (s.contextOfModule f.string f.address).isSome = true then some .moduleShared else none := by
  simp only [State.judgeFields, hu]
  exact if_congr (by simp) rfl rfl

end Acceptance

/-- Settles O31: the checks are the cases of QualifierSet.fault and, under a setup copy, those of State.acceptance. -/
theorem pickChecksDecideInOrder : Obligations.PickChecksDecideInOrder := by
  unfold Obligations.PickChecksDecideInOrder
  intro s r lane f u q hu
  refine ⟨QualifierSet.fault_of_overrun, QualifierSet.fault_of_bad, fun h hcode hlane => QualifierSet.fault_of_good h ?_, ?_⟩
  · rintro (hb | ⟨l, hl, hout⟩)
    · simp [hcode] at hb
    · have := hlane l hl
      omega
  · intro qty laneOpen slotBelow tagFree held module
    have htag : s.tagHeld r.tag = true ↔ ¬tagFree := by
      rw [State.tagHeld_iff]
      simp [tagFree]
    simp only [State.acceptance_eq hu, State.judgeFields_eq hu, htag]
    refine ⟨fun x => ⟨fun h1 => if_pos h1, fun h1 h2 => ?_, fun h1 h2 h3 => ?_, fun h1 h2 h3 h4 => ?_, fun h1 h2 h3 h4 h5 => ?_⟩,
      fun h1 h2 h3 h4 h5 h6 => ?_, fun h1 h2 h3 h4 h5 h6 h7 => ?_, fun h1 h2 h3 h4 h5 h6 h7 => ?_⟩
    all_goals simp_all [qty, laneOpen, slotBelow, held, module]

/-! ### QUALIFIER -/

section Gather

variable (q : QualifierSet) {r : TaskRecord}

theorem QualifierSet.gather_of_urgent (h : r.qualifier = 1) :
    q.gather r = { q with count := min 5 (q.count + 1), urgent := true } := by
  simp [QualifierSet.gather, h]

theorem QualifierSet.gather_of_quiet (h : r.qualifier = 2) :
    q.gather r = { q with count := min 5 (q.count + 1), quiet := true } := by
  simp [QualifierSet.gather, h]

theorem QualifierSet.gather_of_lane (h : r.qualifier = 3) :
    q.gather r = { q with count := min 5 (q.count + 1), lane := some r.lane.toNat } := by
  simp [QualifierSet.gather, h]

theorem QualifierSet.gather_of_other (h1 : r.qualifier ≠ 1) (h2 : r.qualifier ≠ 2) (h3 : r.qualifier ≠ 3) :
    q.gather r = { q with count := min 5 (q.count + 1), badCode := true } := by
  have hcode (n : BitVec 8) (h : r.qualifier ≠ n) : r.qualifier.toNat ≠ n.toNat := mt BitVec.eq_of_toNat_eq h
  unfold QualifierSet.gather
  split
  · next h => exact absurd h (hcode 1 h1)
  · next h => exact absurd h (hcode 2 h2)
  · next h => exact absurd h (hcode 3 h3)
  · rfl

end Gather

section HeadQualifier

variable {s : State} {r : TaskRecord}

/-- A record behind the QUALIFIER at the head: it is gathered and consumed (R129). -/
theorem State.headQualifier_of_follower (hi : s.Intact) (hh : s.HeadIs r .qualifier) (h : 2 ≤ s.iu.queue.length) :
    s.headQualifier = (s.setIu { s.iu with qualifiers := s.iu.qualifiers.gather r }).consumed := by
  have hk := State.headIs_of_HeadIs hh
  obtain ⟨-, hcontexts, -⟩ := hi
  obtain ⟨-, hhead, -⟩ := hh
  unfold State.headQualifier
  split
  · next q x rest hq =>
    obtain rfl : q = r := by simpa [State.head, hq] using hhead
    rw [if_pos hk, s.checkContexts_of_intact hcontexts]
  · next hq =>
    match hqueue : s.iu.queue, h with
    | q :: x :: rest, _ => exact absurd hqueue (hq q x rest)

/-- With nothing behind it the QUALIFIER waits (R129). -/
theorem State.headQualifier_of_alone (h : s.iu.queue.length < 2) : s.headQualifier = s := by
  unfold State.headQualifier
  split
  · next hq =>
    rw [hq] at h
    exact absurd h (by simp)
  · rfl

end HeadQualifier

/-- Settles O32: the consumption of a QUALIFIER is that of a head whose qualifiers have been gathered. -/
theorem qualifierIsGathered : Obligations.QualifierIsGathered := by
  unfold Obligations.QualifierIsGathered
  intro s r hi hh q n
  refine ⟨fun h => ⟨_, congrArg Host.Outcome.next (State.headQualifier_of_follower hi hh h), State.took_consumed rfl rfl,
    State.consumed_pm _, ?_⟩, fun h => congrArg Host.Outcome.next (State.headQualifier_of_alone h)⟩
  rw [State.consumed_qualifiers]
  exact ⟨q.gather_of_urgent, q.gather_of_quiet, q.gather_of_lane, q.gather_of_other⟩

end Sys2Proof.Machine
end

section
/-! Proofs of the family of 07 (task intake and qualifiers), second part: what the consumption commands can do, said once for each
(a directive, the PICK and the QUALIFIER at the head), and what they leave of run control and the journal's counts (O40). -/

namespace Sys2Proof.Machine

/-! ### The acts of the directives -/

@[simp] theorem State.checkTables_frame (s : State) : s.checkTables.frame = s.frame := by simp [State.checkTables]

@[simp] theorem State.refuse_frame (s : State) (r : TaskRecord) (c : Cause) : (s.refuse r c).frame = s.frame :=
  s.offerAssured_frame _

@[simp] theorem State.cancel_frame (s : State) (r : TaskRecord) : (s.cancel r).frame = s.frame := by
  unfold State.cancel
  split
  · simp
  · simp
  · split <;> simp

@[simp] theorem State.amendPlaced_frame (s : State) (i : Nat) (p : Pick) (ci : Nat) (k : Claim) (q : Nat) :
    (s.amendPlaced i p ci k q).frame = s.frame := by
  unfold State.amendPlaced
  dsimp only
  repeat' split
  all_goals simp

@[simp] theorem State.amend_frame (s : State) (r : TaskRecord) : (s.amend r).frame = s.frame := by
  unfold State.amend
  dsimp only
  repeat' split
  all_goals simp

@[simp] theorem State.addFence_frame (s : State) (r : TaskRecord) : (s.addFence r).frame = s.frame := by
  rw [State.addFence, State.judgeFences_frame]
  exact (State.setPm_frame s.reserve _ rfl rfl).trans s.reserve_frame

theorem State.reserve_setString_frame (s : State) (n : Nat) (x : StringCtl)
    (h : x.modules.length = (s.stringAt n).modules.length) : (s.reserve.setString n x).frame = s.frame :=
  (s.reserve.setString_frame n x h).trans s.reserve_frame

@[simp] theorem State.lightTest_frame (s : State) (r : TaskRecord) : (s.lightTest r).frame = s.frame := by
  unfold State.lightTest
  dsimp only
  repeat' split
  case isFalse.isFalse.isFalse => exact s.reserve_setString_frame _ (StringCtl.enterTest _ _) rfl
  all_goals simp

@[simp] theorem State.census_frame (s : State) (r : TaskRecord) : (s.census r).frame = s.frame := by
  unfold State.census
  dsimp only
  split
  · simp
  split
  · simp
  split
  · rw [State.judgeFeed_frame]
    exact s.reserve_setString_frame _ (StringCtl.enterSettling _ _) rfl
  split
  · simp
  · exact s.reserve_setString_frame _ (StringCtl.enterSurvey _ _ _) rfl

/-- LANE-SETUP writes the lanes or refuses (R143). -/
theorem State.setupLane_cases (s : State) (r : TaskRecord) :
    (∃ c, s.setupLane r = s.refuse r c) ∨ ∃ x, s.setupLane r = s.setPm x := by
  unfold State.setupLane
  split
  · exact .inl ⟨_, rfl⟩
  · exact .inr ⟨_, rfl⟩

/-- ATLAS-DROP drops its range or refuses (R144). -/
theorem State.atlasDrop_cases (s : State) (r : TaskRecord) :
    (∃ c, s.atlasDrop r = s.refuse r c) ∨ ∃ first count, s.atlasDrop r = s.dropAtlas first count := by
  unfold State.atlasDrop
  split
  · exact .inl ⟨_, rfl⟩
  · exact .inr ⟨_, _, rfl⟩

/-! ### What stands through a consumption -/

/-- What every consumption leaves: run control but for NOTICE and the voided reads, the journal's counts and its open block, and
POSTED. -/
structure State.LeavesCounts (s t : State) : Prop where
  lrc : t.lrc = { s.lrc with notice := t.lrc.notice, voided := t.lrc.voided }
  sealed : t.jw.sealed = s.jw.sealed
  released : t.jw.released = s.jw.released
  written : t.jw.written = s.jw.written
  sealTimer : t.jw.sealTimer = s.jw.sealTimer
  posted : t.iu.posted = s.iu.posted

theorem State.LeavesCounts.trans {s t u : State} (h : s.LeavesCounts t) (k : t.LeavesCounts u) : s.LeavesCounts u where
  lrc := by rw [k.lrc, h.lrc]
  sealed := k.sealed.trans h.sealed
  released := k.released.trans h.released
  written := k.written.trans h.written
  sealTimer := k.sealTimer.trans h.sealTimer
  posted := k.posted.trans h.posted

theorem State.LeavesRun.leavesCounts {s t : State} (h : s.LeavesRun t) (hp : t.iu.posted = s.iu.posted) : s.LeavesCounts t where
  lrc := by rw [h.lrc]
  sealed := h.sealed
  released := h.released
  written := h.written
  sealTimer := h.sealTimer
  posted := hp

theorem State.leavesCounts_of_frame {s t : State} (h : t.frame = s.frame) : s.LeavesCounts t :=
  (State.leavesRun_of_frame h).leavesCounts (by rw [State.iu_of_frame h])

theorem State.leavesCounts_of_outside {s t : State} (h : t.outside = s.outside) : s.LeavesCounts t :=
  (State.leavesRun_of_outside h).leavesCounts (State.posted_of_outside h)

theorem State.consumed_leavesCounts (s : State) : s.LeavesCounts s.consumed := by
  have hhead : s.LeavesCounts s.consumeHead :=
    ⟨by rw [State.consumeHead_lrc], by simp, by simp, by simp, by simp, by rw [State.consumeHead_iu]⟩
  exact (hhead.trans (State.leavesCounts_of_outside (State.afterHead_outside _))).trans
    (State.leavesCounts_of_frame (State.kick_frame _))

theorem State.voided_of_frame {s t : State} (h : t.frame = s.frame) : t.lrc.voided = s.lrc.voided :=
  congrArg (fun f : Frame => f.control.voided) h

theorem State.voided_of_outside {s t : State} (h : t.outside = s.outside) : t.lrc.voided = s.lrc.voided :=
  congrArg (fun o : Outside => o.control.voided) h

/-! ### What a consumption command can do -/

/-- A directive stands, lets a record fetch start, or acts and is consumed (R136; log 47). -/
theorem State.directive_cases (s : State) (k : TaskKind) (room : Bool) (act : State → TaskRecord → State) :
    s.directive k room act = s ∨ s.directive k room act = s.startRecordFetch ∨
      ∃ r, s.head = some r ∧ s.directive k room act = (act s r).consumed := by
  unfold State.directive
  split
  · next r hhead =>
    split
    · split
      · exact .inr (.inr ⟨r, hhead, rfl⟩)
      · exact .inr (.inl rfl)
    · exact .inl rfl
  · exact .inl rfl

/-- The QUALIFIER at the head stands, or changes the pending set and is consumed (R129). -/
theorem State.headQualifier_cases (s : State) : s.headQualifier = s ∨ ∃ r q, s.head = some r ∧
    s.headQualifier = (s.checkContexts.setIu { s.checkContexts.iu with qualifiers := q }).consumed := by
  unfold State.headQualifier
  split
  · next r x rest hq =>
    split
    · exact .inr ⟨r, _, by simp [State.head, hq], rfl⟩
    · exact .inl rfl
  · exact .inl rfl

/-- The PICK at the head, as the Atlas Cache leaves it: it waits, with the record fetch that an arrival has left to it or without,
or it is taken into an entry and consumed (R1, R96; log 47). -/
theorem State.takeHeadPick_cases (s : State) (r : TaskRecord) : ∃ t, (t = s ∨ t = (s.askAtlas r.slot.toNat).1) ∧
    (s.takeHeadPick r = t ∨ s.takeHeadPick r = t.startRecordFetch ∨
      ∃ i f, s.takeHeadPick r = (t.takePick i r f).consumed) := by
  have hoffer (t : State) (f : Option AtlasFields) : t.offerPick r f = t ∨ ∃ i, t.offerPick r f = (t.takePick i r f).consumed := by
    unfold State.offerPick
    split
    · exact .inr ⟨_, rfl⟩
    · exact .inl rfl
  unfold State.takeHeadPick
  split
  · split
    · next t f hask =>
      refine ⟨t, .inr (by rw [hask]), ?_⟩
      obtain heq | ⟨i, heq⟩ := hoffer t (some f)
      · exact .inl heq
      · exact .inr (.inr ⟨i, _, heq⟩)
    · next t hask => exact ⟨t, .inr (by rw [hask]), .inr (.inl rfl)⟩
  · refine ⟨s, .inl rfl, ?_⟩
    obtain heq | ⟨i, heq⟩ := hoffer s none
    · exact .inl heq
    · exact .inr (.inr ⟨i, _, heq⟩)

theorem State.headPick_cases (s : State) :
    s.headPick = s ∨ ∃ r, s.head = some r ∧ s.headPick = (s.checkTables.takeHeadPick r).kick := by
  unfold State.headPick
  split
  · next r hhead =>
    split
    · exact .inr ⟨r, hhead, rfl⟩
    · exact .inl rfl
  · exact .inl rfl

/-- A PICK taken into an entry empties the pending set, and keeps the frame but for that (R130). -/
theorem State.takePick_frame (s : State) (i : Nat) (r : TaskRecord) (f : Option AtlasFields) :
    (s.takePick i r f).frame = { s.frame with iu := { s.iu with qualifiers := QualifierSet.empty } } := by
  have hfill (p : Pick) : (s.fill i p).frame = { s.frame with iu := { s.iu with qualifiers := QualifierSet.empty } } := by
    simp [State.frame, State.fill, State.setPick]
  cases hc : s.iu.qualifiers.fault.or (s.acceptance r (s.iu.qualifiers.laneOf r) f) with
  | some cause => rw [State.takePick_of_refused hc, State.close_frame, hfill]
  | none => rw [State.takePick_of_accepted hc, State.place_frame, hfill]

/-! ### What the consumption commands leave -/

/-- The head of the queue was consumed, or the queue stands (R134). -/
def State.TookOrStands (s t : State) : Prop := s.Took t ∨ t.iu.queue = s.iu.queue ∧ t.iu.taken = s.iu.taken

/-- What a consumption command leaves, but for the exceptions that the frame of the consumptions names. -/
structure State.Consumes (s t : State) : Prop where
  counts : s.LeavesCounts t
  lanes : t.pm.lanes = s.pm.lanes
  voided : t.lrc.voided = s.lrc.voided
  took : s.TookOrStands t

theorem State.consumes_refl (s : State) : s.Consumes s := ⟨State.leavesCounts_of_frame rfl, rfl, rfl, .inr ⟨rfl, rfl⟩⟩

theorem State.consumes_startRecordFetch (s : State) : s.Consumes s.startRecordFetch :=
  have h := s.startRecordFetch_outside
  ⟨State.leavesCounts_of_outside h, by rw [State.pm_of_outside h], State.voided_of_outside h,
    .inr ⟨State.queue_of_outside h, State.taken_of_outside h⟩⟩

/-- A consumption behind work that leaves the intake's queue and TAKEN. -/
theorem State.consumes_consumed {s t : State} (h : s.LeavesCounts t) (hl : t.pm.lanes = s.pm.lanes)
    (hv : t.lrc.voided = s.lrc.voided) (hq : t.iu.queue = s.iu.queue) (ht : t.iu.taken = s.iu.taken) : s.Consumes t.consumed where
  counts := h.trans t.consumed_leavesCounts
  lanes := by rw [State.consumed_pm, hl]
  voided := by rw [State.consumed_voided, hv]
  took := .inl (State.took_consumed hq ht)

/-- Work that leaves the counts, the lanes, the voided reads and the queue may go ahead of a consumption command. -/
theorem State.Consumes.behind {s t u : State} (k : t.Consumes u) (h : s.LeavesCounts t) (hl : t.pm.lanes = s.pm.lanes)
    (hv : t.lrc.voided = s.lrc.voided) (hq : t.iu.queue = s.iu.queue) (ht : t.iu.taken = s.iu.taken) : s.Consumes u where
  counts := h.trans k.counts
  lanes := k.lanes.trans hl
  voided := k.voided.trans hv
  took := k.took.imp (fun ⟨hqueue, htaken, hflag⟩ => ⟨by rw [hqueue, hq], by rw [htaken, ht], hflag⟩)
    fun ⟨hqueue, htaken⟩ => ⟨hqueue.trans hq, htaken.trans ht⟩

theorem State.Consumes.behind_frame {s t u : State} (k : t.Consumes u) (h : t.frame = s.frame) : s.Consumes u :=
  have hiu := State.iu_of_frame h
  k.behind (State.leavesCounts_of_frame h) (State.lanes_of_frame h) (State.voided_of_frame h) (by rw [hiu]) (by rw [hiu])

theorem State.Consumes.behind_outside {s t u : State} (k : t.Consumes u) (h : t.outside = s.outside) : s.Consumes u :=
  k.behind (State.leavesCounts_of_outside h) (by rw [State.pm_of_outside h]) (State.voided_of_outside h)
    (State.queue_of_outside h) (State.taken_of_outside h)

theorem State.Consumes.kick {s t : State} (h : s.Consumes t) : s.Consumes t.kick where
  counts := h.counts.trans (State.leavesCounts_of_frame t.kick_frame)
  lanes := by rw [State.kick_pm, h.lanes]
  voided := by rw [State.kick_lrc, h.voided]
  took := by simpa [State.TookOrStands, State.Took] using h.took

/-! ### The directives -/

section Directive

variable {s : State} {k : TaskKind} {room : Bool} {act : State → TaskRecord → State}

theorem State.directive_qualifiers (h : ∀ r, (act s r).iu = s.iu) :
    (s.directive k room act).iu.qualifiers = s.iu.qualifiers := by
  obtain heq | heq | ⟨r, -, heq⟩ := s.directive_cases k room act <;> rw [heq]
  · exact State.qualifiers_of_outside s.startRecordFetch_outside
  · rw [State.consumed_qualifiers, h]

/-- A directive whose act keeps the frame. -/
theorem State.consumes_directive (h : ∀ r, (act s r).frame = s.frame) : s.Consumes (s.directive k room act) := by
  obtain heq | heq | ⟨r, -, heq⟩ := s.directive_cases k room act <;> rw [heq]
  · exact s.consumes_refl
  · exact s.consumes_startRecordFetch
  · have hiu := State.iu_of_frame (h r)
    exact State.consumes_consumed (State.leavesCounts_of_frame (h r)) (State.lanes_of_frame (h r)) (State.voided_of_frame (h r))
      (by rw [hiu]) (by rw [hiu])

/-- A directive whose act leaves the counts and the intake: what stands but for the lanes and the voided reads. -/
theorem State.leaves_directive (h : ∀ r, s.LeavesCounts (act s r)) (hiu : ∀ r, (act s r).iu = s.iu) :
    s.LeavesCounts (s.directive k room act) ∧ s.TookOrStands (s.directive k room act) := by
  obtain heq | heq | ⟨r, -, heq⟩ := s.directive_cases k room act <;> rw [heq]
  · exact ⟨s.consumes_refl.counts, s.consumes_refl.took⟩
  · exact ⟨s.consumes_startRecordFetch.counts, s.consumes_startRecordFetch.took⟩
  · exact ⟨(h r).trans (State.consumed_leavesCounts _), .inl (State.took_consumed (by rw [hiu]) (by rw [hiu]))⟩

theorem State.directive_lanes (h : ∀ r, (act s r).pm.lanes = s.pm.lanes) : (s.directive k room act).pm.lanes = s.pm.lanes := by
  obtain heq | heq | ⟨r, -, heq⟩ := s.directive_cases k room act <;> rw [heq]
  · exact s.consumes_startRecordFetch.lanes
  · rw [State.consumed_pm, h]

theorem State.directive_voided (h : ∀ r, (act s r).lrc.voided = s.lrc.voided) :
    (s.directive k room act).lrc.voided = s.lrc.voided := by
  obtain heq | heq | ⟨r, -, heq⟩ := s.directive_cases k room act <;> rw [heq]
  · exact s.consumes_startRecordFetch.voided
  · rw [State.consumed_voided, h]

end Directive

/-- LANE-SETUP leaves all but the lanes (R143). -/
theorem State.setupLane_leaves (s : State) (r : TaskRecord) :
    s.LeavesCounts (s.setupLane r) ∧ (s.setupLane r).iu = s.iu ∧ (s.setupLane r).lrc.voided = s.lrc.voided := by
  obtain ⟨c, heq⟩ | ⟨x, heq⟩ := s.setupLane_cases r <;> rw [heq]
  · have hframe := s.refuse_frame r c
    exact ⟨State.leavesCounts_of_frame hframe, State.iu_of_frame hframe, State.voided_of_frame hframe⟩
  · exact ⟨⟨rfl, rfl, rfl, rfl, rfl, rfl⟩, rfl, rfl⟩

theorem State.emptyRange_outside (s : State) (first count : Nat) : (s.emptyRange first count).outside = s.outside :=
  (State.setAc_outside _ _ rfl rfl).trans (foldl_outside _ (State.dropWay_outside first count) _ s)

theorem State.emptyRange_iu (s : State) (first count : Nat) : (s.emptyRange first count).iu = s.iu := by
  have hway (t : State) (i : Nat) : (t.dropWay first count i).iu = t.iu := by
    have hcheck : (t.checkWay i).iu = t.iu := by
      unfold State.checkWay
      split <;> simp [State.invalidateWay]
    unfold State.dropWay
    dsimp only
    split <;> exact hcheck
  have hwalk (l : List Nat) (t : State) : (l.foldl (State.dropWay first count) t).iu = t.iu := by
    induction l generalizing t with
    | nil => rfl
    | cons i l ih => rw [List.foldl_cons, ih, hway]
  exact hwalk _ s

theorem State.voidAhead_leavesCounts (s : State) : s.LeavesCounts s.voidAhead := by
  unfold State.voidAhead
  split <;> exact ⟨rfl, rfl, rfl, rfl, rfl, rfl⟩

/-- ATLAS-DROP leaves all but the cache and the voided reads (R104). -/
theorem State.atlasDrop_leaves (s : State) (r : TaskRecord) :
    s.LeavesCounts (s.atlasDrop r) ∧ (s.atlasDrop r).iu = s.iu ∧ (s.atlasDrop r).pm.lanes = s.pm.lanes := by
  obtain ⟨c, heq⟩ | ⟨first, count, heq⟩ := s.atlasDrop_cases r <;> rw [heq]
  · have hframe := s.refuse_frame r c
    exact ⟨State.leavesCounts_of_frame hframe, State.iu_of_frame hframe, State.lanes_of_frame hframe⟩
  · have hout := s.emptyRange_outside first count
    rw [State.dropAtlas_eq]
    exact ⟨(State.leavesCounts_of_outside hout).trans (State.voidAhead_leavesCounts _),
      State.voidAhead_iu.trans (s.emptyRange_iu first count), by rw [State.voidAhead_pm, State.pm_of_outside hout]⟩

/-! ### The PICK and the QUALIFIER at the head -/

theorem State.consumes_takePick (s : State) (i : Nat) (r : TaskRecord) (f : Option AtlasFields) :
    s.Consumes (s.takePick i r f).consumed := by
  have hframe : (s.takePick i r f).frame = (s.setIu { s.iu with qualifiers := QualifierSet.empty }).frame :=
    s.takePick_frame i r f
  have hempty : s.LeavesCounts (s.setIu { s.iu with qualifiers := QualifierSet.empty }) := ⟨rfl, rfl, rfl, rfl, rfl, rfl⟩
  have hiu := State.iu_of_frame hframe
  exact State.consumes_consumed (hempty.trans (State.leavesCounts_of_frame hframe))
    ((State.lanes_of_frame hframe).trans rfl) ((State.voided_of_frame hframe).trans rfl) (by rw [hiu]; rfl) (by rw [hiu]; rfl)

theorem State.consumes_headPick (s : State) : s.Consumes s.headPick := by
  obtain heq | ⟨r, -, heq⟩ := s.headPick_cases <;> rw [heq]
  · exact s.consumes_refl
  · refine State.Consumes.kick (State.Consumes.behind_frame ?_ s.checkTables_frame)
    obtain ⟨t, ht, hcases⟩ := s.checkTables.takeHeadPick_cases r
    have hout : t.outside = s.checkTables.outside := by
      obtain rfl | rfl := ht
      · rfl
      · exact State.askAtlas_outside _ _
    refine State.Consumes.behind_outside ?_ hout
    obtain heq | heq | ⟨i, f, heq⟩ := hcases <;> rw [heq]
    · exact t.consumes_refl
    · exact t.consumes_startRecordFetch
    · exact t.consumes_takePick i r f

theorem State.consumes_headQualifier (s : State) : s.Consumes s.headQualifier := by
  obtain heq | ⟨r, q, -, heq⟩ := s.headQualifier_cases <;> rw [heq]
  · exact s.consumes_refl
  · exact State.Consumes.behind_frame (State.consumes_consumed ⟨rfl, rfl, rfl, rfl, rfl, rfl⟩ rfl rfl rfl rfl)
      s.checkContexts_frame

/-! ### The frame of the consumptions -/

/-- What a consumption command leaves: LANE-SETUP may write the lanes, ATLAS-DROP may void a read, PICK and QUALIFIER change the
pending set. -/
structure State.LeftBy (c : Instr) (s t : State) : Prop where
  counts : s.LeavesCounts t
  took : s.TookOrStands t
  lanes : c ≠ .laneSetup → t.pm.lanes = s.pm.lanes
  voided : c ≠ .atlasDrop → t.lrc.voided = s.lrc.voided
  qualifiers : c ≠ .pick → c ≠ .qualifier → t.iu.qualifiers = s.iu.qualifiers

theorem State.Consumes.leftBy {c : Instr} {s t : State} (h : s.Consumes t)
    (hq : c ≠ .pick → c ≠ .qualifier → t.iu.qualifiers = s.iu.qualifiers) : State.LeftBy c s t :=
  ⟨h.counts, h.took, fun _ => h.lanes, fun _ => h.voided, hq⟩

theorem State.leftBy_directive (c : Instr) {s : State} {k : TaskKind} {room : Bool} {act : State → TaskRecord → State}
    (h : ∀ r, (act s r).frame = s.frame) : State.LeftBy c s (s.directive k room act) :=
  (State.consumes_directive h).leftBy fun _ _ => State.directive_qualifiers fun r => State.iu_of_frame (h r)

theorem State.leftBy_laneSetup (s : State) :
    State.LeftBy .laneSetup s (s.directive .laneSetup true fun s r => s.checkTables.setupLane r) := by
  have hframe := s.checkTables_frame
  obtain ⟨hact, hrest⟩ := forall_and.1 s.checkTables.setupLane_leaves
  obtain ⟨hsame, hvoided⟩ := forall_and.1 hrest
  have hiu (r : TaskRecord) : (s.checkTables.setupLane r).iu = s.iu := (hsame r).trans (State.iu_of_frame hframe)
  obtain ⟨hcounts, htook⟩ := State.leaves_directive (k := .laneSetup) (room := true)
    (act := fun s r => s.checkTables.setupLane r) (fun r => (State.leavesCounts_of_frame hframe).trans (hact r)) hiu
  exact ⟨hcounts, htook, fun hne => absurd rfl hne,
    fun _ => State.directive_voided fun r => (hvoided r).trans (State.voided_of_frame hframe),
    fun _ _ => State.directive_qualifiers hiu⟩

theorem State.leftBy_atlasDrop (s : State) :
    State.LeftBy .atlasDrop s (s.directive .atlasDrop true fun s r => s.checkContexts.atlasDrop r) := by
  have hframe := s.checkContexts_frame
  obtain ⟨hact, hrest⟩ := forall_and.1 s.checkContexts.atlasDrop_leaves
  obtain ⟨hsame, hlanes⟩ := forall_and.1 hrest
  have hiu (r : TaskRecord) : (s.checkContexts.atlasDrop r).iu = s.iu := (hsame r).trans (State.iu_of_frame hframe)
  obtain ⟨hcounts, htook⟩ := State.leaves_directive (k := .atlasDrop) (room := true)
    (act := fun s r => s.checkContexts.atlasDrop r) (fun r => (State.leavesCounts_of_frame hframe).trans (hact r)) hiu
  exact ⟨hcounts, htook, fun _ => State.directive_lanes fun r => (hlanes r).trans (State.lanes_of_frame hframe),
    fun hne => absurd rfl hne, fun _ _ => State.directive_qualifiers hiu⟩

/-- Settles O40: each consumption command stands, lets a record fetch start, or is a consumption behind work that leaves the frame,
but for what LANE-SETUP, ATLAS-DROP, PICK and QUALIFIER are there to change. -/
theorem consumptionsLeaveTheJournalCountsAlone : Obligations.ConsumptionsLeaveTheJournalCountsAlone := by
  unfold Obligations.ConsumptionsLeaveTheJournalCountsAlone
  intro c s t hc ht
  suffices key : State.LeftBy c s t by
    obtain ⟨h, htook, hlanes, hvoided, hqualifiers⟩ := key
    exact ⟨h.lrc, h.sealed, h.released, h.written, h.sealTimer, h.posted, hlanes, hvoided, hqualifiers, htook⟩
  have answers {u : State} (h : State.LeftBy c s u) (hu : exec c s = .next u) : State.LeftBy c s t := by
    obtain rfl : u = t := Host.Outcome.next.inj (hu.symm.trans ht)
    exact h
  simp only [List.mem_cons, List.not_mem_nil, or_false] at hc
  obtain rfl | rfl | rfl | rfl | rfl | rfl | rfl | rfl | rfl | rfl | rfl := hc
  · exact answers (s.consumes_headPick.leftBy fun hne => absurd rfl hne) rfl
  · exact answers (s.consumes_headQualifier.leftBy fun _ hne => absurd rfl hne) rfl
  · exact answers (State.leftBy_directive _ fun r => by simp) rfl
  · exact answers (State.leftBy_directive _ fun r => by simp) rfl
  · exact answers s.leftBy_laneSetup rfl
  · exact answers s.leftBy_atlasDrop rfl
  · exact answers (State.leftBy_directive _ fun r => by simp) rfl
  · exact answers (State.leftBy_directive _ fun r => by simp) rfl
  · exact answers (State.leftBy_directive _ fun r => by simp) rfl
  · exact answers (State.leftBy_directive _ fun r => by simp) rfl
  · exact answers (State.leftBy_directive _ fun r => by simp) rfl

end Sys2Proof.Machine
end

section
/-! Proofs of the family of 07 (task intake and qualifiers), third part: the intake's law (R120, R123, R126) through polls, fetches
and consumptions, and then through every other command and the idle step (O59). -/

namespace Sys2Proof.Machine

/-! ### The counts that the law speaks of -/

/-- The records fetched ahead of TAKEN: those in the queue and those of a fetch under way (R120). -/
def State.ahead (s : State) : Nat := s.iu.queue.length + s.iu.fetch.inFlight

/-- The law in terms of the records fetched ahead of TAKEN. -/
theorem State.intakeLaw_iff_ahead (s : State) : s.IntakeLaw ↔
    s.iu.fetched = s.iu.taken + BitVec.ofNat 32 s.ahead ∧ s.ahead ≤ 8 ∧
      (s.lrc.setup = none → s.ahead = 0 ∧ s.iu.posted = s.iu.taken) ∧
      ∀ u, s.lrc.setup = some u → 1 ≤ u.capacity ∧ u.capacity ≤ 4096 ∧ (s.iu.posted - s.iu.taken).toNat ≤ u.capacity ∧
        s.ahead ≤ (s.iu.posted - s.iu.taken).toNat := by
  unfold State.IntakeLaw State.ahead
  cases s.lrc.setup <;> simp [and_assoc]

theorem State.IntakeLaw.of_ahead {s t : State} (h : s.IntakeLaw) (hs : t.lrc.setup = s.lrc.setup) (ha : t.ahead = s.ahead)
    (hf : t.iu.fetched = s.iu.fetched) (hp : t.iu.posted = s.iu.posted) (ht : t.iu.taken = s.iu.taken) : t.IntakeLaw := by
  rw [State.intakeLaw_iff_ahead] at h ⊢
  rwa [hs, ha, hf, hp, ht]

theorem State.IntakeLaw.of_iu {s t : State} (h : s.IntakeLaw) (hi : t.iu = s.iu) (hs : t.lrc.setup = s.lrc.setup) :
    t.IntakeLaw := by
  refine h.of_ahead hs ?_ ?_ ?_ ?_
  · rw [State.ahead, hi]
    rfl
  all_goals rw [hi]

theorem State.IntakeLaw.of_frame {s t : State} (h : s.IntakeLaw) (hf : t.frame = s.frame) : t.IntakeLaw :=
  h.of_iu (State.iu_of_frame hf) (State.setup_of_frame hf)

theorem State.IntakeLaw.of_sameIntake {s t : State} (h : s.IntakeLaw) (hi : s.SameIntake t)
    (hs : t.lrc.setup = s.lrc.setup) : t.IntakeLaw := by
  refine h.of_ahead hs ?_ ?_ ?_ ?_
  · rw [State.ahead, hi]
    rfl
  all_goals rw [hi]

theorem State.intakeLaw_ite {s t : State} {c : Prop} [Decidable c] (hs : s.IntakeLaw) (ht : t.IntakeLaw) :
    (if c then s else t).IntakeLaw := by
  split
  · exact hs
  · exact ht

/-- An empty intake keeps the law, where the capacity of a setup copy is one that the START checks accept (R109, R111). -/
theorem State.intakeLaw_of_empty {s : State} (h : s.iu = Intake.empty)
    (hu : ∀ u, s.lrc.setup = some u → 1 ≤ u.capacity ∧ u.capacity ≤ 4096) : s.IntakeLaw := by
  have ha : s.ahead = 0 := by simp [State.ahead, h, Intake.empty, ReadState.inFlight]
  rw [State.intakeLaw_iff_ahead, ha, h]
  refine ⟨rfl, by omega, fun _ => ⟨rfl, rfl⟩, fun u hs => ?_⟩
  obtain ⟨hlow, hhigh⟩ := hu u hs
  exact ⟨hlow, hhigh, Nat.zero_le _, Nat.zero_le _⟩

/-! ### Counts modulo 2^32 -/

theorem count_sub_ahead {p t : Count} {k : Nat} (h : k ≤ (p - t).toNat) :
    (p - (t + BitVec.ofNat 32 k)).toNat = (p - t).toNat - k := by
  have hlt := (p - t).isLt
  have hk : (BitVec.ofNat 32 k).toNat = k := by
    rw [BitVec.toNat_ofNat]
    omega
  rw [← BitVec.sub_sub, BitVec.toNat_sub_of_le (by rw [BitVec.le_def, hk]; exact h), hk]

theorem count_add_ofNat (t : Count) (k n : Nat) : t + BitVec.ofNat 32 k + BitVec.ofNat 32 n = t + BitVec.ofNat 32 (k + n) := by
  rw [BitVec.add_assoc, ← BitVec.ofNat_add]

theorem count_add_sub (t : Count) (k : Nat) : (t + BitVec.ofNat 32 k - t).toNat = k % 2 ^ 32 := by
  rw [BitVec.add_comm, BitVec.add_sub_cancel, BitVec.toNat_ofNat]

/-! ### Record fetches -/

theorem State.startRecordFetch_of_noSetup {s : State} (h : s.lrc.setup = none) : s.startRecordFetch = s := by
  simp only [State.startRecordFetch, h]

/-- A record fetch takes under way no more than the queue has room for and the host has posted (R126). -/
theorem State.IntakeLaw.startRecordFetch {s : State} (h : s.IntakeLaw) : s.startRecordFetch.IntakeLaw := by
  cases hu : s.lrc.setup with
  | none => rwa [State.startRecordFetch_of_noSetup hu]
  | some u =>
    by_cases hstarts : s.fetchStarts
    · rw [State.startRecordFetch_of_starts hu hstarts]
      obtain ⟨-, hidle, -⟩ := hstarts
      have hahead : s.ahead = s.iu.queue.length := by simp [State.ahead, hidle, ReadState.inFlight]
      obtain ⟨hfetched, hroom, -, hsome⟩ := s.intakeLaw_iff_ahead.1 h
      obtain ⟨hlow, hhigh, hcap, hposted⟩ := hsome u hu
      have hn : s.fetchCount u ≤ 8 - s.iu.queue.length ∧ s.fetchCount u ≤ (s.iu.posted - s.iu.fetched).toNat := by
        unfold State.fetchCount
        omega
      rw [hfetched, count_sub_ahead hposted] at hn
      rw [State.intakeLaw_iff_ahead]
      refine ⟨?_, ?_, fun hs => ?_, fun v hv => ?_⟩
      · simp only [State.setIu_iu]
        rw [hfetched, count_add_ofNat, hahead]
        rfl
      · change s.iu.queue.length + s.fetchCount u ≤ 8
        omega
      · simp [hu] at hs
      · obtain rfl : u = v := by simpa [hu] using hv
        refine ⟨hlow, hhigh, hcap, ?_⟩
        change s.iu.queue.length + s.fetchCount u ≤ _
        exact (by omega : s.iu.queue.length + s.fetchCount u ≤ (s.iu.posted - s.iu.taken).toNat)
    · rwa [State.startRecordFetch_of_not hstarts]

theorem taskRecords_length (n : Nat) (data : List Byte) : (taskRecords n data).length = n := by
  induction n generalizing data with
  | zero => rfl
  | succ n ih => rw [taskRecords, List.length_cons, ih]

theorem State.IntakeLaw.offerHead {s : State} (h : s.IntakeLaw) : s.offerHead.IntakeLaw :=
  h.of_sameIntake s.sameIntake_offerHead (State.setup_of_outside s.offerHead_outside)

theorem State.IntakeLaw.candidateSearch {s : State} (h : s.IntakeLaw) : s.candidateSearch.IntakeLaw :=
  h.of_iu s.candidateSearch_iu (State.setup_of_outside s.candidateSearch_outside)

/-- The records of a fetch change from under way to queued (R127). -/
theorem State.IntakeLaw.append {s : State} (h : s.IntakeLaw) {records : List TaskRecord}
    (hn : records.length = s.iu.fetch.inFlight) :
    (s.setIu { s.iu with queue := s.iu.queue ++ records, fetch := .idle }).IntakeLaw :=
  h.of_ahead rfl (by simp [State.ahead, hn, ReadState.inFlight]) rfl rfl rfl

theorem State.IntakeLaw.fetchArrives {s : State} (h : s.IntakeLaw) {n : Nat} (hn : n = s.iu.fetch.inFlight) (data : List Byte) :
    (s.fetchArrives n data).IntakeLaw := by
  unfold State.fetchArrives
  extract_lets _ queued offered
  have hq : queued.IntakeLaw := h.append (by rw [taskRecords_length, hn])
  have ho : offered.IntakeLaw := State.intakeLaw_ite hq.offerHead hq
  exact State.IntakeLaw.candidateSearch (State.intakeLaw_ite ho ho.startRecordFetch)

/-- A read under way has the records of its fetch in flight. -/
theorem ReadState.what_of_age {r : ReadState} (h : r.age.isSome = true) : r.what = r.inFlight := by
  cases r with
  | underWay n a => rfl
  | idle => cases h
  | held n => cases h

/-- A fetch that fails sets the fetched count back by the records that it was to bring (R127). -/
theorem State.IntakeLaw.holdFetch {s : State} (h : s.IntakeLaw) (ha : s.iu.fetch.age.isSome = true) : s.holdFetch.IntakeLaw := by
  have hheld : s.iu.fetch.hold.inFlight = 0 := by
    cases s.iu.fetch <;> rfl
  have hahead : s.ahead = s.holdFetch.ahead + s.iu.fetch.what := by
    simp [State.ahead, State.holdFetch, hheld, ReadState.what_of_age ha]
  have hback : s.holdFetch.iu.fetched = s.iu.fetched - BitVec.ofNat 32 s.iu.fetch.what := rfl
  rw [State.intakeLaw_iff_ahead] at h ⊢
  obtain ⟨hfetched, hroom, hnone, hsome⟩ := h
  refine ⟨?_, by omega, fun hs => ?_, fun u hs => ?_⟩
  · rw [hback, hfetched, hahead, ← count_add_ofNat, BitVec.add_sub_cancel]
    rfl
  · obtain ⟨hzero, hposted⟩ := hnone hs
    exact ⟨by omega, hposted⟩
  · obtain ⟨hlow, hhigh, hcap, hposted⟩ := hsome u hs
    exact ⟨hlow, hhigh, hcap, le_trans (by omega) hposted⟩

/-! ### Header polls -/

/-- The value that a poll gives POSTED lies between the fetched count and the capacity, seen from TAKEN (R123). -/
theorem State.IntakeLaw.judgePosted {s : State} {u : Setup} (h : s.IntakeLaw) (hu : s.lrc.setup = some u) (p : Count) :
    ((s.iu.judgePosted u.capacity p).1 - s.iu.taken).toNat ≤ u.capacity ∧
      s.ahead ≤ ((s.iu.judgePosted u.capacity p).1 - s.iu.taken).toNat := by
  obtain ⟨hfetched, hroom, -, hsome⟩ := s.intakeLaw_iff_ahead.1 h
  obtain ⟨-, hhigh, hcap, hposted⟩ := hsome u hu
  have hahead : (s.iu.fetched - s.iu.taken).toNat = s.ahead := by
    rw [hfetched, count_add_sub]
    omega
  unfold Intake.judgePosted
  split
  · rw [count_add_sub]
    omega
  · split
    · rw [hahead]
      omega
    · dsimp only
      omega

theorem State.IntakeLaw.issuePoll {s : State} (h : s.IntakeLaw) : s.issuePoll.IntakeLaw := by
  refine h.of_ahead ?_ ?_ ?_ ?_ ?_ <;> simp [State.ahead]

/-! ### Consumptions -/

/-- The head leaves the queue, and TAKEN advances with it (R134). -/
theorem State.IntakeLaw.consumeHead {s : State} (h : s.IntakeLaw) (hq : s.iu.queue ≠ []) : s.consumeHead.IntakeLaw := by
  have hlen : s.ahead = 1 + s.consumeHead.ahead := by
    have := List.length_pos_iff.2 hq
    rw [State.ahead, State.ahead, State.consumeHead_iu, List.length_tail]
    dsimp only
    omega
  obtain ⟨hfetched, hroom, hnone, hsome⟩ := s.intakeLaw_iff_ahead.1 h
  rw [State.intakeLaw_iff_ahead, State.consumeHead_lrc, State.consumeHead_iu]
  refine ⟨?_, by omega, fun hs => ?_, fun u hs => ?_⟩
  · dsimp only
    rw [hfetched, hlen, ← count_add_ofNat]
    rfl
  · obtain ⟨hzero, -⟩ := hnone hs
    omega
  · obtain ⟨hlow, hhigh, hcap, hposted⟩ := hsome u hs
    have htaken : (s.iu.posted - (s.iu.taken + 1)).toNat = (s.iu.posted - s.iu.taken).toNat - 1 :=
      count_sub_ahead (k := 1) (by omega)
    dsimp only
    rw [htaken]
    exact ⟨hlow, hhigh, by omega, by omega⟩

theorem State.IntakeLaw.kick {s : State} (h : s.IntakeLaw) : s.kick.IntakeLaw := h.of_frame s.kick_frame

theorem State.IntakeLaw.consumed {s : State} (h : s.IntakeLaw) (hq : s.iu.queue ≠ []) : s.consumed.IntakeLaw :=
  (h.consumeHead hq).startRecordFetch.offerHead.candidateSearch.kick

/-- A poll that arrives moves POSTED within the law, and a record fetch and the owed poll may follow it (R122, R123). -/
theorem State.IntakeLaw.pollArrives {s : State} (h : s.IntakeLaw) (hostLine : List Byte) :
    (s.pollArrives hostLine).IntakeLaw := by
  unfold State.pollArrives
  split
  · exact h
  · next u hu =>
    extract_lets posted released advanced _ polled raised _ judged started
    have hp : polled.IntakeLaw := by
      obtain ⟨hfetched, hroom, -, hsome⟩ := s.intakeLaw_iff_ahead.1 h
      obtain ⟨hlow, hhigh, -⟩ := hsome u hu
      obtain ⟨hcap, hposted⟩ := h.judgePosted hu (BitVec.ofNat 32 (fieldAt hostLine 0 4))
      refine polled.intakeLaw_iff_ahead.2 ⟨hfetched, hroom, fun hs => (nomatch hu.symm.trans hs), fun v hv => ?_⟩
      obtain rfl : u = v := Option.some.inj (hu.symm.trans hv)
      exact ⟨hlow, hhigh, hcap, hposted⟩
    have hr : raised.IntakeLaw := by
      refine State.intakeLaw_ite ?_ hp
      exact hp.of_iu (State.raise_iu _ _) (by simp)
    have hj : judged.IntakeLaw := hr.of_iu (State.judgeJournal_iu _ _) (by simp [judged])
    exact State.intakeLaw_ite hj.startRecordFetch.issuePoll hj.startRecordFetch

/-! ### The run states -/

theorem State.intakeLaw_power (s : State) : s.power.IntakeLaw := State.intakeLaw_of_empty rfl fun _ hu => nomatch hu

theorem State.intakeLaw_clearRun (s : State) : s.clearRun.IntakeLaw :=
  State.IntakeLaw.kick (State.intakeLaw_of_empty rfl fun _ hu => nomatch hu)

theorem State.intakeLaw_resetAll (s : State) (link soft : Bool) : (s.resetAll link soft).IntakeLaw :=
  State.IntakeLaw.kick (State.intakeLaw_of_empty rfl fun _ hu => nomatch hu)

/-- The START checks accept a capacity of 64 to 4096 records (R109). -/
theorem State.intakeLaw_acceptStart (s : State) {hostLine block : List Byte} (h : startVerdict hostLine block = .accepted) :
    (s.acceptStart (setupCopy block)).IntakeLaw := by
  refine State.intakeLaw_of_empty (s.acceptStart_iu _) fun u hu => ?_
  obtain rfl : setupCopy block = u := by
    rw [State.acceptStart_lrc] at hu
    exact Option.some.inj hu
  by_cases hsizes : sizesGood block
  · obtain ⟨hcap, -⟩ := hsizes
    simp only [List.mem_cons, List.not_mem_nil, or_false] at hcap
    change 1 ≤ fieldAt block 0 2 ∧ fieldAt block 0 2 ≤ 4096
    omega
  · exact nomatch (startVerdict_of_sizes hsizes).symm.trans h

section RunStates

variable {s : State} (h : s.IntakeLaw)
include h

theorem State.IntakeLaw.checkContexts : s.checkContexts.IntakeLaw := h.of_frame s.checkContexts_frame

theorem State.IntakeLaw.raise (n : Notice) : (s.raise n).IntakeLaw := h.of_iu (s.raise_iu n) (by simp)

theorem State.IntakeLaw.sealBlock : s.sealBlock.IntakeLaw := by
  refine h.of_iu ?_ ?_
  all_goals
    unfold State.sealBlock
    split <;> simp

theorem State.IntakeLaw.enterHalted : s.enterHalted.IntakeLaw := by
  unfold State.enterHalted
  extract_lets pinned _ rebuilt passed
  have hr : rebuilt.IntakeLaw := h.of_iu rfl rfl
  have hp : passed.IntakeLaw := State.intakeLaw_ite (hr.of_frame rebuilt.placementPass_frame) hr
  have hm : (passed.mapStrings fun x => x.announce .pause).IntakeLaw := hp.of_iu rfl rfl
  exact State.IntakeLaw.kick (State.intakeLaw_ite hm hm.sealBlock)

theorem State.IntakeLaw.resumePoll : s.resumePoll.IntakeLaw := by
  unfold State.resumePoll
  split
  · exact h.issuePoll
  · exact h

/-- A held fetch has no records under way, so that its hold may end (R127). -/
theorem State.IntakeLaw.resumeFetch : s.resumeFetch.IntakeLaw := by
  unfold State.resumeFetch
  refine State.IntakeLaw.startRecordFetch ?_
  split
  · next hf => exact h.of_ahead rfl (by simp [State.ahead, hf, ReadState.inFlight]) rfl rfl rfl
  · exact h

theorem State.IntakeLaw.resumeAtlas : s.resumeAtlas.IntakeLaw := by
  unfold State.resumeAtlas
  extract_lets demandHeld aheadHeld _ freed _ _ released
  have hf : freed.IntakeLaw := State.intakeLaw_ite (h.of_iu rfl rfl) h
  have hr : released.IntakeLaw := State.intakeLaw_ite (hf.of_sameIntake rfl rfl) hf
  exact State.IntakeLaw.candidateSearch (State.intakeLaw_ite hr.offerHead hr)

theorem State.IntakeLaw.enterRunning : s.enterRunning.IntakeLaw := by
  have hr : ((s.setLrc { s.lrc with run := .running }).rebuildAll).IntakeLaw := h.of_iu rfl rfl
  exact State.IntakeLaw.kick (State.IntakeLaw.of_iu hr.resumePoll.resumeFetch.resumeAtlas rfl rfl)

theorem State.IntakeLaw.failStart (v : Verdict) : (s.failStart v).IntakeLaw :=
  h.of_iu (State.raise_iu _ _) (by simp [State.failStart])

theorem State.IntakeLaw.linkFault : s.linkFault.IntakeLaw :=
  State.intakeLaw_ite (h.raise .link).enterHalted (h.raise .link)

/-- A read that fails does so under way, with its records in flight (R127, R167). -/
theorem State.IntakeLaw.failAt (r : ReadRef) (least : Nat) : (s.failAt r least).IntakeLaw := by
  have hc := h.checkContexts
  unfold State.failAt
  split
  · next age hage =>
    refine State.intakeLaw_ite ?_ h
    cases r with
    | startRead => exact hc.failStart _
    | headerPoll => exact State.IntakeLaw.linkFault (hc.of_ahead rfl rfl rfl rfl rfl)
    | recordFetch =>
      refine State.IntakeLaw.linkFault (hc.holdFetch ?_)
      rw [State.iu_of_frame s.checkContexts_frame]
      exact Option.isSome_of_eq_some hage
    | atlasDemand => exact State.IntakeLaw.linkFault (hc.of_iu rfl rfl)
    | atlasLookahead => exact State.IntakeLaw.linkFault (hc.of_iu rfl rfl)
    | voided _ => exact hc
  · exact h

theorem State.IntakeLaw.judgeStart (hostLine block : List Byte) : (s.judgeStart hostLine block).IntakeLaw := by
  unfold State.judgeStart
  split
  · next hv => exact s.intakeLaw_acceptStart hv
  · exact h.failStart _

theorem State.IntakeLaw.discardVoided (place : Nat) : (s.discardVoided place).IntakeLaw := by
  have hforget {t : State} (ht : t.IntakeLaw) : (t.forget place).IntakeLaw := ht.of_iu rfl rfl
  unfold State.discardVoided
  split
  · exact (hforget h.checkContexts).candidateSearch
  · exact (hforget h.checkContexts).candidateSearch
  · exact hforget h
  · exact h

theorem State.IntakeLaw.prompt : s.prompt.IntakeLaw := by
  unfold State.prompt
  split
  · exact h.issuePoll
  · exact h.of_ahead rfl rfl rfl rfl rfl
  · exact h

theorem State.IntakeLaw.demandArrives (slot : Nat) (f : AtlasFields) : (s.demandArrives slot f).IntakeLaw :=
  (State.IntakeLaw.of_iu (t := s.demanded slot f) h rfl rfl).offerHead.candidateSearch

theorem State.IntakeLaw.aheadArrives (slot : Nat) (f : AtlasFields) : (s.aheadArrives slot f).IntakeLaw := by
  have hf : (s.filled slot f).IntakeLaw := h.of_iu rfl rfl
  exact State.IntakeLaw.candidateSearch
    (State.intakeLaw_ite (State.IntakeLaw.offerHead (State.IntakeLaw.of_sameIntake hf rfl rfl)) hf)

/-! ### The consumption commands -/

omit h in
theorem State.queue_ne_nil {r : TaskRecord} (hhead : s.head = some r) : s.iu.queue ≠ [] := by
  intro hq
  simp [State.head, hq] at hhead

/-- A directive keeps the law when its act leaves the intake: it is consumed only where a record stands at the head. -/
theorem State.IntakeLaw.directive (k : TaskKind) (room : Bool) {act : State → TaskRecord → State}
    (hact : ∀ r, (act s r).iu = s.iu ∧ (act s r).lrc.setup = s.lrc.setup) : (s.directive k room act).IntakeLaw := by
  obtain heq | heq | ⟨r, hhead, heq⟩ := s.directive_cases k room act <;> rw [heq]
  · exact h
  · exact h.startRecordFetch
  · obtain ⟨hiu, hsetup⟩ := hact r
    refine (h.of_iu hiu hsetup).consumed ?_
    rw [hiu]
    exact State.queue_ne_nil hhead

theorem State.IntakeLaw.directive_of_frame (k : TaskKind) (room : Bool) {act : State → TaskRecord → State}
    (hact : ∀ r, (act s r).frame = s.frame) : (s.directive k room act).IntakeLaw :=
  h.directive k room fun r => ⟨State.iu_of_frame (hact r), State.setup_of_frame (hact r)⟩

/-- The pending set is no part of the law. -/
theorem State.IntakeLaw.setQualifiers (q : QualifierSet) : (s.setIu { s.iu with qualifiers := q }).IntakeLaw :=
  h.of_ahead rfl rfl rfl rfl rfl

theorem State.IntakeLaw.takePick (i : Nat) (r : TaskRecord) (f : Option AtlasFields) : (s.takePick i r f).IntakeLaw :=
  State.IntakeLaw.of_frame (s := s.setIu { s.iu with qualifiers := QualifierSet.empty }) (h.setQualifiers _)
    (s.takePick_frame i r f)

theorem State.IntakeLaw.headPick : s.headPick.IntakeLaw := by
  obtain heq | ⟨r, hhead, heq⟩ := s.headPick_cases <;> rw [heq]
  · exact h
  · have hframe := s.checkTables_frame
    have hc : s.checkTables.IntakeLaw := h.of_frame hframe
    obtain ⟨t, ht, hcases⟩ := s.checkTables.takeHeadPick_cases r
    have hout : t.IntakeLaw ∧ t.iu.queue = s.iu.queue := by
      have hask := State.askAtlas_outside s.checkTables r.slot.toNat
      obtain rfl | rfl := ht
      · exact ⟨hc, by rw [State.iu_of_frame hframe]⟩
      · exact ⟨hc.of_sameIntake (State.sameIntake_askAtlas _ _) (State.setup_of_outside hask),
          by rw [State.queue_of_outside hask, State.iu_of_frame hframe]⟩
    obtain ⟨ht, hq⟩ := hout
    refine State.IntakeLaw.kick ?_
    obtain heq | heq | ⟨i, f, heq⟩ := hcases <;> rw [heq]
    · exact ht
    · exact ht.startRecordFetch
    · refine (ht.takePick i r f).consumed ?_
      have htook : (t.takePick i r f).iu = { t.iu with qualifiers := QualifierSet.empty } :=
        congrArg Frame.iu (t.takePick_frame i r f)
      rw [htook]
      dsimp only
      rw [hq]
      exact State.queue_ne_nil hhead

theorem State.IntakeLaw.headQualifier : s.headQualifier.IntakeLaw := by
  obtain heq | ⟨r, q, hhead, heq⟩ := s.headQualifier_cases <;> rw [heq]
  · exact h
  · refine (h.checkContexts.setQualifiers q).consumed ?_
    rw [State.setIu_iu, State.iu_of_frame s.checkContexts_frame]
    exact State.queue_ne_nil hhead

end RunStates

/-! ### String events, timers and the journal -/

section Events

variable {s : State} (h : s.IntakeLaw)
include h

theorem State.IntakeLaw.moduleReply (n : Nat) (frame : List Byte) : (s.moduleReply n frame).IntakeLaw := by
  obtain ⟨hrun, hintake⟩ := s.moduleReply_leaves n frame
  exact h.of_sameIntake hintake (by rw [hrun.lrc])

theorem State.IntakeLaw.stringEvent (n : Nat) (f : StringCtl → StringCtl) : (s.stringEvent n f).IntakeLaw :=
  State.IntakeLaw.kick (h.checkContexts.of_iu rfl rfl)

theorem State.IntakeLaw.closeBlock (u : Setup) (fence : Bool) : (s.closeBlock u fence).IntakeLaw :=
  State.intakeLaw_ite h.sealBlock h

theorem State.IntakeLaw.writeRecord (u : Setup) (data : List Byte) : (s.writeRecord u data).IntakeLaw :=
  h.of_iu (State.linkWrite_iu _ _ _) (by simp [State.writeRecord])

theorem State.IntakeLaw.examineFences : s.examineFences.IntakeLaw :=
  State.intakeLaw_ite h (h.of_frame (by simp))

theorem State.IntakeLaw.reoffer (free : Nat) : (s.reoffer free).IntakeLaw := by
  obtain ⟨hrun, hintake⟩ := s.reoffer_leaves free
  exact h.of_sameIntake hintake (by rw [hrun.lrc])

theorem State.IntakeLaw.writePick (u : Setup) (i : Nat) : (s.writePick u i).IntakeLaw := by
  have hc : (s.checkPick i).IntakeLaw := h.of_frame (s.checkPick_frame i)
  unfold State.writePick
  dsimp only
  split
  · next r _ =>
    have hw := hc.writeRecord u (r.bytes 0)
    exact ((hw.of_frame (State.release_frame _ i)).examineFences.reoffer _).closeBlock u _
  · exact h

theorem State.IntakeLaw.writeOldest : s.writeOldest.IntakeLaw := by
  unfold State.writeOldest
  split
  · exact h.writePick _ _
  · next u r _ _ _ =>
    have hw := h.writeRecord u (r.bytes s.jw.lost)
    exact State.intakeLaw_ite (State.IntakeLaw.sealBlock (hw.of_iu rfl rfl)) (hw.of_iu rfl rfl)
  · exact h

end Events

/-! ### Every command, and the step -/

/-- The law holds of the next state that a command answers, where it answers one. -/
def Result.KeepsIntake (r : Result) : Prop := ∀ t, r = .next t → t.IntakeLaw

theorem keepsIntake_next {t : State} (h : t.IntakeLaw) : Result.KeepsIntake (.next t) := by
  rintro u ⟨⟩
  exact h

theorem keepsIntake_attempt {s t : State} {b : Bool} (h : s.IntakeLaw) (ht : b = true → t.IntakeLaw) :
    Result.KeepsIntake (attempt b s t) := by
  cases b with
  | true => exact keepsIntake_next (ht rfl)
  | false => exact keepsIntake_next h

theorem keepsIntake_action {s t : State} (b : Bool) (h : s.IntakeLaw) (ht : t.IntakeLaw) : Result.KeepsIntake (action b s t) :=
  keepsIntake_next (State.intakeLaw_ite ht (h.of_iu rfl rfl))

theorem keepsIntake_wellFormed {r : Result} (i : Instr) (h : r.KeepsIntake) : (wellFormed i r).KeepsIntake := by
  unfold wellFormed
  split
  · exact h
  · exact fun u hu => nomatch hu

/-- Every command keeps the intake's law. -/
theorem exec_intakeLaw {s : State} (h : s.IntakeLaw) (c : Instr) : Result.KeepsIntake (exec c s) := by
  cases c with
  | powerOn => exact keepsIntake_next s.intakeLaw_power
  | linkReset => exact keepsIntake_next (s.intakeLaw_resetAll _ _)
  | sweepDone => exact keepsIntake_attempt h fun _ => h.of_iu rfl rfl
  | start => exact keepsIntake_action _ h (h.of_iu (by simp [State.issueStart]) (by simp [State.issueStart]))
  | halt => exact keepsIntake_action _ h h.checkContexts.enterHalted
  | resume => exact keepsIntake_action _ h h.checkContexts.enterRunning
  | clear => exact keepsIntake_action _ h s.intakeLaw_clearRun
  | reset => exact keepsIntake_next (s.intakeLaw_resetAll _ _)
  | prompt => exact keepsIntake_action _ h h.prompt
  | actionOutOfRange v => exact keepsIntake_wellFormed _ (keepsIntake_next (h.of_iu rfl rfl))
  | exbaseWrite hi v =>
    exact keepsIntake_action _ h (State.intakeLaw_ite (h.of_iu rfl rfl) (h.of_iu rfl rfl))
  | noticeWrite v => exact keepsIntake_next (h.of_iu (by simp [State.writeNotice]) (by simp [State.writeNotice]))
  | noticeMaskWrite v => exact keepsIntake_next (h.of_iu (s.setNotices_iu _ _) (by simp))
  | faultWhereWrite v => exact keepsIntake_next (h.of_iu rfl rfl)
  | stateRead => exact keepsIntake_next (h.of_iu rfl rfl)
  | registerWriteIgnored o v => exact keepsIntake_wellFormed _ (keepsIntake_next h)
  | startReadArrival hostLine block =>
    exact keepsIntake_wellFormed _ (keepsIntake_attempt h fun _ => h.judgeStart hostLine block)
  | linkReadError r =>
    cases r with
    | voided place => exact keepsIntake_next (h.of_iu rfl rfl)
    | _ => exact keepsIntake_next (h.failAt _ 0)
  | linkReadTimeout r => exact keepsIntake_next (h.failAt r 50)
  | voidedReadArrival place => exact keepsIntake_next (h.discardVoided place)
  | headerPollIssue => exact keepsIntake_attempt h fun _ => h.issuePoll
  | headerPollArrival hostLine =>
    exact keepsIntake_wellFormed _ (keepsIntake_attempt h fun _ => h.pollArrives hostLine)
  | recordFetchArrival data =>
    refine keepsIntake_wellFormed _ (keepsIntake_attempt h fun harises => h.checkContexts.fetchArrives ?_ data)
    simp only [Bool.and_eq_true] at harises
    obtain ⟨⟨-, hage⟩, -⟩ := harises
    rw [State.iu_of_frame s.checkContexts_frame]
    exact ReadState.what_of_age hage
  | atlasDemandArrival entry =>
    exact keepsIntake_wellFormed _ (keepsIntake_attempt h fun _ => h.checkContexts.demandArrives _ _)
  | atlasLookaheadArrival entry =>
    exact keepsIntake_wellFormed _ (keepsIntake_attempt h fun _ => h.checkContexts.aheadArrives _ _)
  | pick => exact keepsIntake_next h.headPick
  | qualifier => exact keepsIntake_next h.headQualifier
  | cancel => exact keepsIntake_next (h.directive_of_frame _ _ fun r => by simp)
  | amend => exact keepsIntake_next (h.directive_of_frame _ _ fun r => by simp)
  | laneSetup =>
    refine keepsIntake_next (h.directive _ _ fun r => ?_)
    obtain ⟨hcounts, hiu, -⟩ := s.checkTables.setupLane_leaves r
    have hframe := s.checkTables_frame
    exact ⟨hiu.trans (State.iu_of_frame hframe), by rw [hcounts.lrc]; exact State.setup_of_frame hframe⟩
  | atlasDrop =>
    refine keepsIntake_next (h.directive _ _ fun r => ?_)
    obtain ⟨hcounts, hiu, -⟩ := s.checkContexts.atlasDrop_leaves r
    have hframe := s.checkContexts_frame
    exact ⟨hiu.trans (State.iu_of_frame hframe), by rw [hcounts.lrc]; exact State.setup_of_frame hframe⟩
  | fence => exact keepsIntake_next (h.directive_of_frame _ _ fun r => by simp)
  | lightTest => exact keepsIntake_next (h.directive_of_frame _ _ fun r => by simp)
  | census => exact keepsIntake_next (h.directive_of_frame _ _ fun r => by simp)
  | skip => exact keepsIntake_next (h.directive_of_frame _ _ fun r => by simp)
  | unknownKind => exact keepsIntake_next (h.directive_of_frame _ _ fun r => by simp)
  | moduleReply n frame => exact keepsIntake_next (h.moduleReply n frame)
  | exchangeMiss n => exact keepsIntake_next (h.of_frame (s.exchangeMiss_frame n))
  | broadcastEnd n => exact keepsIntake_next (h.of_frame (s.broadcastEnd_frame n))
  | settlingEnd n => exact keepsIntake_attempt h fun _ => h.stringEvent n _
  | lightTestEnd n => exact keepsIntake_attempt h fun _ => h.stringEvent n _
  | quietPeriod n => exact keepsIntake_attempt h fun _ => h.stringEvent n _
  | dormancyTimeout n => exact keepsIntake_attempt h fun _ => h.stringEvent n _
  | attentionWake n low => exact keepsIntake_next (h.stringEvent n _)
  | feedFault n asserted => exact keepsIntake_next (h.of_frame (s.feedInput_frame n asserted))
  | abandonTimeout i => exact keepsIntake_wellFormed _ (keepsIntake_attempt h fun _ => h.of_frame (by simp))
  | lingerExpiry ci serial => exact keepsIntake_wellFormed _ (keepsIntake_attempt h fun _ => h.of_frame (by simp))
  | pinTimeout ci => exact keepsIntake_wellFormed _ (keepsIntake_attempt h fun _ => h.of_frame (by simp))
  | sealTimeout => exact keepsIntake_attempt h fun _ => h.sealBlock
  | journalWrite => exact keepsIntake_attempt h fun _ => h.writeOldest

theorem ReadState.inFlight_grow (r : ReadState) : r.grow.inFlight = r.inFlight := by cases r <;> rfl

/-- In a millisecond the reads grow older; their records stay those under way (R167). -/
theorem State.IntakeLaw.tick {s : State} (h : s.IntakeLaw) : s.tick.IntakeLaw := by
  have hrun : s.countRun.IntakeLaw := State.intakeLaw_ite (h.of_iu rfl rfl) h
  have hclock : s.countRun.countClock.IntakeLaw := State.intakeLaw_ite (hrun.of_iu rfl rfl) hrun
  have hreads : s.countRun.countClock.countReads.IntakeLaw :=
    hclock.of_ahead rfl (by simp [State.ahead, State.countReads, ReadState.inFlight_grow]) rfl rfl rfl
  have hsweep : (s.countRun.countClock.countReads.mapStrings StringCtl.count).sweepOn.IntakeLaw :=
    State.intakeLaw_ite (hreads.of_iu rfl rfl) (hreads.of_iu rfl rfl)
  have hstrikes (l : List Strike) (t : State) (ht : t.IntakeLaw) : (l.foldl State.strike t).IntakeLaw := by
    induction l generalizing t with
    | nil => exact ht
    | cons x l ih => exact ih _ (ht.of_iu (by cases x <;> rfl) (by cases x <;> rfl))
  exact State.IntakeLaw.of_iu (hstrikes _ _ hsweep) rfl rfl

/-- Settles O59: every command and the idle step keep the law, operation by operation. -/
theorem stepsKeepTheIntakeLaw : Obligations.StepsKeepTheIntakeLaw := by
  unfold Obligations.StepsKeepTheIntakeLaw
  intro s t h ht
  unfold step at ht
  split at ht
  · next c rest _ => exact exec_intakeLaw (s := { s with pending := rest }) (h.of_iu rfl rfl) c t ht
  · cases ht
    exact h.tick

end Sys2Proof.Machine
end

section
/-! Proofs of the family of 07 (task intake and qualifiers), fourth part: when a header poll is issued (O22), what becomes of the
owed poll (O15), and what a poll's arrival makes of POSTED, RELEASED and the notices (O23). -/

namespace Sys2Proof.Machine

/-! ### The cadence -/

section Cadence

variable {s : State} {u : Setup}

/-- The conditions of the brisk period, each as the statement says it (R121). -/
theorem State.brisk_iff (hu : s.lrc.setup = some u) : s.brisk = true ↔ s.lrc.run = .running ∧ (s.pm.free < 256 ∨
    (∃ m, s.iu.lastNew = some m ∧ (s.lrc.clock - m).toNat ≤ 500) ∨ u.blocks ≤ (s.jw.sealed - s.jw.released).toNat) := by
  have hrecent : s.recentRecords = true ↔ ∃ m, s.iu.lastNew = some m ∧ (s.lrc.clock - m).toNat ≤ 500 := by
    unfold State.recentRecords State.now
    cases s.iu.lastNew <;> simp
  have hfull : (!s.blockFree) = true ↔ u.blocks ≤ (s.jw.sealed - s.jw.released).toNat := by
    simp only [State.blockFree, hu, Bool.not_eq_true', decide_eq_false_iff_not, Nat.not_lt]
    rfl
  simp only [State.brisk, Bool.and_eq_true, Bool.or_eq_true, beq_iff_eq, decide_eq_true_eq, hrecent, hfull, or_assoc]

theorem State.pollPeriod_of_brisk (hu : s.lrc.setup = some u) (h : s.brisk = true) : s.pollPeriod = u.brisk := by
  simp [State.pollPeriod, hu, h]

theorem State.pollPeriod_of_idle (hu : s.lrc.setup = some u) (h : ¬s.brisk = true) : s.pollPeriod = u.idle := by
  simp [State.pollPeriod, hu, h]

/-- A poll is issued when its period has passed (R121). -/
theorem exec_headerPollIssue_of_due (hrun : s.inRun = true) (hidle : s.iu.poll = .idle) (hdue : s.pollPeriod ≤ s.sincePoll) :
    exec .headerPollIssue s = .next s.issuePoll :=
  attempt_of_arises (by simp [hrun, hidle, hdue]) _

theorem exec_headerPollIssue_of_early (h : s.sincePoll < s.pollPeriod) : exec .headerPollIssue s = .next s :=
  attempt_of_not_arises (by simp [h]) _ _

theorem exec_headerPollIssue_of_held (h : s.inRun = false ∨ s.iu.poll ≠ .idle) : exec .headerPollIssue s = .next s :=
  attempt_of_not_arises (by rcases h with h | h <;> simp [h]) _ _

end Cadence

/-- Settles O22: the period in force is judged as it stands, and the poll that it lets go out is State.issuePoll. -/
theorem headerPollsFollowTheCadence : Obligations.HeaderPollsFollowTheCadence := by
  unfold Obligations.HeaderPollsFollowTheCadence
  intro s u hu since recent full brisk issues
  have hbrisk : s.brisk = true ↔ brisk := State.brisk_iff hu
  have hissues (hrun : s.inRun = true) (hidle : s.iu.poll = .idle) (hdue : s.pollPeriod ≤ s.sincePoll) : issues :=
    ⟨_, exec_headerPollIssue_of_due hrun hidle hdue, s.issuePoll_iu, s.issuePoll_lrc, s.issuePoll_jw, s.issuePoll_pm,
      fun b hb => s.issuePoll_out hb⟩
  refine ⟨fun hrun hidle hb hdue => hissues hrun hidle ?_, fun hrun hidle hb hdue => hissues hrun hidle ?_,
    fun hb hearly => exec_headerPollIssue_of_early ?_, fun hb hearly => exec_headerPollIssue_of_early ?_,
    exec_headerPollIssue_of_held⟩
  · rwa [State.pollPeriod_of_brisk hu (hbrisk.2 hb)]
  · rwa [State.pollPeriod_of_idle hu (mt hbrisk.1 hb)]
  · rwa [State.pollPeriod_of_brisk hu (hbrisk.2 hb)]
  · rwa [State.pollPeriod_of_idle hu (mt hbrisk.1 hb)]

/-! ### The arrival of a poll -/

/-- The counts of a poll taken: POSTED, RELEASED, and EXCHANGE with their causes (R123, R124). -/
def State.polled (s : State) (u : Setup) (hostLine : List Byte) : State :=
  let posted := s.iu.judgePosted u.capacity (BitVec.ofNat 32 (fieldAt hostLine 0 4))
  let released := s.jw.judgeReleased (BitVec.ofNat 32 (fieldAt hostLine 4 4))
  let advanced := decide ((s.iu.posted - s.iu.taken).toNat < (posted.1 - s.iu.taken).toNat)
  let t := s.setIu { s.iu with
    posted := posted.1
    lastNew := if advanced then some s.now else s.iu.lastNew
    lastPoll := s.now
    poll := .idle
    promptOwed := false }
  let t := t.raiseExchange posted.2 released.2
  t.setJw { t.jw with released := released.1 }

section Raise

variable (s : State) (post release : Bool)

/-- A raise of EXCHANGE keeps each cause that stands (R160). -/
theorem State.raiseExchange_lrc : (s.raiseExchange post release).lrc = { s.lrc with
    notice := if post || release then s.lrc.notice ||| Notice.exchange.bit else s.lrc.notice
    causePost := s.lrc.causePost || post
    causeRelease := s.lrc.causeRelease || release } := by
  unfold State.raiseExchange
  cases post <;> cases release <;> simp

@[simp] theorem State.raiseExchange_iu : (s.raiseExchange post release).iu = s.iu := by
  unfold State.raiseExchange
  split <;> simp

@[simp] theorem State.raiseExchange_jw : (s.raiseExchange post release).jw = s.jw := by
  unfold State.raiseExchange
  split <;> simp

@[simp] theorem State.raiseExchange_pm : (s.raiseExchange post release).pm = s.pm := by
  unfold State.raiseExchange
  split <;> simp

@[simp] theorem State.raiseExchange_strings : (s.raiseExchange post release).strings = s.strings := by
  unfold State.raiseExchange
  split <;> simp

end Raise

section Polled

variable (s : State) (u : Setup) (hostLine : List Byte)

theorem State.polled_iu : (s.polled u hostLine).iu = { s.iu with
    posted := (s.iu.judgePosted u.capacity (BitVec.ofNat 32 (fieldAt hostLine 0 4))).1
    lastNew := if (s.iu.posted - s.iu.taken).toNat <
        ((s.iu.judgePosted u.capacity (BitVec.ofNat 32 (fieldAt hostLine 0 4))).1 - s.iu.taken).toNat
      then some s.lrc.clock else s.iu.lastNew
    lastPoll := s.lrc.clock
    poll := .idle
    promptOwed := false } := by
  simp [State.polled, State.now]

theorem State.polled_jw : (s.polled u hostLine).jw =
    { s.jw with released := (s.jw.judgeReleased (BitVec.ofNat 32 (fieldAt hostLine 4 4))).1 } := by
  simp [State.polled]

theorem State.polled_lrc : (s.polled u hostLine).lrc = { s.lrc with
    notice := if (s.iu.judgePosted u.capacity (BitVec.ofNat 32 (fieldAt hostLine 0 4))).2 ||
        (s.jw.judgeReleased (BitVec.ofNat 32 (fieldAt hostLine 4 4))).2 then s.lrc.notice ||| Notice.exchange.bit
      else s.lrc.notice
    causePost := s.lrc.causePost || (s.iu.judgePosted u.capacity (BitVec.ofNat 32 (fieldAt hostLine 0 4))).2
    causeRelease := s.lrc.causeRelease || (s.jw.judgeReleased (BitVec.ofNat 32 (fieldAt hostLine 4 4))).2 } :=
  State.raiseExchange_lrc _ _ _

theorem State.polled_pm : (s.polled u hostLine).pm = s.pm := by simp [State.polled]

theorem State.polled_contexts : (s.polled u hostLine).contexts = s.contexts := by
  simp [State.polled, State.raiseExchange_contexts]

theorem State.polled_strings : (s.polled u hostLine).strings = s.strings := by simp [State.polled]

end Polled

section PollArrives

variable {s : State} {u : Setup} (hu : s.lrc.setup = some u) (hostLine : List Byte)
include hu

/-- Behind the counts JOURNAL is judged, a record fetch may start, and the owed poll is issued (R122, R126, R159; log 26). -/
theorem State.pollArrives_eq : s.pollArrives hostLine =
    if s.iu.promptOwed then ((s.polled u hostLine).judgeJournal false).startRecordFetch.issuePoll
    else ((s.polled u hostLine).judgeJournal false).startRecordFetch := by
  simp only [State.pollArrives, hu]
  rfl

/-- Of the intake the fetch and the owed poll change what they start and no count that the poll gave. -/
theorem State.pollArrives_iu : (s.pollArrives hostLine).iu = { (s.polled u hostLine).iu with
    poll := if s.iu.promptOwed then .underWay 0 0 else .idle
    fetch := (s.pollArrives hostLine).iu.fetch
    fetched := (s.pollArrives hostLine).iu.fetched
    consumed := (s.pollArrives hostLine).iu.consumed } := by
  have hidle : (s.polled u hostLine).iu.poll = .idle := by rw [State.polled_iu]
  rw [State.pollArrives_eq hu]
  split
  · rw [State.issuePoll_iu, State.startRecordFetch_eq, State.judgeJournal_iu]
  · rw [State.startRecordFetch_eq, State.judgeJournal_iu, ← hidle]

theorem State.pollArrives_lrc : (s.pollArrives hostLine).lrc =
    { (s.polled u hostLine).lrc with notice := (s.polled u hostLine).journalFlag false } := by
  rw [State.pollArrives_eq hu]
  split <;> simp

theorem State.pollArrives_blocks : (s.pollArrives hostLine).jw = (s.polled u hostLine).jw ∧
    (s.pollArrives hostLine).pm = s.pm ∧ (s.pollArrives hostLine).contexts = s.contexts ∧
    (s.pollArrives hostLine).strings = s.strings := by
  have hout := State.startRecordFetch_outside ((s.polled u hostLine).judgeJournal false)
  have hjw := State.jw_of_outside hout
  have hpm := State.pm_of_outside hout
  have hcontexts := State.contexts_of_outside hout
  have hstrings := State.strings_of_outside hout
  rw [State.judgeJournal_jw] at hjw
  rw [State.judgeJournal_pm, State.polled_pm] at hpm
  rw [State.judgeJournal_contexts, State.polled_contexts] at hcontexts
  rw [State.judgeJournal_strings, State.polled_strings] at hstrings
  rw [State.pollArrives_eq hu]
  split
  · exact ⟨by simpa using hjw, by simpa using hpm, by simpa using hcontexts, by simpa using hstrings⟩
  · exact ⟨hjw, hpm, hcontexts, hstrings⟩

end PollArrives

theorem exec_headerPollArrival {s : State} {hostLine : List Byte} (hrun : s.inRun = true) {k a : Nat}
    (hpoll : s.iu.poll = .underWay k a) (hlen : hostLine.length = 64) :
    exec (.headerPollArrival hostLine) s = .next (s.pollArrives hostLine) :=
  (wellFormed_of_wf (by simp [Instr.wf, hlen]) _).trans (attempt_of_arises (by simp [hrun, hpoll, ReadState.age]) _)

/-! ### The notices of a poll -/

/-- EXCHANGE and JOURNAL are flags of their own: the judging of one leaves the other (R159, R160). -/
theorem exchange_of_journal (n : BitVec 6) : (n ||| Notice.journal.bit) &&& Notice.exchange.bit = n &&& Notice.exchange.bit ∧
    (n &&& ~~~Notice.journal.bit) &&& Notice.exchange.bit = n &&& Notice.exchange.bit := by
  revert n
  decide

theorem journal_of_exchange (n : BitVec 6) : (n ||| Notice.exchange.bit) &&& Notice.exchange.bit ≠ 0 ∧
    (n ||| Notice.exchange.bit).getLsbD 0 = n.getLsbD 0 := by
  revert n
  decide

theorem journal_raised_lowered (n : BitVec 6) :
    (n ||| Notice.journal.bit).getLsbD 0 = true ∧ (n &&& ~~~Notice.journal.bit).getLsbD 0 = false := by
  revert n
  decide

theorem State.journalFlag_exchange (s : State) (b : Bool) :
    s.journalFlag b &&& Notice.exchange.bit = s.lrc.notice &&& Notice.exchange.bit := by
  obtain ⟨hraised, hlowered⟩ := exchange_of_journal s.lrc.notice
  unfold State.journalFlag
  split
  · rfl
  · split
    · split
      · rfl
      · exact hraised
    · split
      · rfl
      · exact hlowered

/-- In LEVEL mode JOURNAL shows the count against its threshold (R159). -/
theorem State.journalFlag_level {s : State} {u : Setup} (hu : s.lrc.setup = some u) (hl : u.latch = false) (b : Bool) :
    (s.journalFlag b).getLsbD 0 = true ↔ u.threshold ≤ s.jw.unreleased := by
  obtain ⟨hraised, hlowered⟩ := journal_raised_lowered s.lrc.notice
  by_cases h : u.threshold ≤ s.jw.unreleased
  · have hflag : s.journalFlag b = s.lrc.notice ||| Notice.journal.bit := by simp [State.journalFlag, hu, hl, h]
    rw [hflag, hraised, eq_self_iff_true, true_iff]
    exact h
  · have hflag : s.journalFlag b = s.lrc.notice &&& ~~~Notice.journal.bit := by simp [State.journalFlag, hu, hl, h]
    rw [hflag, hlowered]
    exact ⟨fun hf => (nomatch hf), fun hc => absurd hc h⟩

/-- In LATCH mode JOURNAL is set at a seal alone (R159). -/
theorem State.journalFlag_latch {s : State} {u : Setup} (hu : s.lrc.setup = some u) (hl : u.latch = true) :
    s.journalFlag false = s.lrc.notice := by
  simp [State.journalFlag, hu, hl]

/-! ### The host's counts -/

section Counts

variable {s : State} {u : Setup} {p q : Count}

theorem Intake.judgePosted_of_ahead (x : Intake) (h : u.capacity < (p - x.taken).toNat) :
    x.judgePosted u.capacity p = (x.taken + BitVec.ofNat 32 u.capacity, true) := if_pos h

theorem Intake.judgePosted_of_retreat (x : Intake) (h : ¬u.capacity < (p - x.taken).toNat)
    (hr : (p - x.taken).toNat < (x.fetched - x.taken).toNat) : x.judgePosted u.capacity p = (x.fetched, true) :=
  (if_neg h).trans (if_pos hr)

theorem Intake.judgePosted_of_good (x : Intake) (h : ¬u.capacity < (p - x.taken).toNat)
    (hr : ¬(p - x.taken).toNat < (x.fetched - x.taken).toNat) : x.judgePosted u.capacity p = (p, false) :=
  (if_neg h).trans (if_neg hr)

theorem Journal.judgeReleased_of_fault (j : Journal) (h : (j.sealed - j.released).toNat < (q - j.released).toNat) :
    j.judgeReleased q = (j.sealed, true) := if_pos h

theorem Journal.judgeReleased_of_good (j : Journal) (h : ¬(j.sealed - j.released).toNat < (q - j.released).toNat) :
    j.judgeReleased q = (q, false) := if_neg h

end Counts

/-- Settles O23: the arrival takes the counts that Intake.judgePosted and Journal.judgeReleased give, by their cases, and judges
JOURNAL behind the raise of EXCHANGE. -/
theorem countsAreJudgedAtEachPoll : Obligations.CountsAreJudgedAtEachPoll := by
  unfold Obligations.CountsAreJudgedAtEachPoll
  intro s u h k a hu hrun hpoll hlen p q ahead retreat fault advances
  have hiu := State.pollArrives_iu hu h
  have hlrc := State.pollArrives_lrc hu h
  obtain ⟨hjw, -⟩ := State.pollArrives_blocks hu h
  rw [State.polled_iu] at hiu
  rw [State.polled_jw] at hjw
  have hsetup : (s.polled u h).lrc.setup = some u := by rw [State.polled_lrc, hu]
  have hexchange (hf : ((s.iu.judgePosted u.capacity p).2 || (s.jw.judgeReleased q).2) = true) :
      (s.pollArrives h).lrc.notice &&& Notice.exchange.bit ≠ 0 := by
    obtain ⟨hset, -⟩ := journal_of_exchange s.lrc.notice
    rw [hlrc, State.journalFlag_exchange, State.polled_lrc]
    simpa only [p, q, hf, if_true] using hset
  have hjournal : (s.polled u h).lrc.notice.getLsbD 0 = s.lrc.notice.getLsbD 0 := by
    obtain ⟨-, hstands⟩ := journal_of_exchange s.lrc.notice
    rw [State.polled_lrc]
    split
    · exact hstands
    · rfl
  have hposted {v : Count} {f : Bool} (hj : s.iu.judgePosted u.capacity p = (v, f)) :
      (s.pollArrives h).iu.posted = v ∧ (s.pollArrives h).lrc.causePost = (s.lrc.causePost || f) := by
    rw [hiu, hlrc, State.polled_lrc]
    exact ⟨congrArg Prod.fst hj, congrArg (fun x : Count × Bool => s.lrc.causePost || x.2) hj⟩
  have hreleased {v : Count} {f : Bool} (hj : s.jw.judgeReleased q = (v, f)) :
      (s.pollArrives h).jw.released = v ∧ (s.pollArrives h).lrc.causeRelease = (s.lrc.causeRelease || f) := by
    rw [hjw, hlrc, State.polled_lrc]
    exact ⟨congrArg Prod.fst hj, congrArg (fun x : Count × Bool => s.lrc.causeRelease || x.2) hj⟩
  refine ⟨_, exec_headerPollArrival hrun hpoll hlen, by rw [hiu], by rw [hiu], by rw [hiu], by rw [hiu], fun hp => ?_,
    fun hp hr => ?_, fun hp hr => ?_, by rw [hjw], fun hf => ?_, fun hf => ?_, fun hl => ?_, fun hl => ?_⟩
  · have hj := Intake.judgePosted_of_ahead s.iu hp
    obtain ⟨hvalue, hcause⟩ := hposted hj
    exact ⟨hvalue, by rw [hcause, Bool.or_true], hexchange (by rw [hj, Bool.true_or])⟩
  · have hj := Intake.judgePosted_of_retreat s.iu hp hr
    obtain ⟨hvalue, hcause⟩ := hposted hj
    exact ⟨hvalue, by rw [hcause, Bool.or_true], hexchange (by rw [hj, Bool.true_or])⟩
  · obtain ⟨hvalue, hcause⟩ := hposted (Intake.judgePosted_of_good s.iu hp hr)
    exact ⟨hvalue, by rw [hcause, Bool.or_false]⟩
  · have hj := Journal.judgeReleased_of_fault s.jw hf
    obtain ⟨hvalue, hcause⟩ := hreleased hj
    exact ⟨hvalue, by rw [hcause, Bool.or_true], hexchange (by rw [hj, Bool.or_true])⟩
  · obtain ⟨hvalue, hcause⟩ := hreleased (Journal.judgeReleased_of_good s.jw hf)
    exact ⟨hvalue, by rw [hcause, Bool.or_false]⟩
  · rw [hlrc, hjw, ← s.polled_jw u h]
    exact State.journalFlag_level hsetup hl false
  · rw [hlrc, State.journalFlag_latch hsetup hl]
    exact hjournal

/-! ### The owed poll -/

theorem State.SameIntake.trans {s t u : State} (h : s.SameIntake t) (k : t.SameIntake u) : s.SameIntake u := by
  rw [State.SameIntake, k, h]

theorem State.sealOpen_iu (s : State) : s.sealOpen.iu = s.iu := by
  unfold State.sealOpen State.sealBlock
  split
  · rfl
  · split <;> simp

theorem State.enterHalted_iu (s : State) : s.enterHalted.iu = s.iu := by
  unfold State.enterHalted
  extract_lets pinned _ rebuilt passed
  have hpassed : passed.iu = s.iu := by
    unfold passed
    split
    · exact (State.iu_of_frame rebuilt.placementPass_frame).trans rfl
    · rfl
  rw [State.kick_iu, State.sealOpen_iu]
  exact hpassed

theorem State.linkFault_iu (s : State) : s.linkFault.iu = s.iu := by
  unfold State.linkFault
  dsimp only
  split
  · rw [State.enterHalted_iu, State.raise_iu]
  · exact s.raise_iu .link

/-- Of the intake the Atlas Cache at RESUME changes at most whether the head waits on the lookahead fetch (R103). -/
theorem State.sameIntake_resumeAtlas (s : State) : s.SameIntake s.resumeAtlas := by
  unfold State.resumeAtlas
  extract_lets demandHeld aheadHeld _ freed _ _ released offered
  have hfreed : s.SameIntake freed := by
    unfold freed
    split <;> rfl
  have hreleased : freed.SameIntake released := by
    unfold released
    split <;> rfl
  have hoffered : released.SameIntake offered := by
    unfold offered
    split
    · exact State.sameIntake_offerHead _
    · rfl
  exact ((hfreed.trans hreleased).trans hoffered).trans (State.sameIntake_of_iu (State.candidateSearch_iu _))

/-- A held poll is issued at RESUME, and what follows there leaves it under way (R125, R135). -/
theorem State.enterRunning_poll {s : State} {k : Nat} (h : s.iu.poll = .held k) : s.enterRunning.iu.poll = .underWay 0 0 := by
  have hissued (t : State) (ht : t.iu = s.iu) : t.resumePoll.iu.poll = .underWay 0 0 := by
    simp [State.resumePoll, ht, h]
  have hfetch (t : State) : t.resumeFetch.iu.poll = t.iu.poll := by
    unfold State.resumeFetch
    refine (congrArg Outside.poll (State.startRecordFetch_outside _)).trans ?_
    split <;> rfl
  have hatlas (t : State) : t.resumeAtlas.iu.poll = t.iu.poll := by rw [t.sameIntake_resumeAtlas]
  unfold State.enterRunning
  extract_lets _ rebuilt
  rw [State.kick_iu]
  exact ((hatlas _).trans (hfetch _)).trans (hissued rebuilt rfl)

theorem exec_prompt {s : State} (hrun : s.inRun = true) : exec .prompt s = .next s.prompt :=
  congrArg Host.Outcome.next (if_pos hrun)

/-- A poll under way that fails is held, and prompt owed is cleared (R122, R125). -/
theorem exec_headerPollError {s : State} {k a : Nat} (h : s.iu.poll = .underWay k a) :
    ∃ t, exec (.linkReadError .headerPoll) s = .next t ∧ t.iu = { s.iu with poll := .held k, promptOwed := false } := by
  have hiu := State.iu_of_frame s.checkContexts_frame
  have hfails : s.failAt .headerPoll 0 = s.checkContexts.holdPoll.linkFault := by
    simp [State.failAt, State.ageOf, h, ReadState.age, State.readFails]
  refine ⟨_, congrArg Host.Outcome.next hfails, ?_⟩
  rw [State.linkFault_iu, State.holdPoll, State.setIu_iu, hiu, h]
  rfl

/-- Settles O15: PROMPT by the state of the poll, and the poll and prompt owed after each end of a poll. -/
theorem promptIssuesOrOwesOnePoll : Obligations.PromptIssuesOrOwesOnePoll := by
  unfold Obligations.PromptIssuesOrOwesOnePoll
  intro s hrun
  have hprompt := exec_prompt hrun
  refine ⟨fun hidle => ?_, fun k a hp => ?_, fun k hp => ?_, fun k a h u hp hu hlen => ?_, fun k a hp => ?_,
    ⟨_, rfl, ?_⟩, fun hhalted => ?_, fun k hhalted hp => ?_⟩
  · have hissued : s.prompt = s.issuePoll := by simp [State.prompt, hidle]
    exact ⟨_, hprompt.trans (congrArg _ hissued), by simp, fun b hb => ⟨_, s.issuePoll_out hb⟩⟩
  · have howed : s.prompt = s.setIu { s.iu with promptOwed := true } := by simp [State.prompt, hp]
    exact hprompt.trans (congrArg _ howed)
  · have hheld : s.prompt = s := by simp [State.prompt, hp]
    exact hprompt.trans (congrArg _ hheld)
  · have hiu := State.pollArrives_iu hu h
    rw [State.polled_iu] at hiu
    exact ⟨_, exec_headerPollArrival hrun hp hlen, by rw [hiu], by rw [hiu], by rw [hiu]⟩
  · obtain ⟨t, hexec, hiu⟩ := exec_headerPollError hp
    exact ⟨t, hexec, by rw [hiu], by rw [hiu]⟩
  · have hiu : (s.resetAll false true).iu = Intake.empty := State.kick_iu _
    rw [hiu]
    exact ⟨rfl, rfl⟩
  · have hiu : s.clearRun.iu = Intake.empty := State.kick_iu _
    refine ⟨s.clearRun, congrArg Host.Outcome.next (if_pos (by simp [hhalted])), ?_⟩
    rw [hiu]
    exact ⟨rfl, rfl⟩
  · refine ⟨s.checkContexts.enterRunning, congrArg Host.Outcome.next (if_pos (by simp [hhalted])), ?_⟩
    exact State.enterRunning_poll (by rw [State.iu_of_frame s.checkContexts_frame, hp])

end Sys2Proof.Machine
end

section
/-! Proofs of the family of 07 (task intake and qualifiers), fifth part: voided reads (O21), the arrival of a record fetch with what
it sets off (O24), and what every arrival of a read leaves (O28). -/

namespace Sys2Proof.Machine

/-! ### Voided reads -/

section Voided

variable {s : State} {place : Nat}

theorem State.discardVoided_of_none (h : s.lrc.voided[place]? = none) : s.discardVoided place = s.forget place := by
  have herase : s.lrc.voided.eraseIdx place = s.lrc.voided :=
    List.eraseIdx_of_length_le (List.getElem?_eq_none_iff.1 h)
  simp only [State.discardVoided, h]
  rw [State.forget, herase]
  rfl

/-- A read that is none of the Atlas Cache's is forgotten and no more (R120). -/
theorem State.discardVoided_of_other (hd : s.lrc.voided[place]? ≠ some .demand) (hl : s.lrc.voided[place]? ≠ some .lookahead) :
    s.discardVoided place = s.forget place := by
  cases hv : s.lrc.voided[place]? with
  | none => exact State.discardVoided_of_none hv
  | some v =>
    simp only [State.discardVoided, hv]
    cases v with
    | demand => exact absurd hv hd
    | lookahead => exact absurd hv hl
    | _ => rfl

/-- The arrival of an atlas fetch is an event of the candidate search (R101, R102). -/
theorem State.discardVoided_of_atlas (hi : s.Intact)
    (h : s.lrc.voided[place]? = some .demand ∨ s.lrc.voided[place]? = some .lookahead) :
    s.discardVoided place = (s.forget place).candidateSearch := by
  obtain ⟨-, hcontexts, -⟩ := hi
  have hforget : s.checkContexts.forget place = s.forget place := by rw [s.checkContexts_of_intact hcontexts]
  obtain hv | hv := h
  · simp only [State.discardVoided, hv, hforget]
  · simp only [State.discardVoided, hv, hforget]

end Voided

/-- A candidate search that starts a fetch does so in RUNNING with no lookahead fetch under way or held (R101). -/
theorem State.SoundCache.candidateSearch_starts {s : State} (h : s.SoundCache) : s.candidateSearch = s ∨
    (s.lrc.run = .running ∧ s.ac.ahead = .idle ∧ ∃ slot, s.candidateSearch = s.startAhead slot) := by
  unfold State.candidateSearch
  split
  · next hc =>
    simp only [Bool.and_eq_true, beq_iff_eq] at hc
    obtain ⟨⟨hrun, hidle⟩, -⟩ := hc
    exact (h.seekCandidate_cases _).imp_right fun hslot => ⟨hrun, hidle, hslot⟩
  · exact .inl rfl

/-- Settles O21: the read is forgotten, and only that of the Atlas Cache lets a lookahead fetch start. -/
theorem voidedReadsAreDiscardedOnArrival : Obligations.VoidedReadsAreDiscardedOnArrival := by
  unfold Obligations.VoidedReadsAreDiscardedOnArrival
  intro s place hi hshape
  refine ⟨_, rfl, ?_⟩
  by_cases hother : s.lrc.voided[place]? ≠ some .demand ∧ s.lrc.voided[place]? ≠ some .lookahead
  · obtain ⟨hd, hl⟩ := hother
    rw [State.discardVoided_of_other hd hl]
    exact ⟨rfl, rfl, rfl, rfl, rfl, rfl, rfl, rfl, rfl, rfl, .inl rfl, fun _ => ⟨rfl, rfl⟩⟩
  · have hatlas : s.lrc.voided[place]? = some .demand ∨ s.lrc.voided[place]? = some .lookahead := by
      simpa only [ne_eq, not_and_or, not_not] using hother
    rw [State.discardVoided_of_atlas hi hatlas]
    have hsound : (s.forget place).SoundCache := (hi.soundCache hshape).of_ways rfl rfl
    obtain heq | ⟨hrun, hidle, slot, heq⟩ := hsound.candidateSearch_starts <;> rw [heq]
    · exact ⟨rfl, rfl, rfl, rfl, rfl, rfl, rfl, rfl, rfl, rfl, .inl rfl, fun h => absurd h hother⟩
    · have hac := (s.forget place).startAhead_ac slot
      refine ⟨?_, State.startAhead_iu _ slot, ?_, ?_, ?_, ?_, ?_, by rw [hac]; rfl, by rw [hac]; rfl, by rw [hac]; rfl,
        .inr ⟨hrun, hidle, slot, by rw [hac]⟩, fun h => absurd h hother⟩
      all_goals simp [State.startAhead, State.readEntry, State.forget]

/-! ### The arrival of a record fetch -/

/-- The records of a fetch are its data cut at every 32 bytes, in stream order (R127). -/
theorem taskRecords_eq (n : Nat) (data : List Byte) :
    taskRecords n data = (List.range n).map fun k => taskRecord ((data.drop (32 * k)).take 32) := by
  induction n generalizing data with
  | zero => rfl
  | succ n ih =>
    rw [taskRecords, ih, List.range_succ_eq_map, List.map_cons, List.map_map]
    simp [Function.comp_def, Nat.mul_succ, Nat.add_comm]

/-- The records appended, the fetch no longer under way (R127). -/
def State.queued (s : State) (n : Nat) (data : List Byte) : State :=
  s.setIu { s.iu with queue := s.iu.queue ++ taskRecords n data, fetch := .idle }

/-- The records appended, and a record that became the head offered (R127, R128). -/
def State.offered (s : State) (n : Nat) (data : List Byte) : State :=
  if s.iu.queue.isEmpty then (s.queued n data).offerHead else s.queued n data

theorem State.fetchArrives_eq (s : State) (n : Nat) (data : List Byte) : s.fetchArrives n data =
    (if (s.offered n data).headReady then s.offered n data else (s.offered n data).startRecordFetch).candidateSearch := rfl

section Offered

variable (s : State) (n : Nat) (data : List Byte)

theorem State.offered_outside : (s.offered n data).outside = (s.queued n data).outside := by
  unfold State.offered
  split
  · exact State.offerHead_outside _
  · rfl

theorem State.sameIntake_offered : (s.queued n data).SameIntake (s.offered n data) := by
  unfold State.offered
  split
  · exact State.sameIntake_offerHead _
  · rfl

theorem State.fetchArrives_outside : (s.fetchArrives n data).outside = (s.queued n data).outside := by
  rw [State.fetchArrives_eq, State.candidateSearch_outside]
  split
  · exact s.offered_outside n data
  · rw [State.startRecordFetch_outside, State.offered_outside]

theorem State.offered_fetch : (s.offered n data).iu.fetch = .idle := by rw [s.sameIntake_offered n data]; rfl

theorem State.offered_fetched : (s.offered n data).iu.fetched = s.iu.fetched := by rw [s.sameIntake_offered n data]; rfl

theorem State.fetchArrives_queue : (s.fetchArrives n data).iu.queue = s.iu.queue ++ taskRecords n data :=
  State.queue_of_outside (s.fetchArrives_outside n data)

theorem State.offered_queue : (s.offered n data).iu.queue = (s.fetchArrives n data).iu.queue := by
  rw [State.queue_of_outside (s.offered_outside n data), State.queue_of_outside (s.fetchArrives_outside n data)]

/-- The next fetch is left to the consumption of a head that is ready (log 47). -/
theorem State.fetchArrives_of_ready (h : (s.offered n data).headReady = true) :
    (s.fetchArrives n data).iu.fetch = .idle ∧ (s.fetchArrives n data).iu.fetched = s.iu.fetched := by
  rw [State.fetchArrives_eq, if_pos h, State.candidateSearch_iu]
  exact ⟨s.offered_fetch n data, s.offered_fetched n data⟩

/-- A head that waits lets the next fetch start at once (R126; log 47). -/
theorem State.fetchArrives_of_waits (h : ¬(s.offered n data).headReady = true) :
    (s.fetchArrives n data).iu = (s.offered n data).startRecordFetch.iu := by
  rw [State.fetchArrives_eq, if_neg h, State.candidateSearch_iu]

/-- In HALTED no fetch starts (R126, R135). -/
theorem State.fetchArrives_of_halted (h : s.lrc.run = .halted) :
    (s.fetchArrives n data).iu.fetch = .idle ∧ (s.fetchArrives n data).iu.fetched = s.iu.fetched := by
  by_cases hready : (s.offered n data).headReady = true
  · exact s.fetchArrives_of_ready n data hready
  · have hrun : (s.offered n data).lrc.run = .halted := (State.run_of_outside (s.offered_outside n data)).trans h
    have hstands : (s.offered n data).startRecordFetch = s.offered n data :=
      State.startRecordFetch_of_not fun ⟨hrunning, _⟩ => nomatch hrun.symm.trans hrunning
    rw [s.fetchArrives_of_waits n data hready, hstands]
    exact ⟨s.offered_fetch n data, s.offered_fetched n data⟩

end Offered

/-! ### Whether the head waits -/

section HeadReady

variable {s : State} {r : TaskRecord} (hhead : s.head = some r)
include hhead

theorem State.headReady_of_qualifier (h : r.task = .qualifier) : s.headReady = true ↔ 2 ≤ s.iu.queue.length := by
  simp [State.headReady, hhead, h]

theorem State.headReady_of_pick (h : r.task = .pick) :
    s.headReady = true ↔ s.headWaits = false ∧ s.lowestFree.isSome = true := by
  simp [State.headReady, hhead, h]

theorem State.headReady_of_directive (hp : r.task ≠ .pick) (hq : r.task ≠ .qualifier) :
    s.headReady = true ↔ 0 < s.jw.spare ∧ (r.task = .fence → s.pm.fences.length < 4) := by
  unfold State.headReady
  rw [hhead]
  dsimp only
  cases h : r.task <;> simp_all

end HeadReady

/-- An entry is FREE unless all 256 hold a pick (R1). -/
theorem State.lowestFree_isSome_iff {s : State} (hs : s.pm.entries.length = 256) :
    s.lowestFree.isSome = true ↔ ¬∀ i < 256, s.pickAt i ≠ none := by
  constructor
  · intro h hfull
    rw [State.lowestFree_eq_none (hs ▸ hfull)] at h
    cases h
  · intro h
    have hex : ∃ i, i < 256 ∧ s.pickAt i = none := by simpa using h
    classical
    obtain ⟨hlt, hfree⟩ := Nat.find_spec hex
    have hlow : ∀ j < Nat.find hex, s.pickAt j ≠ none := fun j hj hnone =>
      Nat.find_min hex hj ⟨Nat.lt_trans hj hlt, hnone⟩
    rw [State.lowestFree_eq_some (hs.symm ▸ hlt) hfree hlow]
    rfl

/-- Whether an atlas fetch is under way or held for the head (R96). -/
theorem State.headWaits_iff (s : State) : s.headWaits = true ↔ s.ac.demand ≠ .idle ∨ s.iu.onLookahead = true := by
  simp [State.headWaits]

theorem State.headWaits_demand (s : State) (slot : Nat) : (s.demand slot).headWaits = true := by
  rw [State.headWaits_iff]
  cases h : s.ac.ahead.reads slot
  · rw [State.demand_of_none h, State.readEntry_ac]
    exact .inl (by simp)
  · rw [State.demand_of_ahead h]
    exact .inr rfl

/-- An offer on a sound cache leaves a PICK at the head waiting for a fetch when it waited before, or when its fields are needed and
neither a way nor the lookahead holds them (R96, R98, R100). -/
theorem State.SoundCache.headWaits_offerHead {s : State} {r : TaskRecord} (h : s.SoundCache) (hh : s.HeadIs r .pick) :
    s.offerHead.headWaits = true ↔ s.headWaits = true ∨ (s.needsFields r.slot.toNat = true ∧ s.wayOf r.slot.toNat = none ∧
      ∀ x, s.ac.lookahead = some x → x.slot ≠ r.slot.toNat) := by
  obtain ⟨hrun, hhead, htask⟩ := id hh
  by_cases hasked : s.headWaits = false ∧ s.needsFields r.slot.toNat = true
  · obtain ⟨hw, hn⟩ := hasked
    rw [State.offerHead_of_asked hh hw hn]
    cases hway : s.wayOf r.slot.toNat with
    | some i =>
      have hstands : (s.setLru (setOf r.slot.toNat) (i % 2 == 0)).headWaits = s.headWaits := rfl
      rw [State.askAtlas_of_found (h.lookup_of_way hway), hstands]
      simp [hw]
    | none =>
      by_cases hx : ∀ x, s.ac.lookahead = some x → x.slot ≠ r.slot.toNat
      · rw [State.askAtlas_of_miss (h.lookup_of_miss hway hx)]
        exact iff_of_true (State.headWaits_demand _ _) (.inr ⟨hn, rfl, hx⟩)
      · obtain ⟨x, hlook, hslot⟩ : ∃ x, s.ac.lookahead = some x ∧ x.slot = r.slot.toNat := by simpa using hx
        have hstands : (s.promote r.slot.toNat x.fields).headWaits = s.headWaits := rfl
        rw [State.askAtlas_of_found (h.lookup_of_lookahead hway hlook hslot), hstands]
        simp [hw, hlook, hslot]
  · have hstands : s.offerHead = s := by
      unfold State.offerHead
      rw [hhead]
      exact if_neg (by
        intro hc
        simp only [Bool.and_eq_true, Bool.not_eq_true'] at hc
        obtain ⟨⟨-, hw⟩, hn⟩ := hc
        exact hasked ⟨hw, hn⟩)
    rw [hstands]
    cases hw : s.headWaits
    · simp [hw] at hasked
      simp [hasked]
    · simp

/-! ### The record fetch and its arrival (O24) -/

theorem count_sub_pos {a b : Count} : 1 ≤ (a - b).toNat ↔ a ≠ b := by
  constructor
  · rintro h rfl
    simp at h
  · intro h
    have hne : (a - b).toNat ≠ 0 := fun hz =>
      h (BitVec.sub_eq_iff_eq_add.1 (BitVec.eq_of_toNat_eq hz) |>.trans (BitVec.zero_add b))
    omega

theorem exec_recordFetchArrival {s : State} {data : List Byte} {n age : Nat} (hi : s.Intact) (hrun : s.inRun = true)
    (hf : s.iu.fetch = .underWay n age) (hlen : data.length = 32 * n) (hlow : 1 ≤ n) (hhigh : n ≤ 8) :
    exec (.recordFetchArrival data) s = .next (s.fetchArrives n data) := by
  obtain ⟨-, hcontexts, -⟩ := hi
  have harises : (s.inRun && s.iu.fetch.age.isSome && data.length == 32 * s.iu.fetch.what) = true := by
    simp [hrun, hf, ReadState.age, ReadState.what, hlen]
  have hwf : (Instr.recordFetchArrival data).wf = true := by
    simp only [Instr.wf, hlen, Bool.and_eq_true, beq_iff_eq, decide_eq_true_eq]
    omega
  have hexec : exec (.recordFetchArrival data) s = wellFormed (.recordFetchArrival data)
      (attempt (s.inRun && s.iu.fetch.age.isSome && data.length == 32 * s.iu.fetch.what) s
        (s.checkContexts.fetchArrives s.iu.fetch.what data)) := rfl
  rw [hexec, wellFormed_of_wf hwf, attempt_of_arises harises, s.checkContexts_of_intact hcontexts, hf]
  rfl

section Arrival

variable {s : State} {r : TaskRecord} (hi : s.Intact) (hshape : s.Shape) (hrun : s.lrc.run = .running) (n : Nat) (data : List Byte)
  (hhead : (s.fetchArrives n data).iu.queue.head? = some r)
include hhead

omit hi hshape in
theorem State.offered_head : (s.offered n data).head = some r := by
  rw [State.head, State.offered_queue, hhead]

include hi hshape hrun in
/-- A PICK at the head waits for a fetch once it has been offered, as the statement says it (R96, R128). -/
theorem State.headWaits_offered (htask : r.task = .pick) : (s.offered n data).headWaits = true ↔
    (s.ac.demand ≠ .idle ∨ s.iu.onLookahead = true) ∨ (s.iu.queue = [] ∧ s.needsFields r.slot.toNat = true ∧
      s.wayOf r.slot.toNat = none ∧ ∀ x, s.ac.lookahead = some x → x.slot ≠ r.slot.toNat) := by
  have hwaits : (s.queued n data).headWaits = true ↔ s.ac.demand ≠ .idle ∨ s.iu.onLookahead = true := State.headWaits_iff _
  rw [← hwaits]
  unfold State.offered
  split
  · next hempty =>
    have hsound : (s.queued n data).SoundCache := (hi.soundCache hshape).of_ways rfl rfl
    have hq : s.iu.queue = [] := List.isEmpty_iff.1 hempty
    have hh : (s.queued n data).HeadIs r .pick :=
      ⟨by simp [State.queued, State.inRun, hrun], by rw [← hhead, State.fetchArrives_queue]; rfl, htask⟩
    rw [hsound.headWaits_offerHead hh]
    simp only [hq, true_and]
    rfl
  · next hsome =>
    have hq : s.iu.queue ≠ [] := fun hq => hsome (List.isEmpty_iff.2 hq)
    simp [hq]

/-- A head that need not wait is left to its consumption, for every kind of record (R128; log 47). -/
theorem State.headReady_offered_of_qualifier (htask : r.task = .qualifier) :
    (s.offered n data).headReady = true ↔ 2 ≤ (s.fetchArrives n data).iu.queue.length := by
  rw [State.headReady_of_qualifier (s.offered_head n data hhead) htask, State.offered_queue]

theorem State.headReady_offered_of_directive (hp : r.task ≠ .pick) (hq : r.task ≠ .qualifier) :
    (s.offered n data).headReady = true ↔ 0 < s.jw.spare ∧ (r.task = .fence → s.pm.fences.length < 4) := by
  have hout := s.offered_outside n data
  rw [State.headReady_of_directive (s.offered_head n data hhead) hp hq, State.jw_of_outside hout, State.pm_of_outside hout]
  rfl

include hi hshape hrun in
theorem State.headReady_offered_of_pick (htask : r.task = .pick) : (s.offered n data).headReady = true ↔
    ¬((s.ac.demand ≠ .idle ∨ s.iu.onLookahead = true) ∨ (s.iu.queue = [] ∧ s.needsFields r.slot.toNat = true ∧
      s.wayOf r.slot.toNat = none ∧ ∀ x, s.ac.lookahead = some x → x.slot ≠ r.slot.toNat)) ∧
      ¬∀ i < 256, s.pickAt i ≠ none := by
  obtain ⟨hlen, -⟩ := id hshape
  have hpm : (s.offered n data).pm = s.pm := (State.pm_of_outside (s.offered_outside n data)).trans rfl
  have hpick := State.pickAt_of_pm hpm
  rw [State.headReady_of_pick (s.offered_head n data hhead) htask, ← State.headWaits_offered hi hshape hrun n data hhead htask,
    Bool.not_eq_true, State.lowestFree_isSome_iff (hpm.symm ▸ hlen)]
  simp only [hpick]

end Arrival

/-- The fetch that starts behind an arrival reads what R126 gives, on the queue as the arrival leaves it. -/
theorem State.fetchArrives_starts {s : State} {u : Setup} (hu : s.lrc.setup = some u) (hrun : s.lrc.run = .running) (n : Nat)
    (data : List Byte) (hw : ¬(s.offered n data).headReady = true) (hroom : (s.fetchArrives n data).iu.queue.length < 8)
    (hposted : s.iu.posted ≠ s.iu.fetched) :
    let k := min (8 - (s.fetchArrives n data).iu.queue.length)
      (min (s.iu.posted - s.iu.fetched).toNat (u.capacity - s.iu.fetched.toNat % u.capacity))
    (s.fetchArrives n data).iu.fetch = .underWay k 0 ∧
      (s.fetchArrives n data).iu.fetched = s.iu.fetched + BitVec.ofNat 32 k := by
  intro k
  have hout := s.offered_outside n data
  have hp : (s.offered n data).iu.posted = s.iu.posted := (State.posted_of_outside hout).trans rfl
  have hk : (s.offered n data).fetchCount u = k := by
    rw [State.fetchCount, State.offered_queue, hp, State.offered_fetched]
  have hstarts : (s.offered n data).fetchStarts :=
    ⟨(State.run_of_outside hout).trans hrun, s.offered_fetch n data, by rwa [State.offered_queue],
      by rwa [hp, State.offered_fetched]⟩
  rw [s.fetchArrives_of_waits n data hw, State.startRecordFetch_of_starts ((State.setup_of_outside hout).trans hu) hstarts, hk,
    State.offered_fetched]
  exact ⟨rfl, rfl⟩

/-- Settles O24: the fetch by when it starts, the arrival by whether the head that it leaves is ready. -/
theorem recordsAreFetchedIntoTheQueue : Obligations.RecordsAreFetchedIntoTheQueue := by
  unfold Obligations.RecordsAreFetchedIntoTheQueue
  refine ⟨fun s u b hu hb => ?_, fun s data n age hi hinRun hf hlen hlow hhigh => ?_⟩
  · intro starts k
    have hiff : starts ↔ s.fetchStarts := by
      unfold starts State.fetchStarts
      rw [count_sub_pos]
    refine ⟨fun h => ?_, fun h => State.startRecordFetch_of_not (mt hiff.2 h)⟩
    rw [State.startRecordFetch_of_starts hu (hiff.1 h), s.linkRead_of_base b hb]
    rfl
  · have hout := s.fetchArrives_outside n data
    refine ⟨_, exec_recordFetchArrival hi hinRun hf hlen hlow hhigh, ?_, (State.taken_of_outside hout).trans rfl,
      (State.posted_of_outside hout).trans rfl, (State.qualifiers_of_outside hout).trans rfl, s.fetchArrives_of_halted n data,
      fun u r hu hrun hhead => ?_, (State.pm_of_outside hout).trans rfl, (State.contexts_of_outside hout).trans rfl,
      (State.strings_of_outside hout).trans rfl, (State.jw_of_outside hout).trans rfl,
      (lrc_of_control (congrArg Outside.control hout)).trans rfl⟩
    · rw [State.fetchArrives_queue, taskRecords_eq]
    · intro directive room fetching misses full ready waits k
      refine ⟨fun h => s.fetchArrives_of_ready n data ?_, fun hshape h hroom hposted =>
        State.fetchArrives_starts hu hrun n data ?_ hroom hposted⟩
      · obtain ⟨htask, htwo⟩ | ⟨⟨hp, hq⟩, hspare⟩ | ⟨hshape, htask, hfetching, hmisses, hfull⟩ := h
        · exact (State.headReady_offered_of_qualifier n data hhead htask).2 htwo
        · exact (State.headReady_offered_of_directive n data hhead hp hq).2 hspare
        · exact (State.headReady_offered_of_pick hi hshape hrun n data hhead htask).2
            ⟨fun hwaits => hwaits.elim hfetching hmisses, hfull⟩
      · obtain ⟨htask, hone⟩ | ⟨⟨hp, hq⟩, hspare⟩ | ⟨htask, hwaits⟩ := h
        · rw [State.headReady_offered_of_qualifier n data hhead htask]
          exact Nat.not_le.2 hone
        · rw [State.headReady_offered_of_directive n data hhead hp hq]
          exact hspare
        · rw [State.headReady_offered_of_pick hi hshape hrun n data hhead htask]
          rintro ⟨hnone, hfree⟩
          obtain hfetching | hmisses | hfull := hwaits
          · exact hnone (.inl hfetching)
          · exact hnone (.inr hmisses)
          · exact hfree hfull

/-! ### The frame of the arrivals -/

/-- What the arrival of a read, or the issue of a poll, leaves: the tables, the strings, TAKEN and the pending set, the journal but
for RELEASED, run control but for NOTICE, its causes and the voided reads. -/
structure State.LeavesTables (s t : State) : Prop where
  pm : t.pm = s.pm
  contexts : t.contexts = s.contexts
  strings : t.strings = s.strings
  taken : t.iu.taken = s.iu.taken
  qualifiers : t.iu.qualifiers = s.iu.qualifiers
  jw : t.jw = { s.jw with released := t.jw.released }
  lrc : t.lrc = { s.lrc with
    notice := t.lrc.notice, causePost := t.lrc.causePost, causeRelease := t.lrc.causeRelease, voided := t.lrc.voided }

theorem State.leavesTables_refl (s : State) : s.LeavesTables s := ⟨rfl, rfl, rfl, rfl, rfl, rfl, rfl⟩

theorem State.LeavesTables.trans {s t u : State} (h : s.LeavesTables t) (g : t.LeavesTables u) : s.LeavesTables u where
  pm := g.pm.trans h.pm
  contexts := g.contexts.trans h.contexts
  strings := g.strings.trans h.strings
  taken := g.taken.trans h.taken
  qualifiers := g.qualifiers.trans h.qualifiers
  jw := by rw [g.jw, h.jw]
  lrc := by rw [g.lrc, h.lrc]

theorem State.leavesTables_of_outside {s t : State} (h : t.outside = s.outside) : s.LeavesTables t where
  pm := State.pm_of_outside h
  contexts := State.contexts_of_outside h
  strings := State.strings_of_outside h
  taken := State.taken_of_outside h
  qualifiers := State.qualifiers_of_outside h
  jw := by rw [State.jw_of_outside h]
  lrc := by
    have hlrc := lrc_of_control (congrArg Outside.control h)
    rw [hlrc]

theorem State.leavesTables_pollArrives (s : State) (hostLine : List Byte) : s.LeavesTables (s.pollArrives hostLine) := by
  cases hu : s.lrc.setup with
  | none =>
    have hstands : s.pollArrives hostLine = s := by simp only [State.pollArrives, hu]
    rw [hstands]
    exact s.leavesTables_refl
  | some u =>
    have hiu := State.pollArrives_iu hu hostLine
    have hlrc := State.pollArrives_lrc hu hostLine
    obtain ⟨hjw, hpm, hcontexts, hstrings⟩ := State.pollArrives_blocks hu hostLine
    rw [State.polled_iu] at hiu
    rw [State.polled_lrc] at hlrc
    rw [State.polled_jw] at hjw
    exact ⟨hpm, hcontexts, hstrings, by rw [hiu], by rw [hiu], by rw [hjw], by rw [hlrc]⟩

/-- What arrives goes into the queue, and the rest of the arrival lies in the cache and the fetch (R126, R127). -/
theorem State.leavesTables_fetchArrives (s : State) (n : Nat) (data : List Byte) : s.LeavesTables (s.fetchArrives n data) :=
  have hqueued : s.LeavesTables (s.queued n data) := ⟨rfl, rfl, rfl, rfl, rfl, rfl, rfl⟩
  hqueued.trans (State.leavesTables_of_outside (s.fetchArrives_outside n data))

theorem State.leavesTables_candidateSearch (s : State) : s.LeavesTables s.candidateSearch :=
  State.leavesTables_of_outside s.candidateSearch_outside

theorem State.leavesTables_demandArrives (s : State) (slot : Nat) (f : AtlasFields) : s.LeavesTables (s.demandArrives slot f) :=
  have hoffer : s.LeavesTables (s.demanded slot f).offerHead :=
    State.leavesTables_of_outside ((State.offerHead_outside _).trans (State.demanded_outside f))
  hoffer.trans (State.leavesTables_candidateSearch _)

theorem State.leavesTables_aheadArrives (s : State) (slot : Nat) (f : AtlasFields) : s.LeavesTables (s.aheadArrives slot f) := by
  cases hw : s.iu.onLookahead with
  | false =>
    rw [State.aheadArrives_of_unawaited f hw]
    exact (State.leavesTables_of_outside (State.filled_outside f)).trans (State.leavesTables_candidateSearch _)
  | true =>
    have heq : s.aheadArrives slot f = (s.filledForHead slot f).offerHead.candidateSearch :=
      congrArg State.candidateSearch (if_pos hw)
    rw [heq]
    exact (State.leavesTables_of_outside ((State.offerHead_outside _).trans (State.filledForHead_outside f))).trans
      (State.leavesTables_candidateSearch _)

theorem State.leavesTables_discardVoided {s : State} (hi : s.Intact) (place : Nat) : s.LeavesTables (s.discardVoided place) := by
  have hforget : s.LeavesTables (s.forget place) := ⟨rfl, rfl, rfl, rfl, rfl, rfl, rfl⟩
  by_cases hother : s.lrc.voided[place]? ≠ some .demand ∧ s.lrc.voided[place]? ≠ some .lookahead
  · obtain ⟨hd, hl⟩ := hother
    rwa [State.discardVoided_of_other hd hl]
  · have hatlas : s.lrc.voided[place]? = some .demand ∨ s.lrc.voided[place]? = some .lookahead := by
      simpa only [ne_eq, not_and_or, not_not] using hother
    rw [State.discardVoided_of_atlas hi hatlas]
    exact hforget.trans (State.leavesTables_candidateSearch _)

theorem State.leavesTables_issuePoll (s : State) : s.LeavesTables s.issuePoll where
  pm := s.issuePoll_pm
  contexts := s.issuePoll_contexts
  strings := s.issuePoll_strings
  taken := by rw [State.issuePoll_iu]
  qualifiers := by rw [State.issuePoll_iu]
  jw := by rw [State.issuePoll_jw]
  lrc := by rw [State.issuePoll_lrc]

/-- The next state that a command answers, where it answers one, leaves the tables of `s`. -/
def State.AnswersTables (s : State) (r : Result) : Prop := ∀ t, r = .next t → s.LeavesTables t

theorem State.answersTables_next {s t : State} (h : s.LeavesTables t) : s.AnswersTables (.next t) := by
  rintro u ⟨⟩
  exact h

theorem State.answersTables_attempt {s t : State} (b : Bool) (h : s.LeavesTables t) : s.AnswersTables (attempt b s t) := by
  cases b
  · exact State.answersTables_next s.leavesTables_refl
  · exact State.answersTables_next h

theorem State.answersTables_wellFormed {s : State} {r : Result} (i : Instr) (h : s.AnswersTables r) :
    s.AnswersTables (wellFormed i r) := by
  unfold wellFormed
  split
  · exact h
  · exact fun u hu => nomatch hu

/-- Settles O28: each arrival, and the issue of a poll, leaves the tables. -/
theorem readArrivalsLeaveTheTablesAlone : Obligations.ReadArrivalsLeaveTheTablesAlone := by
  unfold Obligations.ReadArrivalsLeaveTheTablesAlone
  intro c s t hi _ hc ht
  obtain ⟨-, hcontexts, -⟩ := id hi
  have hchecked := s.checkContexts_of_intact hcontexts
  suffices hanswer : s.AnswersTables (exec c s) by
    obtain ⟨hpm, hctx, hstrings, htaken, hqualifiers, hjw, hlrc⟩ := hanswer t ht
    refine ⟨hpm, hctx, hstrings, htaken, hqualifiers, hjw, ?_, ?_, ?_, ?_, ?_, ?_, ?_, ?_⟩ <;> rw [hlrc]
  obtain ⟨h, rfl⟩ | ⟨d, rfl⟩ | ⟨e, rfl⟩ | ⟨e, rfl⟩ | ⟨p, rfl⟩ | rfl := hc
  · exact State.answersTables_wellFormed _ (State.answersTables_attempt _ (s.leavesTables_pollArrives h))
  · refine State.answersTables_wellFormed _ (State.answersTables_attempt _ ?_)
    exact hchecked.symm ▸ s.leavesTables_fetchArrives _ d
  · refine State.answersTables_wellFormed _ (State.answersTables_attempt _ ?_)
    exact hchecked.symm ▸ s.leavesTables_demandArrives _ _
  · refine State.answersTables_wellFormed _ (State.answersTables_attempt _ ?_)
    exact hchecked.symm ▸ s.leavesTables_aheadArrives _ _
  · exact State.answersTables_next (State.leavesTables_discardVoided hi p)
  · exact State.answersTables_attempt _ s.leavesTables_issuePoll

end Sys2Proof.Machine
end

section
/-! Proofs of the family of 08 (directives), first part: a directive that waits, is absent or is taken, and those that change no table
(O33). -/

namespace Sys2Proof.Machine

/-! ### A directive by what stands at the head -/

/-- The commands that take a directive, or a record of unknown kind, from the head, each with the kind it takes. -/
def directives : List (Instr × TaskKind) :=
  [(.cancel, .cancel), (.amend, .amend), (.laneSetup, .laneSetup), (.atlasDrop, .atlasDrop), (.fence, .fence),
    (.lightTest, .lightTest), (.census, .census), (.skip, .skip), (.unknownKind, .unknown)]

/-- Whether a directive of a kind has its own room: a FENCE needs a place on the fence list (R145). -/
def State.roomFor (s : State) (k : TaskKind) : Bool := k != .fence || decide (s.pm.fences.length < 4)

/-- Each of these commands is a directive with its own room (R136). -/
theorem exec_directive {c : Instr} {k : TaskKind} (h : (c, k) ∈ directives) (s : State) :
    ∃ act, exec c s = .next (s.directive k (s.roomFor k) act) := by
  simp only [directives, List.mem_cons, Prod.mk.injEq, List.not_mem_nil, or_false] at h
  obtain ⟨rfl, rfl⟩ | ⟨rfl, rfl⟩ | ⟨rfl, rfl⟩ | ⟨rfl, rfl⟩ | ⟨rfl, rfl⟩ | ⟨rfl, rfl⟩ | ⟨rfl, rfl⟩ | ⟨rfl, rfl⟩ | ⟨rfl, rfl⟩ := h
  all_goals exact ⟨_, rfl⟩

section Head

variable {s : State} {k : TaskKind} {room : Bool} (act : State → TaskRecord → State)

/-- Without a record of the kind at the head nothing changes (log 1). -/
theorem State.directive_of_absent (h : ∀ r, ¬s.HeadIs r k) : s.directive k room act = s := by
  cases hhead : s.head with
  | none => simp only [State.directive, hhead]
  | some r =>
    have hk : ¬s.headIs k = true := by
      simp only [State.headIs, hhead, Option.map_some, Option.getD_some, Bool.and_eq_true, beq_iff_eq]
      exact fun ⟨hrun, htask⟩ => h r ⟨hrun, hhead, htask⟩
    simp only [State.directive, hhead, if_neg hk]

/-- A directive that has to wait lets a record fetch start (R126, R136; log 47). -/
theorem State.directive_of_waiting {r : TaskRecord} (h : s.HeadIs r k) (hw : s.jw.spare = 0 ∨ room = false) :
    s.directive k room act = s.startRecordFetch := by
  have hk := State.headIs_of_HeadIs h
  obtain ⟨-, hhead, -⟩ := h
  have hnot : ¬(decide (0 < s.jw.spare) && room) = true := by
    obtain hw | hw := hw <;> simp [hw]
  simp only [State.directive, hhead, if_pos hk, if_neg hnot]

/-- On tables of good parity a directive that reads both tables acts on them as they are. -/
theorem State.directive_tables {r : TaskRecord} (hi : s.Intact) (hs : 0 < s.jw.spare) (h : s.HeadIs r k) :
    s.directive k true (fun t q => act t.checkTables q) = (act s r).consumed := by
  have hd := State.directive_of_ready h hs fun t q => act t.checkTables q
  rwa [s.checkTables_of_intact hi] at hd

/-- On tables of good parity a directive that reads the contexts acts on them as they are. -/
theorem State.directive_contexts {r : TaskRecord} (hi : s.Intact) (hs : 0 < s.jw.spare) (h : s.HeadIs r k) :
    s.directive k true (fun t q => act t.checkContexts q) = (act s r).consumed := by
  have hd := State.directive_of_ready h hs fun t q => act t.checkContexts q
  rwa [s.checkContexts_of_intact hi.undamaged.contexts] at hd

end Head

/-- A directive that is refused, as its command answers it (R136, R137). -/
theorem State.refuses_of_exec {s w : State} {c : Instr} {r : TaskRecord} {cause : Cause} (hexec : exec c s = .next w.consumed)
    (hw : w = s.refuse r cause) : ∃ t, exec c s = .next t ∧ s.Took t ∧ t.pm = s.pm ∧
      s.Reported t [.advisory (s.refusal r cause)] :=
  ⟨_, by rw [hexec, hw], s.refuse_consumed r cause⟩

/-! ### What the consumption leaves of the report list -/

theorem State.lost_of_ground {s t : State} (h : t.ground = s.ground) : t.jw.lost = s.jw.lost := congrArg Ground.lost h

@[simp] theorem State.consumed_lost (s : State) : s.consumed.jw.lost = s.jw.lost := State.lost_of_ground s.consumed_ground

/-- The closing advisories of strings are TEST-DONE and CENSUS-DONE (R84, R85). -/
theorem Item.closesString_iff (x : Item) :
    x.closesString = true ↔ ∃ r, x = .advisory r ∧ (r.kind = .testDone ∨ r.kind = .censusDone) := by
  cases x <;> simp [Item.closesString]

/-- Settles O33: a directive by whether its record stands at the head and has to wait; SKIP and the unknown kind by their acts, which
change no table. -/
theorem directivesWaitPassOrAreRefused : Obligations.DirectivesWaitPassOrAreRefused := by
  unfold Obligations.DirectivesWaitPassOrAreRefused
  refine ⟨fun s c k hc => ?_, fun s r hi hs => ⟨fun _ => rfl, fun hh => ?_, fun hh => ?_⟩⟩
  · obtain ⟨act, hexec⟩ := exec_directive hc s
    rw [hexec]
    refine ⟨fun r hh hwait => ?_, fun hnone => by rw [State.directive_of_absent act hnone]⟩
    have hroom : s.jw.spare = 0 ∨ s.roomFor k = false := hwait.imp_right fun ⟨hk, hfull⟩ => by
      simpa [State.roomFor, hk] using hfull
    rw [State.directive_of_waiting act hh hroom]
  · have hexec : exec .unknownKind s = .next (s.refuse r .unknownKind).consumed :=
      congrArg Host.Outcome.next (State.directive_contexts (fun t q => t.refuse q .unknownKind) hi hs hh)
    obtain ⟨htook, hpm, hreported⟩ := s.refuse_consumed r .unknownKind
    exact ⟨_, hexec, htook, hreported, hpm, State.consumed_qualifiers _⟩
  · have hexec : exec .skip s = .next s.consumed :=
      congrArg Host.Outcome.next (State.directive_contexts (fun t _ => t) hi hs hh)
    obtain ⟨more, hreport, hcloses⟩ := s.consumed_reported
    exact ⟨_, more, hexec, State.took_consumed rfl rfl, by simpa using hreport, fun x hx => x.closesString_iff.1 (hcloses x hx),
      s.consumed_lost, s.consumed_pm, s.consumed_qualifiers⟩

end Sys2Proof.Machine
end

section
/-! Proofs of the family of 08 (directives), second part: what a tag finds, and CANCEL (O34). -/

namespace Sys2Proof.Machine

/-! ### What a tag finds -/

/-- An entry that is not FREE holds a tag (R3). -/
def State.Holds (s : State) (tag : Word) (i : Nat) (p : Pick) : Prop := s.pickAt i = some p ∧ p.tag = tag

/-- A test of the pick table that no FREE entry passes. -/
theorem State.any_picks_iff (s : State) (test : Pick → Bool) :
    (s.pm.entries.any fun e => (e.pick.map test).getD false) = true ↔ ∃ i p, s.pickAt i = some p ∧ test p = true := by
  rw [List.any_eq_true]
  constructor
  · rintro ⟨e, he, ht⟩
    obtain ⟨i, hi, rfl⟩ := List.mem_iff_getElem.1 he
    cases hp : s.pm.entries[i].pick with
    | none => simp [hp] at ht
    | some p => exact ⟨i, p, (s.pickAt_eq hi).trans hp, by simpa [hp] using ht⟩
  · rintro ⟨i, p, hp, ht⟩
    have hlt := State.lt_of_pickAt hp
    rw [s.pickAt_eq hlt] at hp
    exact ⟨_, List.getElem_mem hlt, by simpa [hp] using ht⟩

theorem Pick.accepted_of_live {p : Pick} (h : p.live = true) : p.accepted = true := by
  have hstage := p.live_iff.1 h
  unfold Pick.accepted
  split
  · next o ho => exact absurd ho (hstage o)
  · rfl

section Tag

variable {s : State} {tag : Word} {i : Nat} {p : Pick}

theorem State.tagHeld_iff_holds : s.tagHeld tag = true ↔ ∃ i p, s.Holds tag i p := by
  simp only [State.tagHeld, s.any_picks_iff, beq_iff_eq, State.Holds]

/-- The search for an accepted pick of a tag answers an entry that holds one. -/
theorem State.acceptedWith_spec (h : s.acceptedWith tag = some i) : ∃ p, s.Holds tag i p ∧ p.accepted = true := by
  obtain ⟨j, e, rfl, he, ht⟩ := firstFrom_spec h
  cases hp : e.pick with
  | none => simp [hp] at ht
  | some p =>
    simp only [hp, Option.map_some, Option.getD_some, Bool.and_eq_true, beq_iff_eq] at ht
    obtain ⟨htag, haccepted⟩ := ht
    exact ⟨p, ⟨by simp [State.pickAt, he, hp], htag⟩, haccepted⟩

/-- The search finds an accepted pick where one holds the tag. -/
theorem State.acceptedWith_isSome (h : s.Holds tag i p) (ha : p.accepted = true) : ∃ j, s.acceptedWith tag = some j := by
  obtain ⟨hp, htag⟩ := h
  rw [← Option.isSome_iff_exists, State.acceptedWith, firstFrom_isSome, s.any_picks_iff]
  exact ⟨i, p, hp, by simp [htag, ha]⟩

theorem State.findTag_of_live (h : s.acceptedWith tag = some i) (hp : s.pickAt i = some p) (hl : p.live = true) :
    s.findTag tag = .live i p := by
  have hstage := p.live_iff.1 hl
  simp only [State.findTag, h, hp]

theorem State.findTag_of_reporting (h : s.acceptedWith tag = some i) (hp : s.pickAt i = some p) {o : Outcome}
    (ho : p.stage = .reporting o) : s.findTag tag = .reporting := by
  simp only [State.findTag, h, hp, ho]

theorem State.findTag_of_none (h : s.acceptedWith tag = none) :
    s.findTag tag = if s.tagHeld tag then .reporting else .notFound := by
  simp only [State.findTag, h]

/-- What a tag finds, by the search and by the stage of the pick that it answers (R3). -/
theorem State.findTag_cases (s : State) (tag : Word) :
    (∃ i p, s.findTag tag = .live i p ∧ s.Holds tag i p ∧ p.live = true) ∨
      (s.findTag tag = .reporting ∧ ∃ i p, s.Holds tag i p) ∨ (s.findTag tag = .notFound ∧ ∀ i p, ¬s.Holds tag i p) := by
  cases h : s.acceptedWith tag with
  | some i =>
    obtain ⟨p, hholds, -⟩ := State.acceptedWith_spec h
    by_cases hl : p.live = true
    · exact .inl ⟨i, p, State.findTag_of_live h hholds.1 hl, hholds, hl⟩
    · obtain ⟨o, ho⟩ : ∃ o, p.stage = .reporting o := by simpa [p.live_iff] using hl
      exact .inr (.inl ⟨State.findTag_of_reporting h hholds.1 ho, i, p, hholds⟩)
  | none =>
    rw [State.findTag_of_none h]
    by_cases hheld : s.tagHeld tag = true
    · exact .inr (.inl ⟨if_pos hheld, State.tagHeld_iff_holds.1 hheld⟩)
    · refine .inr (.inr ⟨if_neg hheld, fun i p hp => hheld (State.tagHeld_iff_holds.2 ⟨i, p, hp⟩)⟩)

theorem State.holds_of_findTag (h : s.findTag tag = .live i p) : s.Holds tag i p ∧ p.live = true := by
  obtain ⟨j, q, hfind, hholds, hl⟩ | ⟨hfind, -⟩ | ⟨hfind, -⟩ := s.findTag_cases tag
  · obtain ⟨rfl, rfl⟩ : j = i ∧ q = p := by simpa using hfind.symm.trans h
    exact ⟨hholds, hl⟩
  · exact nomatch hfind.symm.trans h
  · exact nomatch hfind.symm.trans h

theorem State.findTag_eq_notFound_iff : s.findTag tag = .notFound ↔ ∀ i p, ¬s.Holds tag i p := by
  obtain ⟨j, q, hfind, hholds, -⟩ | ⟨hfind, j, q, hholds⟩ | ⟨hfind, hnone⟩ := s.findTag_cases tag
  · exact iff_of_false (by simp [hfind]) fun h => h j q hholds
  · exact iff_of_false (by simp [hfind]) fun h => h j q hholds
  · exact iff_of_true hfind hnone

/-- A live pick is found under its tag where it alone of the accepted picks holds it (R3). -/
theorem State.findTag_of_unique (h : s.Holds tag i p) (hl : p.live = true)
    (hu : ∀ j q, s.Holds tag j q → q.accepted = true → j = i) : s.findTag tag = .live i p := by
  obtain ⟨j, hj⟩ := State.acceptedWith_isSome h (Pick.accepted_of_live hl)
  obtain ⟨q, hq, ha⟩ := State.acceptedWith_spec hj
  obtain rfl := hu j q hq ha
  exact State.findTag_of_live hj h.1 hl

/-- A tag that picks in REPORTING alone hold finds one of them. -/
theorem State.findTag_of_noLive (h : s.Holds tag i p) (hr : ∀ j q, s.Holds tag j q → q.live = false) :
    s.findTag tag = .reporting := by
  obtain ⟨j, q, -, hholds, hl⟩ | ⟨hfind, -⟩ | ⟨-, hnone⟩ := s.findTag_cases tag
  · exact absurd hl (by simp [hr j q hholds])
  · exact hfind
  · exact absurd h (hnone i p)

end Tag

/-! ### What a placement pass appends to the report list -/

theorem State.Reported.first {s t : State} {items : List Item} (h : s.Reported t items) : s.ReportedFirst t items := by
  obtain ⟨more, ht, hm⟩ := h
  exact ⟨more, ht, fun x hx => .inl (hm x hx)⟩

theorem State.ReportedFirst.trans {s t u : State} {items : List Item} (h : s.ReportedFirst t items) (k : t.ReportedFirst u []) :
    s.ReportedFirst u items := by
  obtain ⟨more, ht, hm⟩ := h
  obtain ⟨rest, hu, hr⟩ := k
  exact ⟨more ++ rest, by simp [hu, ht], fun x hx => (List.mem_append.1 hx).elim (hm x) (hr x)⟩

/-- A pass appends the picks that it refuses, and nothing else (R15). -/
theorem State.reportedFirst_visitDeferred (s : State) (i : Nat) : s.ReportedFirst (s.visitDeferred i) [] := by
  obtain hv | ⟨p, -, ⟨ci, d, hv⟩ | ⟨o, hv⟩⟩ := s.visitDeferred_cases i
  all_goals rw [hv]
  · exact (State.reported_of_jw rfl).first
  · exact (State.reported_of_jw rfl).first
  · exact ⟨[.pick i], by simp [State.appendItem], by simp⟩

theorem State.reportedFirst_walkDeferred (s : State) : s.ReportedFirst s.walkDeferred [] := by
  have hfold (l : List Nat) (t : State) : t.ReportedFirst (l.foldl State.visitDeferred t) [] := by
    induction l generalizing t with
    | nil => exact (State.reported_of_jw rfl).first
    | cons i l ih => exact (t.reportedFirst_visitDeferred i).trans (ih _)
  exact hfold _ s

/-! ### A pick that leaves its bundle -/

theorem State.holder_of_contexts {s t : State} (h : t.contexts = s.contexts) (i : Nat) : t.holder i = s.holder i := by
  simp only [State.holder, State.contextAt, h]

/-- The claim that holds an entry stands in a context in use. -/
theorem State.contextAt_of_holder {s : State} {i ci : Nat} {k : Claim} (h : s.holder i = some (ci, k)) :
    ∃ c, s.contextAt ci = some c := by
  simp only [State.holder, Option.bind_eq_some_iff, Option.map_eq_some_iff, Prod.mk.injEq] at h
  obtain ⟨cj, -, j, ⟨c, hc, -⟩, rfl, -⟩ := h
  exact ⟨c, hc⟩

theorem State.placeInBundle_of_holder {s : State} {i ci : Nat} {k : Claim} (h : s.holder i = some (ci, k)) :
    s.placeInBundle i = (k.bundle.length, k.bundle.idxOf i + 1) := by
  simp only [State.placeInBundle, h]

/-- A context that is written and then freed if it may be (R24). -/
theorem State.contextAt_settled (s : State) {ci : Nat} (h : ci < s.contexts.length) (d : Context) :
    ((s.setContext ci (some d)).settleContext ci).contextAt ci = if s.freeable d = true then none else some d := by
  have hset := s.contextAt_setContext_self ci (some d) h
  have hsame : (s.setContext ci (some d)).freeable d = s.freeable d := State.freeable_of_strings rfl d
  split
  · next hf =>
    rw [State.settleContext_of_freeable hset (hsame.trans hf)]
    exact State.contextAt_setContext_self _ ci none (by simpa [State.setContext] using h)
  · next hf => rw [State.settleContext_of_not_freeable hset (hsame.trans (by simpa using hf)), hset]

section Drop

variable {s : State} {i ci : Nat} {k : Claim} {c : Context}

/-- The reference of a pick that a bundle holds is taken out of it, and its context is freed if it may be (R24, R29, R31). -/
theorem State.dropReference_of_holder (h : s.holder i = some (ci, k)) (hc : s.contextAt ci = some c) :
    s.dropReference i = (s.setContext ci (some (c.without s.pm.lanes s.paused k.serial (k.bundle.filter fun j => j != i)
      (s.sumOf (k.bundle.filter fun j => j != i))))).settleContext ci := by
  simp only [State.dropReference, h, hc]

/-- The departure of a reference writes the context table alone. -/
theorem State.dropReference_eq (s : State) (i : Nat) : ∃ l, s.dropReference i = s.setContexts l := by
  unfold State.dropReference State.settleContext
  dsimp only
  repeat' split
  all_goals exact ⟨_, rfl⟩

theorem State.Undamaged.follows_dropReference (h : s.Undamaged) (i : Nat) : s.Follows (s.dropReference i) := by
  unfold State.dropReference
  split
  · exact h.follows
  · split
    · exact h.follows
    · exact (h.follows_setContext _ _).trans ((h.setContext _ _).follows_settleContext _)

theorem State.grows_dropReference (s : State) (i : Nat) : s.Grows (s.dropReference i) := by
  obtain ⟨l, h⟩ := s.dropReference_eq i
  rw [h]
  exact ⟨rfl, rfl, rfl, List.prefix_refl _⟩

/-- What is left of a context when a claim loses picks (R29, R31). -/
theorem Context.without_eq (c : Context) (lanes : List Lane) (paused : Bool) (serial : Nat) (rest : List Nat) (sum : Nat) :
    c.without lanes paused serial rest sum =
      if rest = [] then c.removeClaim lanes paused serial else c.correct lanes paused serial rest sum := by
  cases rest <;> rfl

end Drop

/-! ### CANCEL -/

/-- The outcome of a cancelled pick, by the size of its bundle and its place in it (R139). -/
def State.cancelled (s : State) (size position : Nat) : Outcome := s.outcome .cancelled .none 0 size position false false

/-- The picks that a CANCEL leaves in REPORTING (R139). -/
def Pick.cancelledBy (p : Pick) (s : State) (size position : Nat) : Pick :=
  { p with abandon := none, stage := .reporting (s.cancelled size position) }

section Cancel

variable {s : State} {i : Nat} {p : Pick}

theorem exec_cancel {r : TaskRecord} (hi : s.Intact) (hs : 0 < s.jw.spare) (hh : s.HeadIs r .cancel) :
    exec .cancel s = .next (s.cancel r).consumed :=
  congrArg Host.Outcome.next (State.directive_tables (fun t q => t.cancel q) hi hs hh)

/-- A CANCEL leaves its pick, the report list and the FREE count so through its consumption. -/
structure State.Cancels (s t : State) (i : Nat) (q : Pick) : Prop where
  pick : t.pickAt i = some q
  free : t.pm.free = s.pm.free
  report : s.ReportedFirst t [.pick i]

theorem State.Cancels.consumed {t : State} {q : Pick} (h : s.Cancels t i q) : s.Cancels t.consumed i q where
  pick := (State.pickAt_of_pm t.consumed_pm i).trans h.pick
  free := by rw [State.consumed_pm, h.free]
  report := h.report.trans t.consumed_reported.first

/-- The closing of a cancelled pick, whichever collection holds its reference (R139). -/
theorem State.cancels_close (hp : s.pickAt i = some p) (size position : Nat) :
    s.Cancels (s.close i (s.cancelled size position)) i (p.cancelledBy s size position) := by
  rw [State.close_eq hp (by simp [State.cancelled, State.outcome])]
  exact ⟨s.pickAt_setPick_self i _ (State.lt_of_pickAt hp), rfl, [], by simp [State.appendItem], by simp⟩

theorem State.cancels_deferred (hp : s.pickAt i = some p) :
    s.Cancels ((s.undefer i).close i (s.cancelled 1 1)) i (p.cancelledBy s 1 1) :=
  have h := State.cancels_close (s := s.undefer i) hp 1 1
  ⟨h.pick, h.free, h.report⟩

/-- A pick that leaves its bundle, with the placement pass that follows. -/
theorem State.withdraw_of_holder {ci : Nat} {k : Claim} (h : s.holder i = some (ci, k)) :
    s.withdraw i .cancelled .none false =
      ((s.close i (s.cancelled k.bundle.length (k.bundle.idxOf i + 1))).dropReference i).placementPass := by
  simp only [State.withdraw, State.leaveBundle, State.placeInBundle_of_holder h, State.cancelled]

theorem State.Undamaged.cancels_placed (hu : s.Undamaged) (hp : s.pickAt i = some p) {ci : Nat} {k : Claim}
    (h : s.holder i = some (ci, k)) : s.Cancels (s.withdraw i .cancelled .none false) i
      (p.cancelledBy s k.bundle.length (k.bundle.idxOf i + 1)) := by
  rw [State.withdraw_of_holder h]
  generalize k.bundle.length = size
  generalize k.bundle.idxOf i + 1 = position
  have hclose := State.cancels_close hp size position
  have hclosed : (s.close i (s.cancelled size position)).NotDeferred i := by
    intro q hq atlas
    obtain rfl := Option.some.inj (hclose.pick.symm.trans hq)
    exact fun hstage => nomatch hstage
  have hdrop := (hu.close i (s.cancelled size position)).follows_dropReference i
  have hgrows := (s.close i (s.cancelled size position)).grows_dropReference i
  rw [State.placementPass_of_intact _ hdrop.undamaged.picks]
  exact ⟨((hdrop.trans hdrop.undamaged.follows_walkDeferred).stands i hclosed).trans hclose.pick,
    ((hgrows.trans (State.grows_walkDeferred _)).free).trans hclose.free,
    (hclose.report.trans (State.reported_of_jw (State.dropReference_jw _ i)).first).trans (State.reportedFirst_walkDeferred _)⟩

/-- The context that a cancelled pick leaves, where no pick is deferred (R24, R29, R31, R139). -/
theorem State.withdraw_contextAt (hdeferred : s.pm.deferred = []) {ci : Nat} {k : Claim} {c : Context}
    (h : s.holder i = some (ci, k)) (hc : s.contextAt ci = some c) :
    (s.withdraw i .cancelled .none false).contextAt ci =
      let rest := k.bundle.filter fun j => j != i
      let d := c.without s.pm.lanes s.paused k.serial rest (s.sumOf rest)
      if s.freeable d = true then none else some d := by
  have hclose := s.closesOnly_close i (s.cancelled k.bundle.length (k.bundle.idxOf i + 1))
  generalize hu : s.close i (s.cancelled k.bundle.length (k.bundle.idxOf i + 1)) = u at hclose
  have hsum : u.sumOf (k.bundle.filter fun j => j != i) = s.sumOf (k.bundle.filter fun j => j != i) := by
    refine congrArg List.sum (List.map_congr_left fun j hj => ?_)
    have hne : i ≠ j := by
      rintro rfl
      simp at hj
    rw [State.requestedOf, ← hu, State.pickAt_close_of_ne s hne, State.requestedOf]
  have hpaused : u.paused = s.paused := by simp [State.paused, hclose.lrc]
  have hcu : u.contextAt ci = some c := (State.contextAt_of_contexts hclose.contexts ci).trans hc
  have hdrop : (u.dropReference i).pm = u.pm := by
    obtain ⟨l, heq⟩ := u.dropReference_eq i
    rw [heq, State.setContexts_pm]
  rw [State.withdraw_of_holder h, hu, State.placementPass_of_noDeferred (by rw [hdrop, hclose.deferred, hdeferred]),
    State.dropReference_of_holder ((State.holder_of_contexts hclose.contexts i).trans h) hcu,
    u.contextAt_settled (State.lt_of_contextAt hcu), hsum, hpaused, hclose.lanes, State.freeable_of_strings hclose.strings]

section Found

variable {r : TaskRecord}

theorem State.cancel_of_notFound (h : s.findTag r.tag = .notFound) : s.cancel r = s.refuse r .notFound := by
  simp only [State.cancel, h]

theorem State.cancel_of_reporting (h : s.findTag r.tag = .reporting) : s.cancel r = s.refuse r .tooLate := by
  simp only [State.cancel, h]

theorem State.cancel_of_deferred (h : s.findTag r.tag = .live i p) {atlas : AtlasCopy} (hp : p.stage = .deferred atlas) :
    s.cancel r = (s.undefer i).close i (s.cancelled 1 1) := by
  simp only [State.cancel, h, hp]
  rfl

theorem State.cancel_of_placed (h : s.findTag r.tag = .live i p) (hp : p.stage = .placed) :
    s.cancel r = s.withdraw i .cancelled .none false := by
  simp only [State.cancel, h, hp]

end Found

end Cancel

/-- Settles O34: a tag by the search for an accepted pick; CANCEL by what it finds, where the pick is closed and its reference taken
out, which the pass and the consumption behind it leave standing. -/
theorem cancelTakesThePickItFinds : Obligations.CancelTakesThePickItFinds := by
  unfold Obligations.CancelTakesThePickItFinds
  constructor
  · intro s tag holds
    refine ⟨fun i p h => ?_, State.findTag_eq_notFound_iff, fun i p hp hl hu => ?_, fun ⟨i, p, hp⟩ hr => ?_⟩
    · obtain ⟨hholds, hl⟩ := State.holds_of_findTag h
      exact ⟨hholds, p.live_iff.1 hl⟩
    · exact State.findTag_of_unique hp (p.live_iff.2 hl) hu
    · refine State.findTag_of_noLive hp fun j q hq => ?_
      obtain ⟨o, ho⟩ := hr j q hq
      simp [Pick.live, ho]
  · intro s r hi hs hh cancelled
    have hexec := exec_cancel hi hs hh
    have htaken {i size position : Nat} {p : Pick} (h : s.Cancels (s.cancel r) i (p.cancelledBy s size position)) :
        cancelled i size position p := by
      have hiu := State.iu_of_frame (s.cancel_frame r)
      exact ⟨_, hexec, State.took_consumed (by rw [hiu]) (by rw [hiu]), h.consumed.report, h.consumed.free, h.consumed.pick⟩
    refine ⟨fun h => State.refuses_of_exec hexec (State.cancel_of_notFound h),
      fun h => State.refuses_of_exec hexec (State.cancel_of_reporting h),
      fun i p atlas h hp => htaken ?_, fun i p ci k h hp hk => htaken ?_, fun i p ci k c h hp hk hc hdeferred => ?_⟩
    · obtain ⟨⟨hpick, -⟩, -⟩ := State.holds_of_findTag h
      rw [State.cancel_of_deferred h hp]
      exact State.cancels_deferred hpick
    · obtain ⟨⟨hpick, -⟩, -⟩ := State.holds_of_findTag h
      rw [State.cancel_of_placed h hp]
      exact hi.undamaged.cancels_placed hpick hk
    · have hleft := State.withdraw_contextAt hdeferred hk hc
      simp only [Context.without_eq] at hleft
      rw [← State.cancel_of_placed h hp] at hleft
      exact ⟨_, hexec,
        fun hf => State.contextAt_none_of_lasting (State.consumed_lasting _) (hleft.trans (if_pos hf)),
        fun hf => State.contextAt_of_lasting (State.consumed_lasting _) (hleft.trans (if_neg (Bool.eq_false_iff.1 hf)))⟩

end Sys2Proof.Machine
end

section
/-! Proofs of the family of 08 (directives), third part: AMEND (O35). -/

namespace Sys2Proof.Machine

/-! ### The checks -/

section Checks

variable {s : State} {r : TaskRecord} {i ci : Nat} {p : Pick} {k : Claim}

theorem exec_amend (hi : s.Intact) (hs : 0 < s.jw.spare) (hh : s.HeadIs r .amend) :
    exec .amend s = .next (s.amend r).consumed :=
  congrArg Host.Outcome.next (State.directive_tables (fun t q => t.amend q) hi hs hh)

/-- Whether the quantity of an AMEND may be asked for (R140). -/
def TaskRecord.goodQuantity (r : TaskRecord) : Prop := 1 ≤ r.quantity.toNat ∧ r.quantity.toNat ≤ 999

/-- A pick with another requested quantity (R141). -/
def Pick.asking (p : Pick) (n : Nat) : Pick := { p with requested := n }

theorem TaskRecord.goodQuantity_iff :
    r.goodQuantity ↔ ¬(r.quantity.toNat == 0 || decide (999 < r.quantity.toNat)) = true := by
  simp only [TaskRecord.goodQuantity, Bool.or_eq_true, beq_iff_eq, decide_eq_true_eq]
  omega

theorem State.amend_of_badQuantity (h : ¬r.goodQuantity) : s.amend r = s.refuse r .badArgument :=
  if_pos (not_not.1 (mt r.goodQuantity_iff.2 h))

variable (hq : r.goodQuantity)
include hq

theorem State.amend_of_notFound (h : s.findTag r.tag = .notFound) : s.amend r = s.refuse r .notFound := by
  simp only [State.amend, if_neg (r.goodQuantity_iff.1 hq), h]

theorem State.amend_of_reporting (h : s.findTag r.tag = .reporting) : s.amend r = s.refuse r .tooLate := by
  simp only [State.amend, if_neg (r.goodQuantity_iff.1 hq), h]

/-- A pick in no bundle takes the new quantity, and no sum changes (R141). -/
theorem State.amend_of_unbundled (h : s.findTag r.tag = .live i p) (hk : s.holder i = none) :
    s.amend r = s.setPick i (some (p.asking r.quantity.toNat)) := by
  simp only [State.amend, if_neg (r.goodQuantity_iff.1 hq), h, hk, Pick.asking]

theorem State.amend_of_over (h : s.findTag r.tag = .live i p) (hk : s.holder i = some (ci, k))
    (hsum : 999 < s.sumWith k.bundle i r.quantity.toNat) : s.amend r = s.refuse r .overCapacity := by
  simp only [State.amend, if_neg (r.goodQuantity_iff.1 hq), h, hk, if_pos hsum]

theorem State.amend_of_bundled (h : s.findTag r.tag = .live i p) (hk : s.holder i = some (ci, k))
    (hsum : s.sumWith k.bundle i r.quantity.toNat ≤ 999) : s.amend r = s.amendPlaced i p ci k r.quantity.toNat := by
  simp only [State.amend, if_neg (r.goodQuantity_iff.1 hq), h, hk, if_neg (Nat.not_lt.2 hsum)]

end Checks

/-! ### The accepted AMEND of a pick in a bundle -/

section Amended

variable {s : State} {i ci n : Nat} {p : Pick} {k : Claim} {c : Context}

/-- With the pick's new quantity written, a bundle's sum is the one that was checked (R30, R140). -/
theorem State.sumOf_asking (hp : s.pickAt i = some p) (bundle : List Nat) :
    (s.setPick i (some (p.asking n))).sumOf bundle = s.sumWith bundle i n := by
  refine congrArg List.sum (List.map_congr_left fun j _ => ?_)
  by_cases hj : j = i
  · subst hj
    simp [State.requestedOf, s.pickAt_setPick_self j _ (State.lt_of_pickAt hp), Pick.asking]
  · simp [State.requestedOf, s.pickAt_setPick_of_ne i j _ (Ne.symm hj), hj]

/-- The pick has its new quantity and the claim its new sum: an accepted AMEND before its placement pass (R30, R62, R141). -/
def State.amended (s : State) (i : Nat) (p : Pick) (ci : Nat) (c : Context) (k : Claim) (n : Nat) : State :=
  (s.setPick i (some (p.asking n))).setContext ci
    (some (c.correct s.pm.lanes s.paused k.serial k.bundle (s.sumWith k.bundle i n)))

/-- A lowered quantity sets off a placement pass, and no other does (R141). -/
theorem State.amendPlaced_eq (hp : s.pickAt i = some p) (hc : s.contextAt ci = some c) : s.amendPlaced i p ci k n =
    if n < p.requested then (s.amended i p ci c k n).placementPass else s.amended i p ci c k n := by
  have hcontext : (s.setPick i (some (p.asking n))).contextAt ci = some c := hc
  have hpick : { p with requested := n } = p.asking n := rfl
  simp only [State.amendPlaced, hpick, hcontext, State.sumOf_asking hp]
  rfl

theorem State.amended_pickAt (hp : s.pickAt i = some p) : (s.amended i p ci c k n).pickAt i = some (p.asking n) :=
  s.pickAt_setPick_self i _ (State.lt_of_pickAt hp)

/-- The claim keeps its picks and has their new sum (R30, R141). -/
def Context.Summed (c : Context) (k : Claim) (sum : Nat) : Prop :=
  ∀ j ∈ c.claims, j.serial = k.serial → j.sum = sum ∧ j.bundle = k.bundle

theorem Context.summed_correct (c : Context) (lanes : List Lane) (paused : Bool) (k : Claim) (sum : Nat) :
    (c.correct lanes paused k.serial k.bundle sum).Summed k sum := by
  intro j hj hserial
  rw [Context.correct_claims] at hj
  obtain ⟨l, -, rfl⟩ := List.mem_map.1 hj
  by_cases hl : l.serial = k.serial
  · simp [hl]
  · simp [hl] at hserial

/-- An accepted AMEND leaves its pick with the new quantity, and the FREE count, whether or not a pass follows (R141). -/
theorem State.Undamaged.amendPlaced_pick (hu : s.Undamaged) (hp : s.pickAt i = some p) (hstage : p.stage = .placed)
    (hc : s.contextAt ci = some c) :
    (s.amendPlaced i p ci k n).pickAt i = some (p.asking n) ∧ (s.amendPlaced i p ci k n).pm.free = s.pm.free := by
  have hamended : (s.amended i p ci c k n).pickAt i = some (p.asking n) := State.amended_pickAt hp
  rw [State.amendPlaced_eq hp hc]
  split
  · have hundamaged : (s.amended i p ci c k n).Undamaged := (hu.setPick i _).setContext ci _
    have hplaced : (s.amended i p ci c k n).NotDeferred i := by
      intro q hq atlas
      obtain rfl := Option.some.inj (hamended.symm.trans hq)
      simp [Pick.asking, hstage]
    rw [State.placementPass_of_intact _ hundamaged.picks]
    exact ⟨(hundamaged.follows_walkDeferred.stands i hplaced).trans hamended, (State.grows_walkDeferred _).free⟩
  · exact ⟨hamended, rfl⟩

/-- Where no pass joins further picks to it, the bundle of an amended pick has its picks and its new sum (R30, R141). -/
theorem State.amendPlaced_summed (hp : s.pickAt i = some p) (hc : s.contextAt ci = some c)
    (hpass : p.requested ≤ n ∨ s.pm.deferred = []) :
    ∃ d, (s.amendPlaced i p ci k n).contextAt ci = some d ∧ d.Summed k (s.sumWith k.bundle i n) := by
  have hamended : s.amendPlaced i p ci k n = s.amended i p ci c k n := by
    rw [State.amendPlaced_eq hp hc]
    split
    · next hlow => exact State.placementPass_of_noDeferred (hpass.resolve_left (Nat.not_le.2 hlow))
    · rfl
  rw [hamended]
  exact ⟨_, State.contextAt_setContext_self _ ci _ (State.lt_of_contextAt hc), c.summed_correct _ _ k _⟩

end Amended

/-- Settles O35: the checks are the branches of State.amend; an accepted AMEND writes its pick and the sum of its claim, which the pass
and the consumption behind it leave standing. -/
theorem amendChangesTheRequestedQuantity : Obligations.AmendChangesTheRequestedQuantity := by
  unfold Obligations.AmendChangesTheRequestedQuantity
  intro s r hi hs hh n inRange refused amended summed
  have hexec := exec_amend hi hs hh
  have hframe := s.amend_frame r
  have hiu := State.iu_of_frame hframe
  have haccepted {i : Nat} {p : Pick} {more : State → Prop} (hpick : (s.amend r).pickAt i = some (p.asking n))
      (hfree : (s.amend r).pm.free = s.pm.free) (hmore : more (s.amend r).consumed) : amended i p more :=
    ⟨_, hexec, State.took_consumed (by rw [hiu]) (by rw [hiu]), (State.pickAt_of_pm (State.consumed_pm _) i).trans hpick,
      by rw [State.consumed_pm, hfree], by rw [State.consumed_pm, State.lanes_of_frame hframe], hmore⟩
  refine ⟨fun h => State.refuses_of_exec hexec (State.amend_of_badQuantity h),
    fun hq h => State.refuses_of_exec hexec (State.amend_of_notFound hq h),
    fun hq h => State.refuses_of_exec hexec (State.amend_of_reporting hq h), fun i p atlas hq h _ hk => ?_,
    fun i p ci k hq h hstage hk => ⟨fun hsum => State.refuses_of_exec hexec (State.amend_of_over hq h hk hsum), fun hsum => ?_⟩⟩
  · obtain ⟨⟨hp, -⟩, -⟩ := State.holds_of_findTag h
    have hamend : s.amend r = s.setPick i (some (p.asking n)) := State.amend_of_unbundled hq h hk
    refine haccepted (by rw [hamend]; exact s.pickAt_setPick_self i _ (State.lt_of_pickAt hp)) (by rw [hamend]; rfl) ?_
    rw [State.consumed_pm, hamend]
    rfl
  · obtain ⟨⟨hp, -⟩, -⟩ := State.holds_of_findTag h
    obtain ⟨c, hc⟩ := State.contextAt_of_holder hk
    have hamend : s.amend r = s.amendPlaced i p ci k n := State.amend_of_bundled hq h hk hsum
    obtain ⟨hpick, hfree⟩ := hi.undamaged.amendPlaced_pick (k := k) (n := n) hp hstage hc
    rw [← hamend] at hpick hfree
    refine haccepted hpick hfree fun hpass => ?_
    obtain ⟨d, hd, hsummed⟩ := State.amendPlaced_summed (k := k) (n := n) hp hc hpass
    rw [← hamend] at hd
    obtain ⟨x, hx⟩ := State.contextAt_of_lasting (State.consumed_lasting _) hd
    exact ⟨_, hx, hsummed⟩

end Sys2Proof.Machine
end

section
/-! Proofs of the family of 08 (directives), fourth part: the reserved advisory entries through the taking up of the lines, and FENCE
(O38). -/

namespace Sys2Proof.Machine

/-! ### Reserved entries -/

/-- Closing advisories of strings, and nothing else, join the report list, each into an entry reserved for it (R136, R153). -/
def State.FillsReserved (s t : State) : Prop :=
  ∃ more, t.jw.report = s.jw.report ++ more ∧ (∀ x ∈ more, x.closesString = true) ∧
    t.jw.reserved = s.jw.reserved - more.length

theorem State.FillsReserved.trans {s t u : State} (h : s.FillsReserved t) (k : t.FillsReserved u) : s.FillsReserved u := by
  obtain ⟨more, ht, hm, hreserved⟩ := h
  obtain ⟨rest, hu, hr, hleft⟩ := k
  exact ⟨more ++ rest, by simp [hu, ht], fun x hx => (List.mem_append.1 hx).elim (hm x) (hr x),
    by rw [hleft, hreserved, List.length_append, Nat.sub_sub]⟩

theorem State.fillsReserved_of_jw {s t : State} (h : t.jw = s.jw) : s.FillsReserved t :=
  ⟨[], by simp [h], by simp, by simp [h]⟩

/-- The closing advisory of a light test or census goes into an entry reserved for it (R84, R85). -/
theorem State.offerString_fills (s : State) (n : Nat) {k : RecordKind} (hk : k = .testDone ∨ k = .censusDone) (c : Cause)
    (m : Nat) : s.FillsReserved (s.offerString n k c m) := by
  unfold State.offerString
  split
  · exact ⟨[_], rfl, by simpa [Item.closesString, State.advisory] using hk, rfl⟩
  · exact State.fillsReserved_of_jw rfl

theorem State.closeSurvey_fills (s : State) (n good : Nat) : s.FillsReserved (s.closeSurvey n good) := by
  unfold State.closeSurvey
  split
  · exact s.offerString_fills n (.inr rfl) _ _
  · exact s.offerString_fills n (.inl rfl) _ _
  · exact State.fillsReserved_of_jw rfl

theorem State.endSweep_fills (s : State) (n : Nat) : s.FillsReserved (s.endSweep n) := by
  unfold State.endSweep
  dsimp only
  split
  · split
    · split
      · exact s.closeSurvey_fills n _
      · exact State.fillsReserved_of_jw rfl
      · exact State.fillsReserved_of_jw rfl
    · exact State.fillsReserved_of_jw rfl
  · exact State.fillsReserved_of_jw rfl

theorem State.runLine_fills (s : State) (n : Nat) : s.FillsReserved (s.runLine n) := by
  have hmode : s.FillsReserved (s.settleMode n) := State.fillsReserved_of_jw (s.settleMode_jw n)
  unfold State.runLine
  dsimp only
  split
  · split
    · exact hmode.trans (State.fillsReserved_of_jw rfl)
    · exact (hmode.trans (State.endSweep_fills _ n)).trans (State.fillsReserved_of_jw (State.turn_jw _ n))
  · exact hmode

theorem State.kick_fills (s : State) : s.FillsReserved s.kick := by
  simp only [State.kick, State.eachString, List.foldl]
  exact (((s.runLine_fills 0).trans (State.runLine_fills _ 1)).trans (State.runLine_fills _ 2)).trans (State.runLine_fills _ 3)

/-- What a consumption sets off fills reserved entries with the closing advisories of the lines, and nothing else (R136). -/
theorem State.consumed_fills (s : State) : s.FillsReserved s.consumed := by
  have hafter : s.FillsReserved s.consumeHead.afterHead :=
    State.fillsReserved_of_jw ((State.jw_of_outside (State.afterHead_outside _)).trans s.consumeHead_jw)
  exact hafter.trans (State.kick_fills _)

/-- An entry is reserved first, and then entries are filled as the lines are taken up (R136). -/
theorem State.reserved_of_fills {s t : State} (h : s.reserve.FillsReserved t) : s.Reserved t := h

/-! ### The fence list -/

/-- A pick of the table was consumed ahead of a fence (R146; log 23). -/
def State.AheadOf (s : State) (f : Fence) : Prop :=
  ∃ e ∈ s.pm.entries, ∃ p, e.pick = some p ∧ 0 < (f.intakeSequence - p.intakeSequence).toNat ∧
    (f.intakeSequence - p.intakeSequence).toNat < 2 ^ 31

/-- A fence is reached when no pick of the table is ahead of it (R146). -/
theorem State.fenceReached_iff (s : State) (f : Fence) : s.fenceReached f = true ↔ ¬s.AheadOf f := by
  simp only [State.fenceReached, List.all_eq_true, State.AheadOf, not_exists, not_and]
  refine forall_congr' fun e => imp_congr_right fun _ => ?_
  cases e.pick with
  | none => simp
  | some p =>
    simp only [precedes, Option.map_some, Option.getD_some, Option.some.injEq, Bool.not_eq_true', decide_eq_false_iff_not,
      not_and, forall_eq']

/-- The first fences of the list, all reached, leave it with their advisories, each into the entry reserved for it (R146). -/
structure State.Passes (s t : State) (k : Nat) : Prop where
  pm : t.pm = { s.pm with fences := s.pm.fences.drop k }
  report : t.jw.report = s.jw.report ++ (s.pm.fences.take k).map fun f => Item.advisory (s.fenceRecord f)
  reserved : t.jw.reserved = s.jw.reserved - k
  reached : ∀ f ∈ s.pm.fences.take k, s.fenceReached f = true

theorem State.passes_zero (s : State) : s.Passes s 0 := ⟨rfl, by simp, rfl, by simp⟩

/-- The first fence of the list, reached, leaves it with its advisory (R146). -/
def State.passFence (s : State) (f : Fence) (fs : List Fence) : State :=
  (s.setPm { s.pm with fences := fs }).offerClosing (s.fenceRecord f)

theorem State.Passes.succ {s t : State} {f : Fence} {fs : List Fence} {k : Nat} (hs : s.pm.fences = f :: fs)
    (hf : s.fenceReached f = true) (h : (s.passFence f fs).Passes t k) : s.Passes t (k + 1) where
  pm := by
    rw [h.pm, hs]
    rfl
  report := by
    rw [h.report, hs]
    simp only [List.take_succ_cons, List.map_cons]
    exact List.append_assoc _ _ _
  reserved := by
    rw [h.reserved, Nat.add_comm k 1, ← Nat.sub_sub]
    rfl
  reached := by
    intro g hg
    rw [hs, List.take_succ_cons, List.mem_cons] at hg
    obtain rfl | hg := hg
    · exact hf
    · exact h.reached g hg

/-- The fences are taken from the front up to the first that is not reached (R146). -/
theorem State.takeFences_passes {s : State} {fs : List Fence} (hs : s.pm.fences = fs) :
    ∃ k ≤ fs.length, s.Passes (s.takeFences fs) k ∧
      ∀ f, (s.takeFences fs).pm.fences.head? = some f → s.fenceReached f = false := by
  induction fs generalizing s with
  | nil => exact ⟨0, Nat.le_refl _, s.passes_zero, fun f hf => by simp [State.takeFences, hs] at hf⟩
  | cons f fs ih =>
    unfold State.takeFences
    split
    · next hf =>
      obtain ⟨k, hk, hpasses, hfirst⟩ := ih (s := s.passFence f fs) rfl
      exact ⟨k + 1, Nat.succ_le_succ hk, hpasses.succ hs hf, hfirst⟩
    · next hf =>
      refine ⟨0, Nat.zero_le _, s.passes_zero, fun g hg => ?_⟩
      obtain rfl : f = g := by simpa [hs] using hg
      simpa using hf

/-- The fence list, judged on entries of good parity (R146, R171). -/
theorem State.judgeFences_passes {s : State} (h : ∀ e ∈ s.pm.entries, e.parity = true) :
    ∃ k ≤ s.pm.fences.length, s.Passes s.judgeFences k ∧
      ∀ f, s.judgeFences.pm.fences.head? = some f → s.fenceReached f = false := by
  unfold State.judgeFences
  split
  · next hempty =>
    have hnone : s.pm.fences = [] := by simpa using hempty
    exact ⟨0, Nat.zero_le _, s.passes_zero, fun f hf => by simp [hnone] at hf⟩
  · rw [s.checkPicks_of_intact h]
    exact State.takeFences_passes rfl

/-- A list that holds fences is judged from its front (R146). -/
theorem State.judgeFences_of_front {s : State} (h : ∀ e ∈ s.pm.entries, e.parity = true) {f : Fence} {fs : List Fence}
    (hs : s.pm.fences = f :: fs) :
    s.judgeFences = if s.fenceReached f then (s.passFence f fs).takeFences fs else s := by
  rw [State.judgeFences, s.checkPicks_of_intact h, hs]
  rfl

/-! ### FENCE -/

/-- The fence that a record brings (R145). -/
def State.fenceOf (s : State) (r : TaskRecord) : Fence :=
  { id := r.arg1, intakeSequence := s.iu.taken, timeAccepted := s.lrc.clock }

/-- The fence stands at the end of the list, with an advisory entry reserved for it, and is not judged yet (R136, R145). -/
def State.fenced (s : State) (r : TaskRecord) : State :=
  s.reserve.setPm { s.pm with fences := s.pm.fences ++ [s.fenceOf r] }

section Fences

variable {s : State} {r : TaskRecord}

theorem exec_fence (hi : s.Intact) (hs : 0 < s.jw.spare) (hroom : s.pm.fences.length < 4) (hh : s.HeadIs r .fence) :
    exec .fence s = .next (s.addFence r).consumed := by
  have hexec := State.directive_contexts (fun t q => t.addFence q) hi hs hh
  rw [← decide_eq_true hroom] at hexec
  exact congrArg Host.Outcome.next hexec

/-- With no other fence, one that no pick is ahead of is reached in its own consumption: its entry is reserved and filled (R146). -/
theorem State.addFence_of_reached (hi : s.Intact) (hnone : s.pm.fences = []) (hreached : s.fenceReached (s.fenceOf r) = true) :
    s.addFence r = (s.fenced r).passFence (s.fenceOf r) [] := by
  have hfences : (s.fenced r).pm.fences = [s.fenceOf r] := by
    rw [State.fenced, State.setPm_pm, hnone]
    rfl
  exact (State.judgeFences_of_front (s := s.fenced r) hi.1 hfences).trans (if_pos hreached)

/-- A fence waits while a pick is ahead of the first of the list (R146). -/
theorem State.addFence_of_waiting (hi : s.Intact) {g : Fence} {gs : List Fence} (hg : s.pm.fences ++ [s.fenceOf r] = g :: gs)
    (hwaits : ¬s.fenceReached g = true) : s.addFence r = s.fenced r :=
  (State.judgeFences_of_front (s := s.fenced r) hi.1 hg).trans (if_neg hwaits)

/-- A fence that waits, through its consumption. -/
theorem State.fenced_consumed (s : State) (r : TaskRecord) : s.Took (s.fenced r).consumed ∧
    (s.fenced r).consumed.pm = { s.pm with fences := s.pm.fences ++ [s.fenceOf r] } ∧ s.Reserved (s.fenced r).consumed := by
  have hfenced : s.reserve.FillsReserved (s.fenced r) := State.fillsReserved_of_jw rfl
  exact ⟨State.took_consumed rfl rfl, State.consumed_pm _, State.reserved_of_fills (hfenced.trans (State.consumed_fills _))⟩

end Fences

/-- Settles O38: the list is judged from the front, fence by fence; a FENCE by the first of the list that it leaves. -/
theorem fencesAreReachedInOrder : Obligations.FencesAreReachedInOrder := by
  unfold Obligations.FencesAreReachedInOrder
  refine ⟨fun s r hi hs hroom hh => ?_, fun s hp => ?_⟩
  · intro f ahead
    have hexec := exec_fence hi hs hroom hh
    have hwaits (g : Fence) (hg : ahead g) : ¬s.fenceReached g = true := fun hr => (s.fenceReached_iff g).1 hr hg
    refine ⟨fun ⟨hnone, hreached⟩ => ⟨_, hexec, ?_⟩, fun ⟨hnone, hahead⟩ => ⟨_, hexec, ?_⟩,
      fun g gs hg hahead => ⟨_, hexec, ?_⟩⟩
    · rw [State.addFence_of_reached hi hnone ((s.fenceReached_iff f).2 hreached)]
      have hstands : { s.pm with fences := [] } = s.pm := by rw [← hnone]
      have hreport : s.Reported ((s.fenced r).passFence f []) [.advisory (s.fenceRecord f)] := ⟨[], by simp; rfl, by simp⟩
      exact ⟨State.took_consumed rfl rfl, (State.consumed_pm _).trans hstands, hreport.trans (State.consumed_reported _)⟩
    · have hlist : s.pm.fences ++ [f] = [f] := by rw [hnone, List.nil_append]
      rw [State.addFence_of_waiting hi hlist (hwaits f hahead)]
      have hconsumed := s.fenced_consumed r
      rwa [show s.pm.fences ++ [s.fenceOf r] = [f] from hlist] at hconsumed
    · rw [State.addFence_of_waiting hi (congrArg (· ++ [f]) hg) (hwaits g hahead)]
      exact s.fenced_consumed r
  · obtain ⟨k, hk, hpasses, hfirst⟩ := State.judgeFences_passes hp
    exact ⟨k, hk, hpasses.pm, hpasses.report, hpasses.reserved, hpasses.reached, hfirst, fun _ => rfl⟩

end Sys2Proof.Machine
end

section
/-! Proofs of the family of 08 (directives), fifth part: LIGHT-TEST and CENSUS (O39). -/

namespace Sys2Proof.Machine

/-! ### NOTICE through a consumption -/

/-- On a cache of good parity a lookup raises no notice (R98, R171). -/
theorem State.SoundCache.lookup_keeps {s : State} (h : s.SoundCache) (slot : Nat) :
    (s.lookup slot).1.SoundCache ∧ (s.lookup slot).1.lrc = s.lrc := by
  cases hway : s.wayOf slot with
  | some i =>
    rw [h.lookup_of_way hway]
    exact ⟨h.setLru _ _, rfl⟩
  | none =>
    by_cases hx : ∃ x, s.ac.lookahead = some x ∧ x.slot = slot
    · obtain ⟨x, hx, hslot⟩ := hx
      rw [h.lookup_of_lookahead hway hx hslot]
      exact ⟨h.promote _, rfl⟩
    · rw [h.lookup_of_miss hway fun x hsome hslot => hx ⟨x, hsome, hslot⟩]
      exact ⟨h, rfl⟩

@[simp] theorem State.demand_lrc (s : State) (slot : Nat) : (s.demand slot).lrc = s.lrc := by
  unfold State.demand
  split
  · rfl
  · exact State.linkRead_lrc _ _ _

theorem State.SoundCache.demand {s : State} (h : s.SoundCache) (slot : Nat) : (s.demand slot).SoundCache :=
  h.of_ways (by rw [State.demand_ac]) (by rw [State.demand_ac])

theorem State.SoundCache.askAtlas_keeps {s : State} (h : s.SoundCache) (slot : Nat) :
    (s.askAtlas slot).1.SoundCache ∧ (s.askAtlas slot).1.lrc = s.lrc := by
  obtain ⟨hsound, hlrc⟩ := h.lookup_keeps slot
  rcases hl : s.lookup slot with ⟨t, f | f⟩ <;> rw [hl] at hsound hlrc
  · rw [State.askAtlas_of_miss hl]
    exact ⟨hsound.demand slot, (State.demand_lrc t slot).trans hlrc⟩
  · rw [State.askAtlas_of_found hl]
    exact ⟨hsound, hlrc⟩

theorem State.SoundCache.offerHead_keeps {s : State} (h : s.SoundCache) : s.offerHead.SoundCache ∧ s.offerHead.lrc = s.lrc := by
  unfold State.offerHead
  split
  · split
    · exact h.askAtlas_keeps _
    · exact ⟨h, rfl⟩
  · exact ⟨h, rfl⟩

theorem State.SoundCache.candidateSearch_lrc {s : State} (h : s.SoundCache) : s.candidateSearch.lrc = s.lrc := by
  obtain heq | ⟨slot, heq⟩ := h.candidateSearch_cases <;> rw [heq]
  exact State.linkRead_lrc _ _ _

/-- On a cache of good parity what a consumption sets off leaves run control, NOTICE with it. -/
theorem State.SoundCache.consumed_lrc {s : State} (h : s.SoundCache) : s.consumed.lrc = s.lrc := by
  obtain ⟨hsound, hoffer⟩ := h.nextOffer.offerHead_keeps
  calc s.consumed.lrc = s.nextOffer.offerHead.candidateSearch.lrc := State.kick_lrc _
    _ = s.nextOffer.lrc := hsound.candidateSearch_lrc.trans hoffer
    _ = s.lrc := by rw [State.nextOffer, State.startRecordFetch_lrc, State.consumeHead_lrc]

/-! ### A string through a consumption -/

@[simp] theorem State.consumeHead_strings (s : State) : s.consumeHead.strings = s.strings := by
  unfold State.consumeHead
  dsimp only
  split <;> simp

/-- A string after a consumption is that string after the taking up of its own line. -/
theorem State.consumed_stringAt {s : State} {n : Nat} (hn : n < 4) (hs : s.strings.length = 4) :
    ∃ t : State, n < t.strings.length ∧ t.stringAt n = s.stringAt n ∧ s.consumed.stringAt n = (t.runLine n).stringAt n := by
  have hafter : s.consumeHead.afterHead.strings = s.strings :=
    (State.strings_of_outside (State.afterHead_outside _)).trans s.consumeHead_strings
  obtain ⟨t, hlasting, -, hat, hkick⟩ := State.kick_stringAt s.consumeHead.afterHead hn
  refine ⟨t, ?_, hat.trans (State.stringAt_of_strings hafter n), hkick⟩
  rw [State.stringCount_of_lasting hlasting, hafter, hs]
  exact hn

section Line

variable {t : State} {n : Nat}

/-- A string that waits for its feed, or whose feed is off, has nothing to send (R76, R77, R91). -/
theorem State.runLine_of_unlit (hmode : (t.stringAt n).mode = .settling ∨ (t.stringAt n).mode = .feedFault)
    (hline : (t.stringAt n).line = .idle) (hdue : (t.stringAt n).due = []) (hsweep : (t.stringAt n).sweep = none) :
    t.runLine n = t := by
  have hsettled : t.settleMode n = t := by
    apply State.settleMode_of_mode <;> obtain hm | hm := hmode <;> simp [hm]
  have hturn : t.turn n = t := by obtain hm | hm := hmode <;> simp only [State.turn, hm]
  rw [State.runLine_of_turn hsettled hline hdue hsweep, hturn]

theorem Line.detach_ne_idle {l : Line} (h : l ≠ .idle) : l.detach ≠ .idle := by
  cases l <;> simp_all [Line.detach]

/-- A light test opens with its TEST broadcast, behind what the line still carries (R84, R92). -/
theorem State.runLine_of_enterTest (hn : n < t.strings.length) {x : StringCtl} {seconds : Nat}
    (ht : t.stringAt n = x.enterTest seconds) :
    let y := (t.runLine n).stringAt n
    y.mode = .test ∧ y.purpose = some .test ∧ y.sweep = none ∧
      (x.line = .idle → x.due = [] → y.line = .broadcast (.test seconds) 1) ∧
      (x.line ≠ .idle → y.due = x.due ++ [.test seconds]) := by
  have hmode : t.settleMode n = t := by
    apply State.settleMode_of_mode <;> simp [ht, StringCtl.enterTest]
  have hdue : (t.stringAt n).due = x.due ++ [.test seconds] := by rw [ht]; rfl
  have hline : (t.stringAt n).line = x.line.detach := by rw [ht]; rfl
  obtain ⟨line, due, hy⟩ := State.runLine_of_noTurn hmode hn (.inr (by simp [hdue]))
  refine ⟨by rw [hy, ht]; rfl, by rw [hy, ht]; rfl, by rw [hy, ht]; rfl, fun hidle hnone => ?_, fun hbusy => ?_⟩
  · have hfirst : (t.stringAt n).due = [.test seconds] := by rw [hdue, hnone, List.nil_append]
    have hfree : (t.stringAt n).line = .idle := by rw [hline, hidle]; rfl
    rw [State.runLine_of_due hmode hfree hfirst hn, State.sent_stringAt _ hn]
  · rw [State.runLine_of_busy hmode (by rw [hline]; exact Line.detach_ne_idle hbusy), hdue]

end Line

/-! ### A string that enters a mode -/

/-- An advisory entry is reserved, and a controller is written: a LIGHT-TEST or CENSUS that starts (R84, R85, R136). -/
def State.entering (s : State) (n : Nat) (y : StringCtl) : State := s.reserve.setString n y

section Entering

variable {s : State} {n : Nat}

theorem State.entering_stringAt (hn : n < s.strings.length) (y : StringCtl) : (s.entering n y).stringAt n = y :=
  s.reserve.stringAt_setString_self n y hn

theorem State.entering_strings_length (s : State) (n : Nat) (y : StringCtl) :
    (s.entering n y).strings.length = s.strings.length := s.reserve.setString_length n y

theorem State.entering_consumed (s : State) (n : Nat) (y : StringCtl) : s.Took (s.entering n y).consumed ∧
    (s.entering n y).consumed.pm = s.pm ∧ s.Reserved (s.entering n y).consumed :=
  ⟨State.took_consumed rfl rfl, State.consumed_pm _, State.reserved_of_fills (State.consumed_fills (s.entering n y))⟩

/-- The string that entered its mode is taken up with the rest of the lines. -/
theorem State.entering_runLine (hn : n < 4) (hs : s.strings.length = 4) (y : StringCtl) :
    ∃ t : State, n < t.strings.length ∧ t.stringAt n = y ∧ (s.entering n y).consumed.stringAt n = (t.runLine n).stringAt n := by
  obtain ⟨t, ht, hat, hline⟩ := State.consumed_stringAt (s := s.entering n y) hn ((s.entering_strings_length n y).trans hs)
  exact ⟨t, ht, hat.trans (State.entering_stringAt (by omega) y), hline⟩

end Entering

/-! ### A CENSUS whose string is tripped -/

section Settling

variable {s : State} {n : Nat}

theorem State.judgeFeed_of_noFault (h : (s.stringAt n).feedFaultInput = false) : s.judgeFeed n = s := if_neg (by simp [h])

theorem State.judgeFeed_of_trip (hinput : (s.stringAt n).feedFaultInput = true) (hfeed : (s.stringAt n).feed = true)
    (hmode : (s.stringAt n).mode ≠ .off) : s.judgeFeed n = s.takeFeedFault n := by
  simp [State.judgeFeed, hinput, hfeed, hmode]

/-- A hot address makes its string one with a context (R21). -/
theorem State.anyHot_of_hot {a : Nat} (h : s.hot n a = true) : s.anyHot n = true := by
  obtain ⟨e, he, c, hc, hnames⟩ := State.hot_iff.1 h
  obtain ⟨hstring, -⟩ := Bool.and_eq_true_iff.1 hnames
  rw [State.anyHot, State.findContext, firstFrom_isSome, List.any_eq_true]
  exact ⟨e, he, by simp only [hc, Option.map_some, Option.getD_some, hstring]⟩

theorem State.hotAddresses_of_noneHot (h : s.anyHot n = false) : s.hotAddresses n = [] :=
  List.filter_eq_nil_iff.2 fun _ _ hhot => by simp [State.anyHot_of_hot hhot] at h

theorem State.feedCloses_fills (s : State) (n : Nat) : s.FillsReserved (s.feedCloses n) := by
  unfold State.feedCloses
  split
  · exact s.offerString_fills n (.inl rfl) _ _
  · exact s.offerString_fills n (.inl rfl) _ _
  · exact s.offerString_fills n (.inr rfl) _ _
  · exact s.offerString_fills n (.inr rfl) _ _
  · exact State.fillsReserved_of_jw rfl

/-- A feed fault of a string with no context offers the closing advisory that it brings, and nothing else (R91). -/
theorem State.takeFeedFault_fills (hline : (s.stringAt n).line = .idle) (hhot : s.anyHot n = false) :
    s.FillsReserved (s.takeFeedFault n) := by
  have hdrop : s.dropInFlight n = s := State.dropInFlight_of_other fun _ _ _ h => by simp [hline] at h
  have hnone : (s.feedCloses n).hotAddresses n = [] :=
    (s.hotAddresses_feedCloses n).trans (State.hotAddresses_of_noneHot hhot)
  have hjw : (s.takeFeedFault n).jw = (s.feedCloses n).jw := by
    rw [State.takeFeedFault_eq, State.raise_jw, State.tripped, hdrop, hnone]
    rfl
  exact (s.feedCloses_fills n).trans (State.fillsReserved_of_jw hjw)

end Settling

/-! ### The checks -/

section Checks

variable {s : State} {n : Nat}

theorem State.enabled_eq_false_iff : s.enabled n = false ↔ ∀ u, s.lrc.setup = some u → (u.string n).enabled = false := by
  cases h : s.lrc.setup <;> simp [State.enabled, h]

theorem State.idleString_iff :
    s.idleString n = true ↔ (s.modeOf n = .quiet ∨ s.modeOf n = .dormant) ∧ s.anyHot n = false := by
  simp [State.idleString]

/-- The checks of a LIGHT-TEST in their order (R147). -/
theorem State.lightTest_eq {r : TaskRecord} {seconds : Nat} (hn : r.argByte 0 = n) (hseconds : r.argByte 1 = seconds) :
    s.lightTest r =
      if 3 < n ∨ seconds = 0 ∨ 60 < seconds then s.refuse r .badArgument
      else if s.enabled n = false then s.refuse r .stringOff
      else if s.idleString n = false then s.refuse r .stringBusy else s.entering n ((s.stringAt n).enterTest seconds) := by
  subst hn hseconds
  simp [State.lightTest, State.entering, or_assoc]

/-- The checks of a CENSUS in their order (R91, R148). -/
theorem State.census_eq {r : TaskRecord} (hn : r.argByte 0 = n) : s.census r =
      if 3 < n then s.refuse r .badArgument
      else if s.enabled n = false then s.refuse r .stringOff
      else if s.modeOf n = .feedFault ∧ s.anyHot n = false then
        (s.entering n ((s.stringAt n).enterSettling .census)).judgeFeed n
      else if s.idleString n = false then s.refuse r .stringBusy
      else s.entering n ((s.stringAt n).enterSurvey .census s.paused) := by
  subst hn
  simp [State.census, State.entering]

end Checks

theorem exec_lightTest {s : State} {r : TaskRecord} (hi : s.Intact) (hs : 0 < s.jw.spare) (hh : s.HeadIs r .lightTest) :
    exec .lightTest s = .next (s.lightTest r).consumed :=
  congrArg Host.Outcome.next (State.directive_contexts (fun t q => t.lightTest q) hi hs hh)

theorem exec_census {s : State} {r : TaskRecord} (hi : s.Intact) (hs : 0 < s.jw.spare) (hh : s.HeadIs r .census) :
    exec .census s = .next (s.census r).consumed :=
  congrArg Host.Outcome.next (State.directive_contexts (fun t q => t.census q) hi hs hh)

/-! ### What starts -/

section Starts

variable {s : State} {n : Nat}

/-- A feed that is switched on for a census, with the input low, runs up (R77, R85). -/
theorem State.entering_settles (hn : n < 4) (hs : s.strings.length = 4) (purpose : Purpose) :
    (s.entering n ((s.stringAt n).enterSettling purpose)).consumed.stringAt n = (s.stringAt n).enterSettling purpose := by
  obtain ⟨t, -, hat, hline⟩ := State.entering_runLine hn hs ((s.stringAt n).enterSettling purpose)
  rw [hline, State.runLine_of_unlit (.inl (by rw [hat]; rfl)) (by rw [hat]; rfl) (by rw [hat]; rfl) (by rw [hat]; rfl), hat]

/-- A feed fault that is taken leaves the string in FEED-FAULT through the consumption (R91). -/
theorem State.Undamaged.takeFeedFault_consumed_stringAt (hu : s.Undamaged) (hn : n < 4) (hs : s.strings.length = 4) :
    ∃ ms, (s.takeFeedFault n).consumed.stringAt n = (s.stringAt n).trip ms := by
  obtain ⟨v, -, htrip⟩ := State.takeFeedFault_stringAt hu (n := n) (hs.symm ▸ hn)
  generalize v.feedModules n 1 (s.stringAt n).modules = ms at htrip
  obtain ⟨t, -, hat, hline⟩ := State.consumed_stringAt (s := s.takeFeedFault n) hn
    ((State.stringCount_of_frame (s.takeFeedFault_frame n)).trans hs)
  rw [htrip] at hat
  refine ⟨ms, ?_⟩
  rw [hline, State.runLine_of_unlit (.inr (by rw [hat]; rfl)) (by rw [hat]; rfl) (by rw [hat]; rfl) (by rw [hat]; rfl), hat]

/-- A feed fault raises STRING, which the consumption leaves raised (R91). -/
theorem State.SoundCache.takeFeedFault_consumed_notice (h : s.SoundCache) :
    (s.takeFeedFault n).consumed.lrc.notice &&& Notice.string.bit ≠ 0 := by
  have hac := State.ac_of_frame (s.takeFeedFault_frame n)
  have hsound : (s.takeFeedFault n).SoundCache := h.of_ways (by rw [hac]) (by rw [hac])
  rw [hsound.consumed_lrc]
  exact State.takeFeedFault_notice

end Starts

section Taken

variable {s : State} {r : TaskRecord} {n : Nat} (hn : n < 4) (hshape : s.Shape)
include hn hshape

/-- The LIGHT-TEST that is accepted (R84, R147). -/
theorem State.lightTest_starts {seconds : Nat} (h : s.lightTest r = s.entering n ((s.stringAt n).enterTest seconds)) :
    let t := (s.lightTest r).consumed
    s.Took t ∧ t.pm = s.pm ∧ s.Reserved t ∧
      (t.stringAt n).mode = .test ∧ (t.stringAt n).purpose = some .test ∧ (t.stringAt n).sweep = none ∧
      ((s.stringAt n).line = .idle → (s.stringAt n).due = [] → (t.stringAt n).line = .broadcast (.test seconds) 1) ∧
      ((s.stringAt n).line ≠ .idle → (t.stringAt n).due = (s.stringAt n).due ++ [.test seconds]) := by
  obtain ⟨htook, hpm, hreserved⟩ := s.entering_consumed n ((s.stringAt n).enterTest seconds)
  obtain ⟨t, ht, hat, hline⟩ := State.entering_runLine hn hshape.strings_length ((s.stringAt n).enterTest seconds)
  have htest := State.runLine_of_enterTest ht hat
  rw [← hline] at htest
  rw [h]
  exact ⟨htook, hpm, hreserved, htest⟩

/-- The CENSUS of a string with its feed on (R85, R148). -/
theorem State.census_surveys (h : s.census r = s.entering n ((s.stringAt n).enterSurvey .census s.paused)) :
    let t := (s.census r).consumed
    s.Took t ∧ t.pm = s.pm ∧ s.Reserved t ∧
      (t.stringAt n).mode = .surveying ∧ (t.stringAt n).purpose = some .census ∧ (t.stringAt n).sweep = some Sweep.first := by
  obtain ⟨htook, hpm, hreserved⟩ := s.entering_consumed n ((s.stringAt n).enterSurvey .census s.paused)
  obtain ⟨t, ht, hat, hline⟩ :=
    State.entering_runLine hn hshape.strings_length ((s.stringAt n).enterSurvey .census s.paused)
  obtain ⟨hmode, hpurpose, hsweep, -⟩ := State.runLine_of_enterSurvey ht hat
  rw [← hline] at hmode hpurpose hsweep
  rw [h]
  exact ⟨htook, hpm, hreserved, hmode, hpurpose, hsweep⟩

variable (h : s.census r = (s.entering n ((s.stringAt n).enterSettling .census)).judgeFeed n)
include h

/-- The CENSUS of a string whose feed may be switched on again (R85, R148). -/
theorem State.census_settles (hinput : (s.stringAt n).feedFaultInput = false) :
    let t := (s.census r).consumed
    s.Took t ∧ t.pm = s.pm ∧ s.Reserved t ∧ t.stringAt n = (s.stringAt n).enterSettling .census := by
  obtain ⟨htook, hpm, hreserved⟩ := s.entering_consumed n ((s.stringAt n).enterSettling .census)
  have hat := State.entering_stringAt (hshape.lt_strings ⟨n, hn⟩) ((s.stringAt n).enterSettling .census)
  have hsettles := State.entering_settles hn hshape.strings_length .census
  rw [h, State.judgeFeed_of_noFault ((congrArg StringCtl.feedFaultInput hat).trans hinput)]
  exact ⟨htook, hpm, hreserved, hsettles⟩

/-- The CENSUS of a string whose fault still stands: the feed that it switches on trips again (R85, R91). -/
theorem State.census_trips (hi : s.Intact) (hhot : s.anyHot n = false) (hinput : (s.stringAt n).feedFaultInput = true) :
    let t := (s.census r).consumed
    s.Took t ∧ s.Reserved t ∧ (∃ ms, t.stringAt n = ((s.stringAt n).enterSettling .census).trip ms) ∧
      t.lrc.notice &&& Notice.string.bit ≠ 0 := by
  have hat := State.entering_stringAt (hshape.lt_strings ⟨n, hn⟩) ((s.stringAt n).enterSettling .census)
  have hlength := (s.entering_strings_length n ((s.stringAt n).enterSettling .census)).trans hshape.strings_length
  have hundamaged : (s.entering n ((s.stringAt n).enterSettling .census)).Undamaged :=
    hi.undamaged.of_tables rfl rfl
  have hsound : (s.entering n ((s.stringAt n).enterSettling .census)).SoundCache :=
    (hi.soundCache hshape).of_ways rfl rfl
  have htook {t : State} (ht : t.iu = (s.entering n ((s.stringAt n).enterSettling .census)).iu) : s.Took t.consumed :=
    State.took_consumed (by rw [ht]; rfl) (by rw [ht]; rfl)
  have hreserved {t : State} (ht : (s.entering n ((s.stringAt n).enterSettling .census)).FillsReserved t) :
      s.Reserved t.consumed := State.reserved_of_fills (State.FillsReserved.trans ht t.consumed_fills)
  have hfault : (s.entering n ((s.stringAt n).enterSettling .census)).anyHot n = false := hhot
  rw [h]
  generalize s.entering n ((s.stringAt n).enterSettling .census) = w at *
  have htrips := hundamaged.takeFeedFault_consumed_stringAt hn hlength
  rw [State.judgeFeed_of_trip (by rw [hat]; exact hinput) (by rw [hat]; rfl) (by rw [hat]; simp [StringCtl.enterSettling])]
  rw [hat] at htrips
  exact ⟨htook (State.iu_of_frame (w.takeFeedFault_frame n)),
    hreserved (State.takeFeedFault_fills (by rw [hat]; rfl) hfault), htrips, hsound.takeFeedFault_consumed_notice⟩

end Taken

/-- Settles O39: the checks are the branches of State.lightTest and State.census; the string that enters its mode is taken up with the
lines, and a fault that stands at the feed switched on for a census trips it again. -/
theorem lightTestsAndCensusesAreJudgedAndStarted : Obligations.LightTestsAndCensusesAreJudgedAndStarted := by
  unfold Obligations.LightTestsAndCensusesAreJudgedAndStarted
  constructor
  · intro s r hi hshape hs hh n seconds bad off idle refused
    have hexec := exec_lightTest hi hs hh
    have heq := State.lightTest_eq (s := s) (show r.argByte 0 = n from r.argByte_zero)
      (show r.argByte 1 = seconds from r.argByte_one)
    have hoff : s.enabled n = false ↔ off := State.enabled_eq_false_iff
    have hidle : s.idleString n = false ↔ ¬idle := by
      rw [← Bool.not_eq_true]
      exact not_congr State.idleString_iff
    clear_value n seconds
    refine ⟨fun hbad => State.refuses_of_exec hexec (heq.trans (if_pos hbad)),
      fun hgood h => State.refuses_of_exec hexec (heq.trans ((if_neg hgood).trans (if_pos (hoff.2 h)))),
      fun hgood hon h => State.refuses_of_exec hexec (heq.trans ((if_neg hgood).trans ((if_neg (mt hoff.1 hon)).trans
        (if_pos (hidle.2 h))))), fun hgood hon h => ⟨_, hexec, ?_⟩⟩
    have hn : n < 4 := Nat.lt_succ_of_le (Nat.not_lt.1 fun h => hgood (.inl h))
    exact State.lightTest_starts hn hshape (heq.trans ((if_neg hgood).trans ((if_neg (mt hoff.1 hon)).trans
      (if_neg (mt hidle.1 (not_not.2 h))))))
  · intro s r hi hshape hs hh n off quiet tripped refused
    have hexec := exec_census hi hs hh
    have heq := State.census_eq (s := s) (show r.argByte 0 = n from r.argByte_zero)
    have hoff : s.enabled n = false ↔ off := State.enabled_eq_false_iff
    have hquiet : s.idleString n = false ↔ ¬quiet := by
      rw [← Bool.not_eq_true]
      exact not_congr State.idleString_iff
    clear_value n
    have hon (hn : n ≤ 3) (h : ¬off) := heq.trans ((if_neg (Nat.not_lt.2 hn)).trans (if_neg (mt hoff.1 h)))
    refine ⟨fun hbad => State.refuses_of_exec hexec (heq.trans (if_pos hbad)),
      fun hn h => State.refuses_of_exec hexec (heq.trans ((if_neg (Nat.not_lt.2 hn)).trans (if_pos (hoff.2 h)))),
      fun hn h hbusy hlit => State.refuses_of_exec hexec ((hon hn h).trans ((if_neg hlit).trans (if_pos (hquiet.2 hbusy)))),
      fun hn h hidle => ⟨_, hexec, ?_⟩, fun hn h htrip hinput => ⟨_, hexec, ?_⟩, fun hn h htrip hinput => ⟨_, hexec, ?_⟩⟩
    · have hlit : ¬tripped := fun ⟨hmode, _⟩ => by obtain ⟨hm | hm, -⟩ := hidle <;> simp [hm] at hmode
      exact State.census_surveys (Nat.lt_succ_of_le hn) hshape
        ((hon hn h).trans ((if_neg hlit).trans (if_neg (mt hquiet.1 (not_not.2 hidle)))))
    · obtain ⟨htook, hpm, hreserved, hsettles⟩ :=
        State.census_settles (Nat.lt_succ_of_le hn) hshape ((hon hn h).trans (if_pos htrip)) hinput
      rw [hsettles]
      exact ⟨htook, hpm, hreserved, rfl, rfl, rfl, rfl⟩
    · obtain ⟨htook, hreserved, ⟨ms, htrips⟩, hnotice⟩ :=
        State.census_trips (Nat.lt_succ_of_le hn) hshape ((hon hn h).trans (if_pos htrip)) hi htrip.2 hinput
      rw [htrips]
      exact ⟨htook, hreserved, rfl, rfl, hnotice⟩

end Sys2Proof.Machine
end

section
/-! Proofs of the family of 09 (the outcome journal and notices), first part: the journal's law (R124, R151, R155, R157) through
records written, seals and polls, and then through every other command and the idle step (O58). -/

namespace Sys2Proof.Machine

/-! ### The counts that the law speaks of -/

section Counts

variable {s t : State}

/-- The law as one of the seal timer, of the part with no setup copy, and of the part with one. -/
theorem State.journalLaw_iff : s.JournalLaw ↔
    (s.jw.sealTimer.isSome = true ↔ 0 < s.jw.written) ∧
      (s.lrc.setup = none → s.jw.sealed = 0 ∧ s.jw.released = 0 ∧ s.jw.written = 0) ∧
      ∀ u, s.lrc.setup = some u → 1 ≤ u.blocks ∧ u.blocks ≤ 64 ∧ s.jw.unreleased ≤ u.blocks ∧
        s.jw.written < u.records ∧ (0 < s.jw.written → s.jw.unreleased < u.blocks) := by
  unfold State.JournalLaw
  cases s.lrc.setup <;> simp

/-- The law speaks of the setup copy, the journal's counts and whether the seal timer is present, and of nothing else. -/
theorem State.JournalLaw.of_counts (h : s.JournalLaw) (hsetup : t.lrc.setup = s.lrc.setup) (hsealed : t.jw.sealed = s.jw.sealed)
    (hreleased : t.jw.released = s.jw.released) (hwritten : t.jw.written = s.jw.written)
    (htimer : t.jw.sealTimer.isSome = s.jw.sealTimer.isSome) : t.JournalLaw := by
  rw [State.journalLaw_iff] at h ⊢
  simp only [Journal.unreleased] at h ⊢
  rwa [hsetup, hsealed, hreleased, hwritten, htimer]

theorem State.JournalLaw.of_jw (h : s.JournalLaw) (hjw : t.jw = s.jw) (hsetup : t.lrc.setup = s.lrc.setup) : t.JournalLaw :=
  h.of_counts hsetup (by rw [hjw]) (by rw [hjw]) (by rw [hjw]) (by rw [hjw])

theorem State.JournalLaw.of_leavesRun (h : s.JournalLaw) (ht : s.LeavesRun t) : t.JournalLaw :=
  h.of_counts (by rw [ht.lrc]) ht.sealed ht.released ht.written (by rw [ht.sealTimer])

theorem State.JournalLaw.of_frame (h : s.JournalLaw) (ht : t.frame = s.frame) : t.JournalLaw :=
  h.of_leavesRun (State.leavesRun_of_frame ht)

theorem State.JournalLaw.of_outside (h : s.JournalLaw) (ht : t.outside = s.outside) : t.JournalLaw :=
  h.of_leavesRun (State.leavesRun_of_outside ht)

theorem State.journalLaw_ite {c : Prop} [Decidable c] (hs : s.JournalLaw) (ht : t.JournalLaw) :
    (if c then s else t).JournalLaw := by
  split
  · exact hs
  · exact ht

/-- An empty journal keeps the law, where the setup copy has block and record counts that the START checks accept (R109, R151). -/
theorem State.journalLaw_of_zero (hsealed : s.jw.sealed = 0) (hreleased : s.jw.released = 0) (hwritten : s.jw.written = 0)
    (htimer : s.jw.sealTimer = none) (hu : ∀ u, s.lrc.setup = some u → 1 ≤ u.blocks ∧ u.blocks ≤ 64 ∧ 0 < u.records) :
    s.JournalLaw := by
  rw [State.journalLaw_iff, Journal.unreleased, hsealed, hreleased, hwritten, htimer]
  refine ⟨by simp, fun _ => ⟨rfl, rfl, rfl⟩, fun u hs => ?_⟩
  obtain ⟨hone, hmost, hrecords⟩ := hu u hs
  exact ⟨hone, hmost, Nat.zero_le _, hrecords, fun h => absurd h (Nat.lt_irrefl 0)⟩

end Counts

/-! ### The record that is written -/

/-- The open block holds one record more than before, and the seal timer runs; nothing is sealed yet (R154). -/
structure State.Recorded (s t : State) (u : Setup) : Prop where
  setup : t.lrc.setup = some u
  sealed : t.jw.sealed = s.jw.sealed
  released : t.jw.released = s.jw.released
  written : t.jw.written = s.jw.written + 1
  sealTimer : t.jw.sealTimer = if s.jw.written = 0 then some u.sealDelay else s.jw.sealTimer

/-- An advisory written with the lost count, which returns to 0, before the closing conditions are judged (R154). -/
def State.noted (s : State) (u : Setup) (r : OutcomeRecord) : State :=
  let t := s.writeRecord u (r.bytes s.jw.lost)
  t.setJw { t.jw with lost := 0 }

section Recorded

variable {s t w : State} {u : Setup}

theorem State.Recorded.of_leavesRun (h : s.Recorded t u) (hw : t.LeavesRun w) : s.Recorded w u where
  setup := by rw [hw.lrc]; exact h.setup
  sealed := hw.sealed.trans h.sealed
  released := hw.released.trans h.released
  written := hw.written.trans h.written
  sealTimer := hw.sealTimer.trans h.sealTimer

theorem State.recorded_writeRecord (hu : s.lrc.setup = some u) (data : List Byte) : s.Recorded (s.writeRecord u data) u := by
  refine ⟨?_, ?_, ?_, ?_, ?_⟩ <;> simp [State.writeRecord, hu]

theorem State.recorded_noted (hu : s.lrc.setup = some u) (r : OutcomeRecord) : s.Recorded (s.noted u r) u :=
  (State.recorded_writeRecord hu _).of_leavesRun ⟨rfl, rfl, rfl, rfl, rfl, rfl⟩

end Recorded

theorem State.examineFences_frame (s : State) : s.examineFences.frame = s.frame := by
  unfold State.examineFences
  split <;> simp

/-! ### The open block -/

/-- The open block holds records, R at most, and a block is free: what a record leaves until the closing conditions are judged (R154,
R155). -/
structure State.Filling (s : State) (u : Setup) : Prop where
  setup : s.lrc.setup = some u
  blocks : u.blocks ≤ 64
  free : s.jw.unreleased < u.blocks
  timer : s.jw.sealTimer.isSome = true
  holds : 0 < s.jw.written
  most : s.jw.written ≤ u.records

/-- A seal advances the count of blocks that the host has yet to release (R111, R155). -/
theorem unreleased_of_seal {sealed released : Count} (h : (sealed - released).toNat < 64) :
    (sealed + 1 - released).toNat = (sealed - released).toNat + 1 := by
  bv_omega

section Filling

variable {s t : State} {u : Setup}

theorem State.JournalLaw.filling (h : s.JournalLaw) (hu : s.lrc.setup = some u) (hsome : 0 < s.jw.written) : s.Filling u := by
  obtain ⟨htimer, -, hblocks⟩ := State.journalLaw_iff.1 h
  obtain ⟨-, hmost, -, hless, hfree⟩ := hblocks u hu
  exact ⟨hu, hmost, hfree hsome, htimer.2 hsome, hsome, hless.le⟩

/-- A block that is not full stays open within the law. -/
theorem State.Filling.journalLaw (h : s.Filling u) (hless : s.jw.written < u.records) : s.JournalLaw := by
  rw [State.journalLaw_iff, h.setup]
  refine ⟨⟨fun _ => h.holds, fun _ => h.timer⟩, fun hnone => (nomatch hnone), fun v hv => ?_⟩
  obtain rfl : u = v := Option.some.inj hv
  exact ⟨Nat.one_le_of_lt h.free, h.blocks, h.free.le, hless, fun _ => h.free⟩

/-- The seal of a block that holds records takes the one that was free (R155). -/
theorem State.Filling.sealBlock (h : s.Filling u) : s.sealBlock.JournalLaw := by
  obtain ⟨hjw, hlrc, -⟩ := s.sealBlock_eq u h.setup
  have hsetup : s.sealBlock.lrc.setup = some u := by rw [hlrc]; exact h.setup
  have hfree := h.free
  have hnext := unreleased_of_seal (hfree.trans_le h.blocks)
  rw [State.journalLaw_iff, hsetup, hjw]
  refine ⟨by simp, fun hnone => (nomatch hnone), fun v hv => ?_⟩
  obtain rfl : u = v := Option.some.inj hv
  refine ⟨Nat.one_le_of_lt hfree, h.blocks, ?_, h.holds.trans_le h.most, fun hsome => absurd hsome (Nat.lt_irrefl 0)⟩
  exact hnext.trans_le hfree

/-- A full block is sealed, and any block that a FENCE-REACHED closes (R154, R155). -/
theorem State.Filling.closeBlock (h : s.Filling u) (fence : Bool) : (s.closeBlock u fence).JournalLaw := by
  unfold State.closeBlock
  split
  · exact h.sealBlock
  · next hopen =>
    have hne : s.jw.written ≠ u.records := by
      rintro heq
      simp [heq] at hopen
    exact h.journalLaw (lt_of_le_of_ne h.most hne)

/-- A record goes into a block that is free, and finds the seal timer started or starts it (R154). -/
theorem State.Recorded.filling (ht : s.Recorded t u) (h : s.JournalLaw) (hu : s.lrc.setup = some u)
    (hfree : s.jw.unreleased < u.blocks) : t.Filling u := by
  obtain ⟨htimer, -, hblocks⟩ := State.journalLaw_iff.1 h
  obtain ⟨-, hmost, -, hless, -⟩ := hblocks u hu
  have hwritten := ht.written
  refine ⟨ht.setup, hmost, ?_, ?_, by omega, by omega⟩
  · rwa [Journal.unreleased, ht.sealed, ht.released]
  · rw [ht.sealTimer]
    split
    · rfl
    · next hsome => exact htimer.2 (Nat.pos_of_ne_zero hsome)

end Filling

/-- The host's count moves towards SEALED or stands, so that it releases blocks and takes none back (R124). -/
theorem Journal.unreleased_judgeReleased (j : Journal) (q : Count) :
    ({ j with released := (j.judgeReleased q).1 } : Journal).unreleased ≤ j.unreleased := by
  unfold Journal.judgeReleased Journal.unreleased
  split
  · simp
  · next hgood =>
    dsimp only
    bv_omega

/-! ### The run states, the reads and the journal -/

theorem State.journalLaw_power (s : State) : s.power.JournalLaw :=
  State.journalLaw_of_zero rfl rfl rfl rfl fun _ hu => nomatch hu

section RunStates

variable {s : State}

theorem State.JournalLaw.kick (h : s.JournalLaw) : s.kick.JournalLaw := h.of_frame s.kick_frame

theorem State.journalLaw_clearRun (s : State) : s.clearRun.JournalLaw :=
  State.JournalLaw.kick (State.journalLaw_of_zero rfl rfl rfl rfl fun _ hu => nomatch hu)

theorem State.journalLaw_resetAll (s : State) (link soft : Bool) : (s.resetAll link soft).JournalLaw :=
  State.JournalLaw.kick (State.journalLaw_of_zero rfl rfl rfl rfl fun _ hu => nomatch hu)

/-- The START checks accept 2 to 64 blocks of 8 to 64 records (R109). -/
theorem State.journalLaw_acceptStart (s : State) {hostLine block : List Byte} (h : startVerdict hostLine block = .accepted) :
    (s.acceptStart (setupCopy block)).JournalLaw := by
  obtain ⟨hsealed, hreleased, hwritten, htimer⟩ := s.acceptStart_counts (setupCopy block)
  refine State.journalLaw_of_zero hsealed hreleased hwritten htimer fun u hu => ?_
  obtain rfl : setupCopy block = u := by
    rw [State.acceptStart_lrc] at hu
    exact Option.some.inj hu
  by_cases hsizes : sizesGood block
  · obtain ⟨-, hblocks, hrecords⟩ := hsizes
    simp only [List.mem_cons, List.not_mem_nil, or_false] at hblocks hrecords
    change 1 ≤ fieldAt block 2 2 ∧ fieldAt block 2 2 ≤ 64 ∧ 0 < fieldAt block 4 2
    omega
  · exact nomatch (startVerdict_of_sizes hsizes).symm.trans h

variable (h : s.JournalLaw)
include h

theorem State.JournalLaw.checkContexts : s.checkContexts.JournalLaw := h.of_frame s.checkContexts_frame

theorem State.JournalLaw.sealOpen : s.sealOpen.JournalLaw := by
  unfold State.sealOpen
  split
  · exact h
  · next hne =>
    have hsome : 0 < s.jw.written := Nat.pos_of_ne_zero (by simpa using hne)
    cases hu : s.lrc.setup with
    | none => exact h.of_jw (by simp [State.sealBlock, hu]) (by simp [State.sealBlock, hu])
    | some u => exact (h.filling hu hsome).sealBlock

theorem State.JournalLaw.enterHalted : s.enterHalted.JournalLaw := by
  unfold State.enterHalted
  extract_lets pinned _ rebuilt passed
  have hr : rebuilt.JournalLaw := h.of_jw rfl rfl
  have hp : passed.JournalLaw := State.journalLaw_ite (hr.of_frame rebuilt.placementPass_frame) hr
  have hm : (passed.mapStrings fun x => x.announce .pause).JournalLaw := hp.of_jw rfl rfl
  exact hm.sealOpen.kick

theorem State.JournalLaw.issuePoll : s.issuePoll.JournalLaw := h.of_jw s.issuePoll_jw (by rw [State.issuePoll_lrc])

theorem State.JournalLaw.startRecordFetch : s.startRecordFetch.JournalLaw := h.of_outside s.startRecordFetch_outside

theorem State.JournalLaw.candidateSearch : s.candidateSearch.JournalLaw := h.of_outside s.candidateSearch_outside

theorem State.JournalLaw.prompt : s.prompt.JournalLaw := by
  unfold State.prompt
  split
  · exact h.issuePoll
  · exact h.of_jw rfl rfl
  · exact h

theorem State.JournalLaw.enterRunning : s.enterRunning.JournalLaw := by
  have hrebuilt : ((s.setLrc { s.lrc with run := .running }).rebuildAll).JournalLaw := h.of_jw rfl rfl
  have hpoll {t : State} (ht : t.JournalLaw) : t.resumePoll.JournalLaw := by
    unfold State.resumePoll
    split
    · exact ht.issuePoll
    · exact ht
  have hfetch {t : State} (ht : t.JournalLaw) : t.resumeFetch.JournalLaw := by
    unfold State.resumeFetch
    refine State.JournalLaw.startRecordFetch ?_
    split
    · exact ht.of_jw rfl rfl
    · exact ht
  have hatlas {t : State} (ht : t.JournalLaw) : t.resumeAtlas.JournalLaw := by
    unfold State.resumeAtlas
    extract_lets demandHeld aheadHeld _ freed _ _ released
    have hf : freed.JournalLaw := State.journalLaw_ite (ht.of_jw rfl rfl) ht
    have hr : released.JournalLaw := State.journalLaw_ite (hf.of_jw rfl rfl) hf
    exact State.JournalLaw.candidateSearch (State.journalLaw_ite (hr.of_outside released.offerHead_outside) hr)
  exact State.JournalLaw.kick ((hatlas (hfetch (hpoll hrebuilt))).of_jw rfl rfl)

theorem State.JournalLaw.raise (n : Notice) : (s.raise n).JournalLaw := h.of_frame (s.raise_frame n)

theorem State.JournalLaw.failStart (v : Verdict) : (s.failStart v).JournalLaw :=
  h.of_jw (by simp [State.failStart]) (by simp [State.failStart])

theorem State.JournalLaw.linkFault : s.linkFault.JournalLaw :=
  State.journalLaw_ite (h.raise .link).enterHalted (h.raise .link)

theorem State.JournalLaw.readFails (r : ReadRef) : (s.readFails r).JournalLaw := by
  cases r with
  | startRead => exact h.failStart _
  | headerPoll => exact (h.of_jw (t := s.holdPoll) rfl rfl).linkFault
  | recordFetch => exact (h.of_jw (t := s.holdFetch) rfl rfl).linkFault
  | atlasDemand => exact (h.of_jw (t := s.holdDemand) rfl rfl).linkFault
  | atlasLookahead => exact (h.of_jw (t := s.holdAhead) rfl rfl).linkFault
  | voided _ => exact h

theorem State.JournalLaw.failAt (r : ReadRef) (least : Nat) : (s.failAt r least).JournalLaw := by
  unfold State.failAt
  split
  · exact State.journalLaw_ite (h.checkContexts.readFails r) h
  · exact h

theorem State.JournalLaw.judgeStart (hostLine block : List Byte) : (s.judgeStart hostLine block).JournalLaw := by
  unfold State.judgeStart
  split
  · next hv => exact s.journalLaw_acceptStart hv
  · exact h.failStart _

/-- A poll that arrives may give blocks back to the part, and takes none from it (R124, R157). -/
theorem State.JournalLaw.pollArrives (hostLine : List Byte) : (s.pollArrives hostLine).JournalLaw := by
  cases hu : s.lrc.setup with
  | none =>
    have hstands : s.pollArrives hostLine = s := by simp only [State.pollArrives, hu]
    rwa [hstands]
  | some u =>
    obtain ⟨hjw, -⟩ := State.pollArrives_blocks hu hostLine
    rw [State.polled_jw] at hjw
    have hsetup : (s.pollArrives hostLine).lrc.setup = some u := by rw [(s.leavesTables_pollArrives hostLine).lrc]; exact hu
    have hgives := s.jw.unreleased_judgeReleased (BitVec.ofNat 32 (fieldAt hostLine 4 4))
    obtain ⟨htimer, -, hblocks⟩ := State.journalLaw_iff.1 h
    obtain ⟨hone, hmost, hle, hless, hfree⟩ := hblocks u hu
    rw [State.journalLaw_iff, hsetup, hjw]
    refine ⟨htimer, fun hnone => (nomatch hnone), fun v hv => ?_⟩
    obtain rfl : u = v := Option.some.inj hv
    exact ⟨hone, hmost, hgives.trans hle, hless, fun hsome => hgives.trans_lt (hfree hsome)⟩

theorem State.JournalLaw.fetchArrives (n : Nat) (data : List Byte) : (s.fetchArrives n data).JournalLaw :=
  State.JournalLaw.of_outside (s := s.queued n data) (h.of_jw rfl rfl) (s.fetchArrives_outside n data)

theorem State.JournalLaw.demandArrives (slot : Nat) (f : AtlasFields) : (s.demandArrives slot f).JournalLaw :=
  ((h.of_outside (State.demanded_outside f)).of_outside (State.offerHead_outside _)).candidateSearch

theorem State.JournalLaw.aheadArrives (slot : Nat) (f : AtlasFields) : (s.aheadArrives slot f).JournalLaw :=
  State.JournalLaw.candidateSearch (State.journalLaw_ite
    ((h.of_outside (State.filledForHead_outside f)).of_outside (State.offerHead_outside _)) (h.of_outside (State.filled_outside f)))

theorem State.JournalLaw.discardVoided (place : Nat) : (s.discardVoided place).JournalLaw := by
  have hforget {t : State} (ht : t.JournalLaw) : (t.forget place).JournalLaw := ht.of_jw rfl rfl
  unfold State.discardVoided
  split
  · exact (hforget h.checkContexts).candidateSearch
  · exact (hforget h.checkContexts).candidateSearch
  · exact hforget h
  · exact h

/-- The seal by its timer finds a record in the block, for the timer is present only then (R155). -/
theorem State.JournalLaw.sealTimeout (htimer : s.jw.sealTimer = some 0) : s.sealBlock.JournalLaw := by
  obtain ⟨hpresent, -⟩ := State.journalLaw_iff.1 h
  have hsome : 0 < s.jw.written := hpresent.1 (by rw [htimer]; rfl)
  have hopen : s.sealOpen = s.sealBlock := if_neg (by simpa using hsome.ne')
  exact hopen ▸ h.sealOpen

theorem State.JournalLaw.writePick {u : Setup} (hu : s.lrc.setup = some u) (hfree : s.jw.unreleased < u.blocks) (i : Nat) :
    (s.writePick u i).JournalLaw := by
  have hframe := s.checkPick_frame i
  have hsetup : (s.checkPick i).lrc.setup = some u := (State.setup_of_frame hframe).trans hu
  unfold State.writePick
  dsimp only
  split
  · next r _ =>
    have hwritten := State.recorded_writeRecord hsetup (r.bytes 0)
    have hfreed := hwritten.of_leavesRun (State.leavesRun_of_frame (State.release_frame _ i))
    have hexamined := hfreed.of_leavesRun (State.leavesRun_of_frame (State.examineFences_frame _))
    have hoffered := hexamined.of_leavesRun (State.reoffer_leaves _ s.pm.free).1
    refine (hoffered.filling (h.of_frame hframe) hsetup ?_).closeBlock false
    rwa [Journal.unreleased, State.sealed_of_frame hframe, State.released_of_frame hframe]
  · exact h

theorem State.JournalLaw.writeAdvisory {u : Setup} (hu : s.lrc.setup = some u) (hfree : s.jw.unreleased < u.blocks)
    (r : OutcomeRecord) : (s.writeAdvisory u r).JournalLaw :=
  ((State.recorded_noted hu r).filling h hu hfree).closeBlock _

theorem State.JournalLaw.writeOldest (hblock : s.blockFree = true) : s.writeOldest.JournalLaw := by
  have hfree {u : Setup} (hu : s.lrc.setup = some u) : s.jw.unreleased < u.blocks := by
    simpa [State.blockFree, hu] using hblock
  unfold State.writeOldest
  split
  · next hu _ => exact h.writePick hu (hfree hu) _
  · next hu _ => exact h.writeAdvisory hu (hfree hu) _
  · exact h

end RunStates

/-! ### Every command, and the step -/

/-- The law holds of the next state that a command answers, where it answers one. -/
def Result.KeepsJournal (r : Result) : Prop := ∀ t, r = .next t → t.JournalLaw

theorem keepsJournal_next {t : State} (h : t.JournalLaw) : Result.KeepsJournal (.next t) := by
  rintro u ⟨⟩
  exact h

theorem keepsJournal_attempt {s t : State} {b : Bool} (h : s.JournalLaw) (ht : b = true → t.JournalLaw) :
    Result.KeepsJournal (attempt b s t) := by
  cases b with
  | true => exact keepsJournal_next (ht rfl)
  | false => exact keepsJournal_next h

theorem keepsJournal_action {s t : State} (b : Bool) (h : s.JournalLaw) (ht : t.JournalLaw) :
    Result.KeepsJournal (action b s t) :=
  keepsJournal_next (State.journalLaw_ite ht (h.of_jw rfl rfl))

theorem keepsJournal_wellFormed {r : Result} (i : Instr) (h : r.KeepsJournal) : (wellFormed i r).KeepsJournal := by
  unfold wellFormed
  split
  · exact h
  · exact fun u hu => nomatch hu

section Commands

variable {s : State} (h : s.JournalLaw)
include h

/-- A consumption command leaves the journal's counts (O40). -/
theorem State.JournalLaw.consumption {c : Instr} (hc : c ∈ [Instr.pick, .qualifier, .cancel, .amend, .laneSetup, .atlasDrop,
    .fence, .lightTest, .census, .skip, .unknownKind]) : Result.KeepsJournal (exec c s) := by
  intro t ht
  obtain ⟨hlrc, hsealed, hreleased, hwritten, htimer, -⟩ := consumptionsLeaveTheJournalCountsAlone c s t hc ht
  exact h.of_counts (by rw [hlrc]) hsealed hreleased hwritten (by rw [htimer])

/-- A string event and the abandon, linger and pin timers leave the journal's counts (O56). -/
theorem State.JournalLaw.event {c : Instr} (hc : (∃ n f, c = .moduleReply n f) ∨ (∃ n, c = .exchangeMiss n) ∨
    (∃ n, c = .broadcastEnd n) ∨ (∃ n, c = .settlingEnd n) ∨ (∃ n, c = .lightTestEnd n) ∨ (∃ n, c = .quietPeriod n) ∨
    (∃ n, c = .dormancyTimeout n) ∨ (∃ n l, c = .attentionWake n l) ∨ (∃ n l, c = .feedFault n l) ∨
    (∃ i, c = .abandonTimeout i) ∨ (∃ x y, c = .lingerExpiry x y) ∨ (∃ x, c = .pinTimeout x)) :
    Result.KeepsJournal (exec c s) := by
  intro t ht
  obtain ⟨hlrc, -, -, -, hsealed, hreleased, hwritten, htimer⟩ := stringEventsAndTimersLeaveTheIntakeAlone c s t hc ht
  exact h.of_counts (by rw [hlrc]) hsealed hreleased hwritten (by rw [htimer])

/-- Every command keeps the journal's law. -/
theorem exec_journalLaw (c : Instr) : Result.KeepsJournal (exec c s) := by
  cases c with
  | powerOn => exact keepsJournal_next s.journalLaw_power
  | linkReset => exact keepsJournal_next (s.journalLaw_resetAll _ _)
  | sweepDone => exact keepsJournal_attempt h fun _ => h.of_jw rfl rfl
  | start => exact keepsJournal_action _ h (h.of_jw (by simp [State.issueStart]) (by simp [State.issueStart]))
  | halt => exact keepsJournal_action _ h h.checkContexts.enterHalted
  | resume => exact keepsJournal_action _ h h.checkContexts.enterRunning
  | clear => exact keepsJournal_action _ h s.journalLaw_clearRun
  | reset => exact keepsJournal_next (s.journalLaw_resetAll _ _)
  | prompt => exact keepsJournal_action _ h h.prompt
  | actionOutOfRange v => exact keepsJournal_wellFormed _ (keepsJournal_next (h.of_jw rfl rfl))
  | exbaseWrite hi v => exact keepsJournal_action _ h (State.journalLaw_ite (h.of_jw rfl rfl) (h.of_jw rfl rfl))
  | noticeWrite v => exact keepsJournal_next (h.of_jw (by simp [State.writeNotice]) (by simp [State.writeNotice]))
  | noticeMaskWrite v => exact keepsJournal_next (h.of_jw (s.setNotices_jw _ _) (by simp))
  | faultWhereWrite v => exact keepsJournal_next (h.of_jw rfl rfl)
  | stateRead => exact keepsJournal_next (h.of_jw rfl rfl)
  | registerWriteIgnored o v => exact keepsJournal_wellFormed _ (keepsJournal_next h)
  | startReadArrival hostLine block =>
    exact keepsJournal_wellFormed _ (keepsJournal_attempt h fun _ => h.judgeStart hostLine block)
  | linkReadError r =>
    cases r with
    | voided place => exact keepsJournal_next (h.of_jw rfl rfl)
    | _ => exact keepsJournal_next (h.failAt _ 0)
  | linkReadTimeout r => exact keepsJournal_next (h.failAt r 50)
  | voidedReadArrival place => exact keepsJournal_next (h.discardVoided place)
  | headerPollIssue => exact keepsJournal_attempt h fun _ => h.issuePoll
  | headerPollArrival hostLine => exact keepsJournal_wellFormed _ (keepsJournal_attempt h fun _ => h.pollArrives hostLine)
  | recordFetchArrival data =>
    exact keepsJournal_wellFormed _ (keepsJournal_attempt h fun _ => h.checkContexts.fetchArrives _ data)
  | atlasDemandArrival entry =>
    exact keepsJournal_wellFormed _ (keepsJournal_attempt h fun _ => h.checkContexts.demandArrives _ _)
  | atlasLookaheadArrival entry =>
    exact keepsJournal_wellFormed _ (keepsJournal_attempt h fun _ => h.checkContexts.aheadArrives _ _)
  | sealTimeout =>
    refine keepsJournal_attempt h fun harises => h.sealTimeout ?_
    simp only [Bool.and_eq_true, beq_iff_eq] at harises
    obtain ⟨-, htimer⟩ := harises
    exact htimer
  | journalWrite =>
    refine keepsJournal_attempt h fun harises => h.writeOldest ?_
    simp only [Bool.and_eq_true] at harises
    obtain ⟨⟨-, hblock⟩, -⟩ := harises
    exact hblock
  | pick | qualifier | cancel | amend | laneSetup | atlasDrop | fence | lightTest | census | skip | unknownKind =>
    exact h.consumption (by simp)
  | moduleReply | exchangeMiss | broadcastEnd | settlingEnd | lightTestEnd | quietPeriod | dormancyTimeout | attentionWake
    | feedFault | abandonTimeout | lingerExpiry | pinTimeout => exact h.event (by simp)

end Commands

/-! ### The millisecond -/

section Tick

variable {s : State} (h : s.JournalLaw)
include h

/-- The seal timer counts, and stays present where it is (R155). -/
theorem State.JournalLaw.countClock : s.countClock.JournalLaw :=
  State.journalLaw_ite (h.of_counts rfl rfl rfl rfl Option.isSome_map) h

theorem State.JournalLaw.countRun : s.countRun.JournalLaw := State.journalLaw_ite (h.of_jw rfl rfl) h

theorem State.JournalLaw.countReads : s.countReads.JournalLaw := h.of_jw rfl rfl

theorem State.JournalLaw.sweepOn : s.sweepOn.JournalLaw := State.journalLaw_ite (h.of_jw rfl rfl) h

theorem State.JournalLaw.strike (x : Strike) : (s.strike x).JournalLaw := by
  cases x <;> exact h.of_jw rfl rfl

theorem State.JournalLaw.strikes : s.strikes.JournalLaw := by
  unfold State.strikes
  generalize Config.strikes s.freeIndex = l
  induction l generalizing s with
  | nil => exact h
  | cons x l ih => exact ih (h.strike x)

theorem State.JournalLaw.tick : s.tick.JournalLaw := by
  have hcounted := h.countRun.countClock.countReads
  have hlines : (s.countRun.countClock.countReads.mapStrings StringCtl.count).JournalLaw := hcounted.of_jw rfl rfl
  exact hlines.sweepOn.strikes.of_jw rfl rfl

end Tick

/-- Settles O58: every command and the idle step keep the law. Records and seals change its counts, a poll RELEASED, and a START and
the resets begin it anew; everything else leaves the counts. -/
theorem stepsKeepTheJournalLaw : Obligations.StepsKeepTheJournalLaw := by
  unfold Obligations.StepsKeepTheJournalLaw
  intro s t h ht
  unfold step at ht
  split at ht
  · next c rest _ => exact exec_journalLaw (s := { s with pending := rest }) (h.of_jw rfl rfl) c t ht
  · cases ht
    exact h.tick

end Sys2Proof.Machine
end

section
/-! Proofs of the family of 09 (the outcome journal and notices), second part: the interrupt message (O17), and the seal of a block
by its timer (O47). -/

namespace Sys2Proof.Machine

/-! ### The interrupt message -/

/-- What a raise adds to the flags pending and enabled: its own flag, where it is enabled. -/
theorem enabled_of_raised (flags bit mask : BitVec 6) : (flags ||| bit) &&& mask = flags &&& mask ||| mask &&& bit := by
  rw [BitVec.and_or_distrib_right, BitVec.and_comm bit]

/-- A clear enables no flag. -/
theorem enabled_of_cleared {flags mask : BitVec 6} (gone : BitVec 6) (h : flags &&& mask = 0) : flags &&& ~~~gone &&& mask = 0 := by
  have hswap : flags &&& ~~~gone &&& mask = flags &&& mask &&& ~~~gone := by ac_rfl
  rw [hswap, h]
  exact BitVec.zero_and

section Messages

variable (s : State)

/-- A raise sends the message when its flag is the first that is pending and enabled (R161). -/
theorem State.raise_out (n : Notice) : (s.raise n).out = s.out ++
    if s.lrc.notice &&& s.lrc.mask = 0 ∧ (s.lrc.notice ||| n.bit) &&& s.lrc.mask ≠ 0 then [.message] else [] :=
  s.setNotices_out _ _

/-- The causes of EXCHANGE send no message of their own (R160, R161). -/
theorem State.raiseExchange_out {post release : Bool} (h : (post || release) = true) : (s.raiseExchange post release).out =
    (s.raise .exchange).out := by
  rw [State.raiseExchange, if_pos h, State.raise_out, State.raise_out]
  rfl

/-- A write to NOTICE only clears flags, and sends nothing (R161, R163). -/
theorem State.writeNotice_out (v : Word) : (s.writeNotice v).out = s.out := by
  unfold State.writeNotice
  extract_lets gone keep _ t
  have hquiet : ¬(t.lrc.notice &&& t.lrc.mask = 0 ∧ t.lrc.notice &&& ~~~gone &&& t.lrc.mask ≠ 0) :=
    fun ⟨hempty, hfilled⟩ => hfilled (enabled_of_cleared gone hempty)
  rw [State.setNotices_out, if_neg hquiet, List.append_nil]
  rfl

/-- A raise behind the mask write that enables its flag sends the message; the mask write sends none (R161). -/
theorem State.message_of_raise {n : Notice} {mask : BitVec 6} (hbit : mask &&& n.bit ≠ 0)
    (hempty : s.lrc.notice &&& mask = 0) : ((s.setNotices s.lrc.notice mask).raise n).out = s.out ++ [.message] := by
  have hfills : (s.lrc.notice ||| n.bit) &&& mask ≠ 0 := by
    rw [enabled_of_raised, hempty]
    simpa using hbit
  rw [State.raise_out, State.setNotices_lrc, if_pos ⟨hempty, hfills⟩, State.setNotices_out, if_neg fun ⟨_, hne⟩ => hne hempty,
    List.append_nil]

/-- The mask write behind the raise of a flag not yet enabled sends the message; the raise sends none (R161). -/
theorem State.message_of_maskWrite {n : Notice} {mask : BitVec 6} (hbit : mask &&& n.bit ≠ 0)
    (hold : s.lrc.notice &&& s.lrc.mask = 0) (hempty : s.lrc.notice &&& mask = 0) (hoff : s.lrc.mask &&& n.bit = 0) :
    ((s.raise n).setNotices (s.raise n).lrc.notice mask).out = s.out ++ [.message] := by
  have hquiet : (s.lrc.notice ||| n.bit) &&& s.lrc.mask = 0 := by
    rw [enabled_of_raised, hold, hoff]
    rfl
  have hfills : (s.lrc.notice ||| n.bit) &&& mask ≠ 0 := by
    rw [enabled_of_raised, hempty]
    simpa using hbit
  rw [State.setNotices_out, State.raise_lrc, if_pos ⟨hquiet, hfills⟩, State.raise_out, if_neg fun ⟨_, hne⟩ => hne hquiet,
    List.append_nil]

end Messages

/-- Settles O17: every change of the notices is one State.setNotices, which sends the message when the enabled set fills. -/
theorem messageIsSentWhenTheEnabledSetFills : Obligations.MessageIsSentWhenTheEnabledSetFills := by
  unfold Obligations.MessageIsSentWhenTheEnabledSetFills
  intro s n v mask fills old
  exact ⟨⟨s.raise_lrc n, s.raise_out n⟩, fun flags => ⟨s.setNotices_lrc flags mask, s.setNotices_out flags mask⟩,
    fun post release h => (s.raiseExchange_out h).trans (s.raise_out _),
    ⟨_, rfl, s.setNotices_lrc _ _, s.setNotices_out _ _⟩, ⟨_, rfl, s.writeNotice_out v⟩,
    fun hbit hold hempty hoff => ⟨s.message_of_maskWrite hbit hold hempty hoff, s.message_of_raise hbit hempty⟩⟩

/-! ### The seal -/

/-- A change of the notices sends one message or none (R161). -/
theorem State.setNotices_sends (s : State) (n m : BitVec 6) :
    ∃ more, (s.setNotices n m).out = s.out ++ more ∧ (more = [] ∨ more = [.message]) := by
  refine ⟨_, s.setNotices_out n m, ?_⟩
  split
  · exact .inr rfl
  · exact .inl rfl

theorem State.judgeJournal_sends (s : State) (atSeal : Bool) :
    ∃ more, (s.judgeJournal atSeal).out = s.out ++ more ∧ (more = [] ∨ more = [.message]) := by
  have hstands : ∃ more, s.out = s.out ++ more ∧ (more = [] ∨ more = [.message]) := ⟨[], by simp, .inl rfl⟩
  unfold State.judgeJournal
  split
  · exact hstands
  · split
    · split
      · exact s.setNotices_sends _ _
      · exact hstands
    · split
      · exact s.setNotices_sends _ _
      · exact hstands

/-- At a seal JOURNAL is set once the threshold is reached; below it LATCH keeps it and LEVEL clears it (R159). -/
theorem State.journalFlag_seal {s : State} {u : Setup} (hu : s.lrc.setup = some u) : (s.journalFlag true).getLsbD 0 =
    if u.threshold ≤ s.jw.unreleased then true else u.latch && s.lrc.notice.getLsbD 0 := by
  obtain ⟨hraised, hlowered⟩ := journal_raised_lowered s.lrc.notice
  simp only [State.journalFlag, hu]
  split
  · simpa using hraised
  · cases u.latch with
    | true => rfl
    | false => exact hlowered

/-- The block sealed, with its header and the part line written and JOURNAL still to be judged (R155). -/
def State.sealed (s : State) (u : Setup) : State :=
  let t := s.linkWrite (u.blockOffset s.jw.sealed 0) (blockHeader s.jw.sealed s.jw.written s.jw.lost s.now)
  (t.setJw { t.jw with sealTimer := none, sealed := t.jw.sealed + 1, written := 0 }).partLine

section Seal

variable {s : State} {u : Setup}

theorem State.sealBlock_of_setup (hu : s.lrc.setup = some u) : s.sealBlock = (s.sealed u).judgeJournal true := by
  simp only [State.sealBlock, hu]
  rfl

theorem State.sealed_jw : (s.sealed u).jw = { s.jw with sealed := s.jw.sealed + 1, written := 0, sealTimer := none } := by
  simp [State.sealed]

theorem State.sealed_lrc : (s.sealed u).lrc = s.lrc := by simp [State.sealed]

/-- The header goes out ahead of the part line, which has SEALED advanced (R155). -/
theorem State.sealed_out {b : Addr} (hb : s.lrc.base = some b) : (s.sealed u).out = s.out ++
    [.linkWrite (b + BitVec.ofNat 64 (u.blockOffset s.jw.sealed 0))
      (blockHeader s.jw.sealed s.jw.written s.jw.lost s.lrc.clock),
     .linkWrite (b + 0x40#64)
      (bytesLE 4 s.iu.taken.toNat ++ bytesLE 4 (s.jw.sealed + 1).toNat ++ bytesLE 4 s.pm.free ++
        bytesLE 4 s.lrc.clock.toNat)] := by
  have hline (t : State) (ht : t.lrc.base = some b) : t.partLine.out = t.out ++ [.linkWrite (b + 0x40#64) t.partLineBytes] := by
    rw [State.partLine, t.linkWrite_of_base b ht]
    rfl
  rw [State.sealed, s.linkWrite_of_base b hb]
  refine (hline _ ?_).trans (List.append_assoc _ _ _)
  exact hb

theorem State.sealBlock_out (hu : s.lrc.setup = some u) :
    ∃ more, s.sealBlock.out = (s.sealed u).out ++ more ∧ (more = [] ∨ more = [.message]) := by
  rw [State.sealBlock_of_setup hu]
  exact (s.sealed u).judgeJournal_sends true

theorem State.sealBlock_journal (hu : s.lrc.setup = some u) : s.sealBlock.lrc.notice.getLsbD 0 =
    if u.threshold ≤ (s.jw.sealed + 1 - s.jw.released).toNat then true else u.latch && s.lrc.notice.getLsbD 0 := by
  rw [State.sealBlock_of_setup hu, State.judgeJournal_lrc]
  dsimp only
  rw [State.journalFlag_seal (State.sealed_lrc.symm ▸ hu), State.sealed_lrc, State.sealed_jw]
  rfl

end Seal

/-- Settles O47: the seal is the block sealed with what it writes, and JOURNAL judged behind it. -/
theorem sealTimeoutSealsTheBlock : Obligations.SealTimeoutSealsTheBlock := by
  unfold Obligations.SealTimeoutSealsTheBlock
  intro s u b hrun hu hb
  refine ⟨fun htimer => ?_, fun htimer => attempt_of_not_arises (by simp [htimer]) _ _⟩
  obtain ⟨hjw, -⟩ := s.sealBlock_eq u hu
  obtain ⟨more, hout, hmore⟩ := State.sealBlock_out hu
  have hjournal := State.sealBlock_journal hu
  refine ⟨_, more, attempt_of_arises (by simp [hrun, htimer]) _, hjw, ?_, hmore, fun hreached => ?_, fun hbelow => ?_⟩
  · rw [hout, State.sealed_out hb]
    rfl
  · rw [hjournal, if_pos hreached]
  · rw [hjournal, if_neg (Nat.not_le.2 hbelow)]

end Sys2Proof.Machine
end

section
/-! Proofs of the family of 09 (the outcome journal and notices), third part: the write of the oldest item (O46). -/

namespace Sys2Proof.Machine

/-! ### What the offer of the head puts out -/

section Offer

variable (s : State)

theorem State.reportFault_out (x : FaultTable) (i : Nat) : s.out <+: (s.reportFault x i).out := by
  unfold State.reportFault
  split
  · exact List.prefix_rfl
  · simp [State.raise_out]

theorem State.checkWay_out (i : Nat) : s.out <+: (s.checkWay i).out := by
  unfold State.checkWay
  split
  · exact List.prefix_rfl
  · exact (s.invalidateWay i).reportFault_out _ _

/-- The head lookup may report damaged ways, whose notice sends the message (R98, R99). -/
theorem State.lookup_out (slot : Nat) : s.out <+: (s.lookup slot).1.out := by
  have hset : s.out <+: (s.checkSet slot).out := (s.checkWay_out _).trans (State.checkWay_out _ _)
  unfold State.lookup
  dsimp only
  split
  · simpa [State.setLru] using hset
  · split
    · simpa [State.setLru, State.install, State.setWay] using hset
    · exact hset

theorem State.askAtlas_out (slot : Nat) : s.out <+: (s.askAtlas slot).1.out := by
  have hdemand (t : State) : t.out <+: (t.demand slot).out := by
    unfold State.demand State.readEntry
    split
    · exact List.prefix_rfl
    · refine List.IsPrefix.trans ?_ (State.linkRead_out _ _ _)
      exact List.prefix_rfl
  have hlookup := s.lookup_out slot
  unfold State.askAtlas
  split
  · next heq => rwa [heq] at hlookup
  · next heq =>
    rw [heq] at hlookup
    exact hlookup.trans (hdemand _)

theorem State.offerHead_out : s.out <+: s.offerHead.out := by
  unfold State.offerHead
  split
  · split
    · exact s.askAtlas_out _
    · exact List.prefix_rfl
  · exact List.prefix_rfl

end Offer

/-! ### The record that is written -/

theorem State.linkWrite_out (s : State) (o : Nat) (data : List Byte) : s.out <+: (s.linkWrite o data).out := by
  unfold State.linkWrite
  split
  · exact List.prefix_append _ _
  · exact List.prefix_rfl

theorem State.sealed_out_prefix (s : State) (u : Setup) : s.out <+: (s.sealed u).out := by
  have hline (t : State) (x : Journal) : t.out <+: (t.setJw x).partLine.out := (t.setJw x).linkWrite_out _ _
  exact (s.linkWrite_out _ _).trans (hline _ _)

/-- The journal's counts behind a record, and behind the seal that may follow it (R154, R155). -/
structure State.Counted (s t : State) (u : Setup) (seals : Bool) : Prop where
  released : t.jw.released = s.jw.released
  sealed : t.jw.sealed = if seals then s.jw.sealed + 1 else s.jw.sealed
  written : t.jw.written = if seals then 0 else s.jw.written + 1
  sealTimer : t.jw.sealTimer =
    if seals then none else if s.jw.written = 0 then some u.sealDelay else s.jw.sealTimer

/-- What the closing of a block leaves: the tables, and the report list; what went out before is not taken back. -/
structure State.Closes (s t : State) : Prop where
  pm : t.pm = s.pm
  contexts : t.contexts = s.contexts
  report : t.jw.report = s.jw.report
  lost : t.jw.lost = s.jw.lost
  out : s.out <+: t.out

section Record

variable {s t w : State} {u : Setup}

theorem State.closes_sealBlock (hu : s.lrc.setup = some u) : s.Closes s.sealBlock := by
  obtain ⟨hjw, -, -, -, hpm, hcontexts, -⟩ := s.sealBlock_eq u hu
  obtain ⟨more, hout, -⟩ := State.sealBlock_out hu
  exact ⟨hpm, hcontexts, by rw [hjw], by rw [hjw], (s.sealed_out_prefix u).trans ⟨more, hout.symm⟩⟩

/-- The block closes when the record fills it or is a FENCE-REACHED, and stays open else (R154, R155). -/
theorem State.Recorded.closeBlock (h : s.Recorded t u) (fence : Bool) :
    s.Counted (t.closeBlock u fence) u (s.jw.written + 1 == u.records || fence) ∧ t.Closes (t.closeBlock u fence) := by
  unfold State.closeBlock
  rw [← h.written]
  split
  · next hseals =>
    obtain ⟨hjw, -⟩ := t.sealBlock_eq u h.setup
    refine ⟨⟨?_, ?_, ?_, ?_⟩, State.closes_sealBlock h.setup⟩ <;> rw [hjw]
    · exact h.released
    · rw [if_pos hseals, ← h.sealed]
    · rw [if_pos hseals]
    · rw [if_pos hseals]
  · next hopen =>
    refine ⟨⟨h.released, ?_, ?_, ?_⟩, rfl, rfl, rfl, rfl, List.prefix_rfl⟩
    · rw [if_neg hopen, h.sealed]
    · rw [if_neg hopen, h.written]
    · rw [if_neg hopen, h.sealTimer]

/-- The record goes out to its place in the open block (R113, R154). -/
theorem State.writeRecord_out {b : Addr} (hb : s.lrc.base = some b) (data : List Byte) : (s.writeRecord u data).out =
    s.out ++ [.linkWrite (b + BitVec.ofNat 64 (u.blockOffset s.jw.sealed (s.jw.written + 1))) data] := by
  rw [State.writeRecord, s.linkWrite_of_base b hb]
  rfl

theorem State.writeRecord_report (data : List Byte) : (s.writeRecord u data).jw.report = s.jw.report.tail := by
  simp [State.writeRecord]

theorem State.writeRecord_lrc (data : List Byte) : (s.writeRecord u data).lrc = s.lrc := by simp [State.writeRecord]

theorem State.writeRecord_pm (data : List Byte) : (s.writeRecord u data).pm = s.pm := by simp [State.writeRecord]

theorem State.writeRecord_contexts (data : List Byte) : (s.writeRecord u data).contexts = s.contexts := by
  simp [State.writeRecord]

end Record

/-! ### JOURNAL_WRITE by the item -/

section Item

variable {s : State} {u : Setup}

theorem State.blockFree_iff (hu : s.lrc.setup = some u) : s.blockFree = true ↔ s.jw.unreleased < u.blocks := by
  simp [State.blockFree, hu]

theorem exec_journalWrite (hrun : s.inRun = true) (hu : s.lrc.setup = some u) (hfree : s.jw.unreleased < u.blocks)
    (hitem : s.jw.report ≠ []) : exec .journalWrite s = .next s.writeOldest :=
  attempt_of_arises (by simp [hrun, (State.blockFree_iff hu).2 hfree, hitem]) _

theorem State.finalRecord_of_reporting {i : Nat} {p : Pick} {o : Outcome} (hp : s.pickAt i = some p)
    (hstage : p.stage = .reporting o) : s.finalRecord i = some (p.record o) := by
  simp only [State.finalRecord, hp, hstage]

end Item

/-! ### The fence list behind the write -/

section Fences

variable {s t : State}

theorem State.fenceRecord_of_lrc (h : t.lrc = s.lrc) : t.fenceRecord = s.fenceRecord := by
  funext f
  simp only [State.fenceRecord, State.advisory, State.now, h]

theorem State.fenceReached_of_entries (h : t.pm.entries = s.pm.entries) : t.fenceReached = s.fenceReached := by
  funext f
  simp only [State.fenceReached, h]

theorem State.takeFences_out (s : State) (fs : List Fence) : (s.takeFences fs).out = s.out := by
  induction fs generalizing s with
  | nil => rfl
  | cons f fs ih =>
    unfold State.takeFences
    split
    · exact ih _
    · rfl

/-- The first `k` fences have left the list with their advisories, and behind these nothing but closing advisories of strings has
joined the report list; no other fence is reached (R146). -/
structure State.FencesPass (s t : State) (k : Nat) : Prop where
  few : k ≤ s.pm.fences.length
  pm : t.pm = { s.pm with fences := s.pm.fences.drop k }
  report : s.Reported t ((s.pm.fences.take k).map fun f => Item.advisory (s.fenceRecord f))
  reached : ∀ f ∈ s.pm.fences.take k, s.fenceReached f = true
  first : ∀ f, t.pm.fences.head? = some f → s.fenceReached f = false
  out : s.out <+: t.out
  undamaged : t.Undamaged

/-- The list that the journal's write leaves has no reached fence at its front (R146). -/
theorem State.Undamaged.fencesPass_examineFences (h : s.Undamaged) : ∃ k, s.FencesPass s.examineFences k := by
  obtain ⟨k, hfew, hpasses, hfirst⟩ := State.judgeFences_passes h.picks
  refine ⟨k, ?_⟩
  by_cases hnone : s.pm.fences = []
  · have hstands : s.examineFences = s := by simp [State.examineFences, hnone]
    have hjudged : s.judgeFences = s := by simp [State.judgeFences, hnone]
    rw [hjudged] at hpasses hfirst
    rw [hstands]
    exact ⟨hfew, hpasses.pm, ⟨[], by simpa using hpasses.report, by simp⟩, hpasses.reached, hfirst, List.prefix_rfl, h⟩
  · have hexamine : s.examineFences = s.judgeFences.kick := by
      simp [State.examineFences, hnone, s.checkContexts_of_intact h.contexts]
    have hjudged : s.judgeFences.out = s.out := by
      simp [State.judgeFences, hnone, s.checkPicks_of_intact h.picks, State.takeFences_out]
    have hreport : s.Reported s.judgeFences ((s.pm.fences.take k).map fun f => Item.advisory (s.fenceRecord f)) :=
      ⟨[], by rw [hpasses.report, List.append_nil], by simp⟩
    rw [hexamine]
    refine ⟨hfew, (State.kick_pm _).trans hpasses.pm, hreport.trans (State.kick_reported _), hpasses.reached, ?_, ?_, ?_⟩
    · rwa [State.kick_pm]
    · have hkick := s.judgeFences.kick_out
      rwa [hjudged] at hkick
    · exact (h.takesFences_judgeFences.follows h).undamaged.follows_kick.undamaged

/-- A head that waited for the freed entry is offered again, which changes no table and puts no item but closing advisories of
strings on the report list (R8, R96). -/
theorem State.FencesPass.reoffer {k : Nat} (h : s.FencesPass t k) (free : Nat) : s.FencesPass (t.reoffer free) k := by
  have hundamaged := (h.undamaged.follows_reoffer free).undamaged
  revert hundamaged
  unfold State.reoffer
  split
  · rw [t.checkContexts_of_intact h.undamaged.contexts]
    intro hundamaged
    have houtside := t.offerHead_outside
    have hpm : t.offerHead.kick.pm = t.pm := (State.kick_pm _).trans (State.pm_of_outside houtside)
    have hoffered := h.report.trans (State.reported_of_jw (State.jw_of_outside houtside))
    exact ⟨h.few, hpm.trans h.pm, hoffered.trans (State.kick_reported _), h.reached, by rw [hpm]; exact h.first,
      (h.out.trans t.offerHead_out).trans (State.kick_out _), hundamaged⟩
  · exact fun _ => h

theorem State.FencesPass.closes {w : State} {k : Nat} (h : s.FencesPass t k) (hw : t.Closes w) : s.FencesPass w k where
  few := h.few
  pm := hw.pm.trans h.pm
  report := by
    obtain ⟨more, hreport, hcloses⟩ := h.report
    exact ⟨more, hw.report.trans hreport, hcloses⟩
  reached := h.reached
  first := by rw [hw.pm]; exact h.first
  out := h.out.trans hw.out
  undamaged := h.undamaged.of_tables (by rw [hw.pm]) hw.contexts

end Fences

/-! ### The two items -/

/-- A pick's final record written and its entry FREE, before the fence list is examined (R8, R154). -/
def State.freed (s : State) (u : Setup) (i : Nat) (r : OutcomeRecord) : State := (s.writeRecord u (r.bytes 0)).release i

section Write

variable {s : State} {u : Setup}

theorem State.writeAdvisory_eq (r : OutcomeRecord) :
    s.writeAdvisory u r = (s.noted u r).closeBlock u (r.kind == .fenceReached) := rfl

theorem State.recorded_freed (hu : s.lrc.setup = some u) (i : Nat) (r : OutcomeRecord) : s.Recorded (s.freed u i r) u :=
  (State.recorded_writeRecord hu _).of_leavesRun (State.leavesRun_of_frame (State.release_frame _ i))

section Freed

variable (i : Nat) (r : OutcomeRecord)

theorem State.freed_pm : (s.freed u i r).pm =
    { s.pm with entries := s.pm.entries.set i { parity := true, pick := none }, free := s.pm.free + 1 } := by
  have hrelease (w : State) : (w.release i).pm =
      { w.pm with entries := w.pm.entries.set i { parity := true, pick := none }, free := w.pm.free + 1 } := rfl
  rw [State.freed, hrelease, State.writeRecord_pm]

theorem State.freed_lrc : (s.freed u i r).lrc = s.lrc := State.writeRecord_lrc _

theorem State.freed_report : (s.freed u i r).jw.report = s.jw.report.tail := State.writeRecord_report _

theorem State.freed_out {b : Addr} (hb : s.lrc.base = some b) : (s.freed u i r).out =
    s.out ++ [.linkWrite (b + BitVec.ofNat 64 (u.blockOffset s.jw.sealed (s.jw.written + 1))) (r.bytes 0)] :=
  State.writeRecord_out hb _

end Freed

theorem State.Undamaged.freed (h : s.Undamaged) (i : Nat) (r : OutcomeRecord) : (s.freed u i r).Undamaged := by
  have hwritten : (s.writeRecord u (r.bytes 0)).Undamaged :=
    h.of_tables (by rw [State.writeRecord_pm]) (State.writeRecord_contexts _)
  exact (hwritten.setPick i none).of_tables rfl rfl

theorem State.writePick_eq (h : s.Undamaged) {i : Nat} {r : OutcomeRecord} (hr : s.finalRecord i = some r) :
    s.writePick u i = ((s.freed u i r).examineFences.reoffer s.pm.free).closeBlock u false := by
  simp only [State.writePick, s.checkPick_of_intact h.picks, hr]
  rfl

/-- The fences pass on the table that the write leaves, and the seal behind them changes no table (log 26). -/
theorem State.writePick_passes (h : s.Undamaged) (hu : s.lrc.setup = some u) {i : Nat} {r : OutcomeRecord}
    (hr : s.finalRecord i = some r) : s.Counted (s.writePick u i) u (s.jw.written + 1 == u.records) ∧
      ∃ k, (s.freed u i r).FencesPass (s.writePick u i) k := by
  obtain ⟨k, hexamined⟩ := (h.freed (u := u) i r).fencesPass_examineFences
  have hrecorded := (State.recorded_freed hu i r).of_leavesRun (State.leavesRun_of_frame (State.examineFences_frame _))
  obtain ⟨hoffer, -⟩ := State.reoffer_leaves (s.freed u i r).examineFences s.pm.free
  obtain ⟨hcounted, hcloses⟩ := (hrecorded.of_leavesRun hoffer).closeBlock false
  rw [Bool.or_false] at hcounted
  rw [State.writePick_eq h hr]
  exact ⟨hcounted, k, (hexamined.reoffer _).closes hcloses⟩

end Write

/-- Settles O46: each item by the record that is written of it; behind a pick's record the fence list is examined and the head may
be offered again, and the closing conditions are judged last (log 26). -/
theorem journalWritesTheOldestItem : Obligations.JournalWritesTheOldestItem := by
  unfold Obligations.JournalWritesTheOldestItem
  intro s u b hi hrun hu hb free place counted
  have hcounts {t : State} {seals : Bool} (h : s.Counted t u seals) : counted t seals :=
    ⟨h.released, h.sealed, h.written, h.sealTimer⟩
  have hwrites (hfree : free) {x : Item} {rest : List Item} (hitem : s.jw.report = x :: rest) :
      exec .journalWrite s = .next s.writeOldest := exec_journalWrite hrun hu hfree (by simp [hitem])
  refine ⟨fun i rest p o hfree hitem hp hstage => ?_, fun r rest hfree hitem => ?_, fun hnothing => ?_⟩
  · have hexec := hwrites hfree hitem
    simp only [State.writeOldest, hu, hitem] at hexec
    have hr := State.finalRecord_of_reporting hp hstage
    obtain ⟨hcounted, k, hfew, hpm, ⟨closings, hreport, hclosings⟩, hreached, hfirst, ⟨more, hmore⟩, -⟩ :=
      State.writePick_passes hi.undamaged hu hr
    have hjudged : (s.writePick u i).fenceReached = (s.freed u i (p.record o)).fenceReached :=
      State.fenceReached_of_entries (by rw [hpm])
    rw [State.freed_out i _ hb] at hmore
    rw [State.freed_report, hitem, List.tail_cons, State.fenceRecord_of_lrc (State.freed_lrc i _)] at hreport
    rw [← hjudged] at hreached hfirst
    rw [State.freed_pm] at hfew hpm hreport hreached
    have hlost := State.lost_of_ground (s.writePick_ground u i)
    refine ⟨_, more, _, hexec, ?_, ?_, by rw [hpm], by rw [hreport, List.append_assoc], hlost, hcounts hcounted, k, hfew,
      closings, rfl, hclosings, by rw [hpm], hreached, hfirst⟩
    · rw [← hmore]
      exact List.append_assoc _ _ _
    · rw [State.pickAt, hpm]
      simp [List.getElem?_set]
  · have hexec := hwrites hfree hitem
    obtain ⟨hcounted, hcloses⟩ := (State.recorded_noted hu r).closeBlock (r.kind == .fenceReached)
    obtain ⟨more, hmore⟩ := hcloses.out
    have hout : (s.noted u r).out = s.out ++ [.linkWrite place (r.bytes s.jw.lost)] := State.writeRecord_out hb _
    have hreport : (s.noted u r).jw.report = s.jw.report.tail := State.writeRecord_report _
    rw [← State.writeAdvisory_eq] at hcounted hcloses hmore
    simp only [State.writeOldest, hu, hitem] at hexec
    refine ⟨_, more, hexec, ?_, hcloses.report.trans (hreport.trans (congrArg List.tail hitem)), hcloses.lost,
      hcloses.pm.trans (State.writeRecord_pm _), hcounts hcounted⟩
    rw [← hmore, hout]
    exact List.append_assoc _ _ _
  · refine attempt_of_not_arises ?_ _ _
    obtain hfull | hnone := hnothing
    · have hblock : s.blockFree = false := by simpa using mt (State.blockFree_iff hu).1 hfull
      simp [hblock]
    · simp [hnone]

end Sys2Proof.Machine
end
